-- ==== Sys2Proof/Word.lean ====
section
/-! DEFINITION. The byte of the hall line and of the serial memory. -/

namespace Sys2Proof

/-- One data byte of a telegram (R169) or of the serial memory (12.6). -/
abbrev Byte := BitVec 8

end Sys2Proof
end

