-- ==== Sys2Proof/Syntax.lean ====
section
/-! DEFINITION. The commands of the block: one constructor of `Instr` for each row of spec/opcode_table.json. -/

namespace Sys2Proof

/-- The six video inputs (4.6). -/
inductive Input where
  | in1 | in2 | in3 | in4 | in5 | in6
deriving DecidableEq, Repr

/-- Six like things, one for each input. -/
structure Six (α : Type) where
  in1 : α
  in2 : α
  in3 : α
  in4 : α
  in5 : α
  in6 : α
deriving DecidableEq, Repr

/-- A telegram (R169, 12.1): its kind, origin and destination codes and its body. -/
structure Telegram where
  kind : Byte
  origin : Byte
  dest : Byte
  body : List Byte
deriving DecidableEq, Repr

/-- What the surroundings present at a power-on: the strap pins (R180), the levels of the two ballast inputs, and
what was written to the serial memory while the part was off or held in reset (12.5, R38), as address and byte. -/
structure PowerUp where
  station : Fin 32
  format : Fin 4
  rate : Fin 4
  memory : Bool
  litSense : Bool
  supplyLow : Bool
  toolWrites : List (Nat × Byte)
deriving DecidableEq, Repr

/-- A reading of the lamp-zone sensor (R17): a temperature in whole °C, or an open or shorted sensor. -/
inductive Sensor where
  | celsius (degrees : Int)
  | openCircuit
  | shorted
deriving DecidableEq, Repr

/-- What the receiver reads on the line (R172): a whole character with its marker and data byte, a character whose stop
bit reads dominant other than the start of a break, a break, and the line idle after it was not. -/
inductive LineSignal where
  | char (marker : Bool) (data : Byte)
  | badStop
  | lineBreak
  | lineIdle
deriving DecidableEq, Repr

/-- A reading of the key switch contacts (R150). -/
inductive KeyReading where
  | normal
  | locked
  | service
  | between
deriving DecidableEq, Repr

/-- The commands. Each docstring names the row of spec/opcode_table.json and its rule. -/
inductive Instr where
  /-- POWER_ON, R182 -/
  | powerOn (p : PowerUp)
  /-- SECOND_PASS, R181: `silent` names the zones whose read the memory did not answer within 100 ms. -/
  | secondPass (silent : List Nat)
  /-- RECEIVER_ENABLED, R182 -/
  | receiverEnabled
  /-- SENDING_ATTEMPT, R170: the line has been recessive for `idle` µs. The first since the line last was dominant stands
  for the end of the idle time, if no `lineIdle` was read before it (log 44). -/
  | sendingAttempt (idle : Nat)
  /-- LOSS, R170 -/
  | loss
  /-- LINE_FAULT, R170 -/
  | lineFault
  /-- OWN_ECHO, R170 -/
  | ownEcho
  /-- RECEIVE_ERROR, R172. Here and in the rows of received telegrams, the signals read on the line since the last such
  row, oldest first; the last of them brings the row about. Of a telegram to which the line was lost (R170) all characters
  are given, the ones before the LOSS, which are the own telegram's too, among them. -/
  | receiveError (signals : List LineSignal)
  /-- REQUEST_ARRIVAL, R174 -/
  | requestArrival (signals : List LineSignal)
  /-- ANSWER, R173: a received ANSWER. -/
  | answer (signals : List LineSignal)
  /-- GROUP_ON, R104: the dispatcher takes a GROUP_ON from the head of the request queue. -/
  | groupOn
  /-- GROUP_OFF, R104 -/
  | groupOff
  /-- LEVEL, R108 -/
  | level
  /-- SHOW, R125 -/
  | showInput
  /-- CORNERS, R47 -/
  | corners
  /-- LOCK, R146 -/
  | lock
  /-- UNLOCK, R148 -/
  | unlock
  /-- SLOT_PUT, R161 -/
  | slotPut
  /-- SLOT_DROP, R162 -/
  | slotDrop
  /-- CLEAR_FAULT, R23 -/
  | clearFault
  /-- LAMP_NEW, R41 -/
  | lampNew
  /-- RESTART, R178 -/
  | restart
  /-- QUERY_WEAR, R43 -/
  | queryWear
  /-- QUERY_LOCKS, R152 -/
  | queryLocks
  /-- QUERY_SLOT, R168 -/
  | querySlot
  /-- QUERY_CORNERS, R63 -/
  | queryCorners
  /-- BEACON, R65 -/
  | beacon (signals : List LineSignal)
  /-- CONFIRM_WINDOW_EXPIRY, R67: of the HEARD entry of `station`. -/
  | confirmWindowExpiry (station : Nat)
  /-- PRESENCE_TIMER_EXPIRY, R69: of the PRESENT or STALE entry of `station`. -/
  | presenceTimerExpiry (station : Nat)
  /-- FRESH_END, R75 -/
  | freshEnd
  /-- DUPLICATE_TIMER_EXPIRY, R78 -/
  | duplicateTimerExpiry
  /-- BEACON_TIMER_EXPIRY, R79 -/
  | beaconTimerExpiry
  /-- BEACON_SPACING_EXPIRY, R81 -/
  | beaconSpacingExpiry
  /-- LINE_QUALITY_MINUTE, R179 -/
  | lineQualityMinute
  /-- CLAIM, R86 -/
  | claim (signals : List LineSignal)
  /-- RELEASE, R87 -/
  | release (signals : List LineSignal)
  /-- AGE_TIMER_EXPIRY, R88: of the Claim List entry of `station`. -/
  | ageTimerExpiry (station : Nat)
  /-- CLAIM_RENEWAL, R5 -/
  | claimRenewal
  /-- LIT_SENSE, R7 -/
  | litSense
  /-- DROPOUT, R16: lit sense is lost. -/
  | dropout
  /-- LIT_SENSE_WAIT_EXPIRY, R7 -/
  | litSenseWaitExpiry
  /-- RETRY_GAP_EXPIRY, R8 -/
  | retryGapExpiry
  /-- WARM_UP_EXPIRY, R9 -/
  | warmUpExpiry
  /-- RAMP_STEP, R10 -/
  | rampStep
  /-- LIT_SECOND, R11 -/
  | litSecond
  /-- COOL_DOWN_EXPIRY, R15 -/
  | coolDownExpiry
  /-- RESTRIKE_GUARD_EXPIRY, R15 -/
  | restrikeGuardExpiry
  /-- DROPOUT_WINDOW_EXPIRY, R16 -/
  | dropoutWindowExpiry
  /-- FAN_STALL, R20 -/
  | fanStall
  /-- FAN_TEST_EXPIRY, R23 -/
  | fanTestExpiry
  /-- TACHOMETER_RUNNING, R6 -/
  | tachometerRunning
  /-- TACHOMETER_STALLED, R7 -/
  | tachometerStalled
  /-- SUPPLY_LOW_ASSERTED, R19 -/
  | supplyLowAsserted
  /-- SUPPLY_LOW_RELEASED, R4 -/
  | supplyLowReleased
  /-- TEMPERATURE_SAMPLE, R17 -/
  | temperatureSample (reading : Sensor)
  /-- WRITE_COMPLETION, R37: `readBack` is the record read back, which is what zone 6 now holds. -/
  | writeCompletion (readBack : List Byte)
  /-- WRITE_TIMEOUT, R37: `held` is what zone 6 then holds. -/
  | writeTimeout (held : List Byte)
  /-- COMPUTATION_END, R54 -/
  | computationEnd
  /-- LOAD_SENT, R55 -/
  | loadSent
  /-- LOAD_ACKNOWLEDGEMENT, R55 -/
  | loadAcknowledgement (identity attempt : Nat)
  /-- LOAD_REFUSAL, R55 -/
  | loadRefusal (identity attempt : Nat)
  /-- LOAD_WAIT_EXPIRY, R55 -/
  | loadWaitExpiry
  /-- SWAP_REPORT, R58 -/
  | swapReport (identity : Nat)
  /-- SWAP_REQUEST_REPEAT, R57 -/
  | swapRequestRepeat
  /-- SWAP_WAIT_TIMEOUT, R57 -/
  | swapWaitTimeout
  /-- PRESENCE_SAMPLE, R122: whether each presence line is asserted. -/
  | presenceSample (lines : Six Bool)
  /-- LOCK_REPORT, R132 -/
  | lockReport (input : Input)
  /-- SWITCH_TIMER_EXPIRY, R132 -/
  | switchTimerExpiry
  /-- HOLD_TIMER_EXPIRY, R134 -/
  | holdTimerExpiry
  /-- IDLE_TIMER_EXPIRY, R136 -/
  | idleTimerExpiry
  /-- KEYPAD_POWER, R105: the samples of the key taken since the last ones given, oldest first (R142; true is closed). -/
  | keypadPower (samples : List Bool)
  /-- KEYPAD_SOURCE, R126 -/
  | keypadSource (samples : List Bool)
  /-- KEYPAD_V_PLUS, R48 -/
  | keypadVPlus (samples : List Bool)
  /-- KEYPAD_V_MINUS, R48 -/
  | keypadVMinus (samples : List Bool)
  /-- KEYPAD_CLEAR, R23 -/
  | keypadClear (samples : List Bool)
  /-- KEY_SWITCH_SETTLE, R151: the samples of the key switch taken since the last ones given, oldest first (R150). -/
  | keySwitchSettle (samples : List KeyReading)
  /-- LOCK_MINUTE_TIMER_EXPIRY, R147: of the timed lock held by `station`. -/
  | lockMinuteTimerExpiry (station : Nat)
  /-- CLOCK_SECOND, R154 -/
  | clockSecond
  /-- MINUTE_CHANGE, R164 -/
  | minuteChange
  /-- TIME, R156 -/
  | time (signals : List LineSignal)
  /-- SURE_TIMER_EXPIRY, R155 -/
  | sureTimerExpiry
  /-- SLEW_TIMER_EXPIRY, R158 -/
  | slewTimerExpiry
  /-- SHORTFALL_TIMER_EXPIRY, R118 -/
  | shortfallTimerExpiry
  /-- TELEGRAM_OF_UNKNOWN_KIND, R173 -/
  | telegramOfUnknownKind (signals : List LineSignal)
deriving DecidableEq, Repr

end Sys2Proof
end

