-- ==== Sys2Proof/Decode.lean ====
section
/-! DEFINITION. The commands that words spell: none, as no row of spec/opcode_table.json gives bits. -/

namespace Sys2Proof

/-- The command a word of `nbits` bits spells by the table. No row of the table gives bits. -/
def decodeTableWord (_nbits _w : Nat) : Option Instr := none

end Sys2Proof
end

