-- ==== Sys2Proof/Config.lean ====
section
/-! DEFINITION. What an implementation fixes and the free values of the model. -/

namespace Sys2Proof

/-- The spread, in ms, drawn at the n-th start of the beacon timer: "a spread of 0 to 63 ms drawn afresh each
time it is started" (R79). FREE VALUE: no body, so nothing can be proved of it but its bound (log 7). -/
opaque Config.beaconSpread : Nat → Fin 64

/-- How many further records of a table being loaded have gone on the scaler link when its sending is next looked at:
the spec bounds the time of a load, and does not say how many records have been sent at a moment of it (R55). FREE
VALUE: no body, so nothing can be proved of it (log 26). -/
opaque Config.recordsSent : Nat → Nat

/-- What a byte of the serial memory reads as while it is not listed: 255, an erased byte (R35's note).
DESIGN CHOICE, unsafe (log 4). -/
def Config.unlistedByte : Byte := 255

/-- "The serial memory is a 512-byte store" (12.6). -/
def Config.memorySize : Nat := 512

end Sys2Proof
end

