-- ==== Sys2Proof/Machine/State.lean ====
section
/-! DEFINITION. The state of the Hevrun 436 as plain data, its reset value, and the reasons a step can stop. -/

namespace Sys2Proof.Machine

/-- A timer: stopped (`none`), or running with the length in ms it was last started for. Time left is not held (log 1). -/
abbrev Timer := Option Nat

/-! ### Straps and settings -/

/-- The line rate (R169, R180): 31.25, 62.5 or 125 kbit/s. -/
inductive LineRate where
  | kbit31
  | kbit62
  | kbit125
deriving DecidableEq, Repr

/-- The values taken from the strap pins in pass one (R180). -/
structure Straps where
  /-- The own station number, 1 to 31. -/
  number : Nat
  /-- The station number pins read 0. -/
  zeroStrap : Bool
  format : Fin 4
  rate : LineRate
  memory : Bool
deriving DecidableEq, Repr

/-- Who pushed a source list entry (R121). -/
inductive Origin where
  | keypad
  | station (n : Nat)
  | schedule
deriving DecidableEq, Repr

/-- An entry of the source list (R121). -/
structure SourceEntry where
  input : Input
  origin : Origin
deriving DecidableEq, Repr

/-- The personality values in force, from zones 1 to 3 (R181). Times are in the units of the zone tables. -/
structure Settings where
  group : Nat
  circuit : Nat
  budget : Nat
  defaultLevel : Nat
  interval : Nat
  signalWake : Bool
  life : Nat
  warmUp : Nat
  coolDown : Nat
  restrike : Nat
  pMin : Nat
  tWarn : Nat
  tShut : Nat
  hold : Nat
  idle : Nat
  initialList : List SourceEntry
deriving DecidableEq, Repr

/-- Which of zones 1 to 5 were loaded with their defaults (R181). -/
structure Zones where
  identity : Bool
  lamp : Bool
  sources : Bool
  corners : Bool
  slots : Bool
deriving DecidableEq, Repr

/-- How far the start has come (R182). -/
structure StartUp where
  passTwo : Bool
  receiver : Bool
  defaulted : Zones
  /-- The address at which zone 6 was located (R185), absent where it has no place. -/
  wearPlace : Option Nat
deriving DecidableEq, Repr

/-- The judgement of the tachometer (R2); not made yet right after power-on (R27). -/
inductive Tacho where
  | unjudged
  | running
  | stalled
deriving DecidableEq, Repr

/-- The levels of the ballast inputs and the tachometer's judgement. -/
structure Pins where
  litSense : Bool
  supplyLow : Bool
  tacho : Tacho
deriving DecidableEq, Repr

/-! ### Lamp Controller -/

/-- The phase within STRIKING (R1). -/
inductive Phase where
  | attempt
  | gap
deriving DecidableEq, Repr

/-- The lamp state (R1). -/
inductive LampState where
  | dark
  | waiting
  | striking (phase : Phase)
  | warming
  | lit
  | cooling
  | fault
deriving DecidableEq, Repr

/-- The set of latched faults (R1). -/
structure LampFaults where
  thermal : Bool
  noStrike : Bool
  dropout : Bool
  supply : Bool
  fan : Bool
deriving DecidableEq, Repr

/-- The names of the lamp faults (4.4). -/
inductive LampFault where
  | thermal
  | noStrike
  | dropout
  | supply
  | fan
deriving DecidableEq, Repr

/-- The state of the Lamp Controller (R1). -/
structure Lamp where
  state : LampState
  attempts : Nat
  relight : Bool
  faults : LampFaults
  cap : Nat
  heldP : Nat
  target : Nat
  actual : Nat
  /-- The latest temperature sample (R17). -/
  temperature : Nat
  litWait : Timer
  retryGap : Timer
  warmUp : Timer
  coolDown : Timer
  restrike : Timer
  renewal : Timer
  dropoutWindow : Timer
  fanStall : Timer
  fanTest : Timer
deriving DecidableEq, Repr

/-! ### Wear Accountant -/

/-- The outcome of the most recent record write (2.1). -/
inductive WriteOutcome where
  | notWritten
  | ok
  | failed
deriving DecidableEq, Repr

/-- A record write in progress: the values taken at its start and the attempt, 1 or 2 (R37). -/
structure RecordWrite where
  accumulator : Nat
  strikes : Nat
  attempt : Nat
deriving DecidableEq, Repr

/-- The state of the Wear Accountant (2.1). The write state is WRITING exactly while `write` is present. -/
structure Wear where
  accumulator : Nat
  strikes : Nat
  valid : Bool
  litTime : Nat
  lifeHold : Bool
  write : Option RecordWrite
  writeAgain : Bool
  outcome : WriteOutcome
deriving DecidableEq, Repr

/-! ### Geometry Engine -/

/-- A corner set: six pulls (3.2). -/
structure CornerSet where
  top : Nat
  bot : Nat
  lt : Nat
  lb : Nat
  rt : Nat
  rb : Nat
deriving DecidableEq, Repr

inductive EngineState where
  | idle
  | computing
  | loading
  | swapWait
deriving DecidableEq, Repr

/-- A line record (3.4). A blank record carries all four values as 0 (R51). -/
structure LineRecord where
  blank : Bool
  xl : Int
  xr : Int
  source : Int
  step : Int
deriving DecidableEq, Repr

/-- The state of the Geometry Engine (R45) with the table it computes and sends (R54, R55) and its three waits (R55,
R57). -/
structure Geometry where
  state : EngineState
  active : CornerSet
  activeId : Nat
  f : Nat
  inFlight : Option CornerSet
  inFlightId : Option Nat
  lastId : Nat
  inFlightF : Option Nat
  /-- The table of the in-flight set, one record for each output line, complete from the end of COMPUTING (R54). -/
  inFlightTable : Option (List LineRecord)
  /-- How many of its records, from line 0, have gone on the scaler link in the load attempt (R55). -/
  linesSent : Nat
  pendingSet : Option CornerSet
  attempt : Nat
  v : Int
  refreshDue : Bool
  failure : Bool
  loadWait : Timer
  swapRepeat : Timer
  swapTimeout : Timer
  /-- How often `Config.recordsSent` has been drawn: the model's own counter for the free value (log 26). -/
  linkDraws : Nat
deriving DecidableEq, Repr

/-! ### Scopes, holders, group values -/

/-- A set of lock scopes (8.1); also the lock summary. -/
structure Scopes where
  lamp : Bool
  power : Bool
  source : Bool
  geometry : Bool
  keys : Bool
deriving DecidableEq, Repr

/-- Who holds a lock (R140). -/
inductive Holder where
  | keySwitch
  | wear
  | schedule
  | station (n : Nat)
deriving DecidableEq, Repr

/-- A lock (R140). Its 60 s minute timer runs exactly while `minutes` is present. -/
structure Lock where
  holder : Holder
  scopes : Scopes
  minutes : Option Nat
deriving DecidableEq, Repr

/-- What turned the group on (R101). -/
inductive OnCause where
  | schedule
  | request
  | keypad
  | signal
deriving DecidableEq, Repr

/-- Whether the own station has put itself in the lit set (R101). -/
inductive Selection where
  | unselected
  | elected
  | grown
deriving DecidableEq, Repr

/-- The nine beacon flags (5.6). -/
structure BeaconFlags where
  fresh : Bool
  busy : Bool
  shortfall : Bool
  linePoor : Bool
  attention : Bool
  aged : Bool
  clockSure : Bool
  duplicate : Bool
  service : Bool
deriving DecidableEq, Repr

/-- The state of the Group Coordinator (R101). `mode` is the ON cause, absent while the mode is OFF. -/
structure Group where
  mode : Option OnCause
  levelOverride : Option Nat
  slotLevel : Option Nat
  selection : Selection
  shortTimer : Timer
  growth : Nat
  p : Nat
  unclamped : Nat
  shortfall : Bool
deriving DecidableEq, Repr

/-! ### Peer Table -/

inductive StationKind where
  | projector
  | panel
  | clock
deriving DecidableEq, Repr

inductive PresenceState where
  | heard
  | present
  | stale
deriving DecidableEq, Repr

/-- What a beacon tells of its station (R64, 12.2). `hours` is absent for wear UNKNOWN. -/
structure PeerInfo where
  kind : StationKind
  group : Nat
  circuit : Nat
  interval : Nat
  lamp : LampState
  actual : Nat
  f : Nat
  hours : Option Nat
  band : Nat
  shown : Option Input
  mode : Option OnCause
  summary : Scopes
  flags : BeaconFlags
deriving DecidableEq, Repr

/-- An entry of the Peer Table (R64). -/
structure Peer where
  station : Nat
  info : PeerInfo
  presence : PresenceState
  misses : Nat
  timer : Timer
deriving DecidableEq, Repr

/-- The listening conditions and beacon timers of the own station (R74 to R81). FRESH and DUPLICATE stand exactly
while their timers run. -/
structure Listen where
  fresh : Timer
  duplicate : Timer
  beacon : Timer
  spacing : Timer
  /-- How many spreads of R79 have been drawn: the model's own counter for the free value (log 7). -/
  draws : Nat
deriving DecidableEq, Repr

/-- An entry of the Claim List (R84); the own entry has no age timer. -/
structure ClaimEntry where
  claimant : Nat
  age : Timer
deriving DecidableEq, Repr

/-! ### Source Selector -/

/-- The debounced presence of an input (R121). -/
inductive Presence where
  | unsettled
  | present
  | absent
deriving DecidableEq, Repr

/-- The debouncing of one presence line: the settled report, the sample run, and the value of the run's samples. -/
structure InputSense where
  presence : Presence
  run : Nat
  last : Bool
deriving DecidableEq, Repr

inductive SelectorState where
  | showing
  | holding
  | noSignal
  | switching
deriving DecidableEq, Repr

/-- The state of the Source Selector (R121). -/
structure Source where
  list : List SourceEntry
  topPassed : Bool
  inputs : Six InputSense
  shown : Option Input
  state : SelectorState
  hold : Timer
  switch : Timer
  idle : Timer
deriving DecidableEq, Repr

/-! ### Keys -/

inductive KeyPosition where
  | normal
  | locked
  | service
deriving DecidableEq, Repr

/-- The key switch: its settled position and the run of equal readings (R150). -/
structure KeySwitch where
  settled : Option KeyPosition
  reading : KeyReading
  run : Nat
deriving DecidableEq, Repr

/-- The sampling of one key (R142): taken as pressed; found open since; the run of samples against that. -/
structure Key where
  down : Bool
  foundOpen : Bool
  run : Nat
deriving DecidableEq, Repr

/-- The key switch and the five keys. -/
structure Panel where
  switch : KeySwitch
  power : Key
  source : Key
  vPlus : Key
  vMinus : Key
  clear : Key
deriving DecidableEq, Repr

/-! ### Clock and Schedule -/

/-- The clock (R154). The sure state is SURE exactly while the sure timer runs (R155). -/
structure Clock where
  minute : Nat
  seconds : Nat
  sure : Timer
  source : Option Nat
  slewLeft : Int
  slew : Timer
  /-- Seconds still to be inserted: "the clock's next second is not counted" (R158). -/
  inserts : Nat
deriving DecidableEq, Repr

inductive SlotKind where
  | lecture
  | exam
  | closed
deriving DecidableEq, Repr

/-- A slot (R160): weekdays and groups as in the slot record of 12.3. -/
structure Slot where
  id : Nat
  weekdays : BitVec 7
  start : Nat
  stop : Nat
  kind : SlotKind
  groups : BitVec 16
  source : Option Input
  level : Option Nat
  lead : Nat
deriving DecidableEq, Repr

/-- The slot table and the held copies (R160, R164). -/
structure Schedule where
  slots : List Slot
  heldEffective : Option Slot
  heldOn : Option Slot
deriving DecidableEq, Repr

/-! ### Hall Line Interface -/

/-- A telegram of the send queue (R171). A beacon's contents are assembled when an attempt begins (R81). -/
inductive Payload where
  | beacon
  | claim
  | release
  | request (kind : Byte) (body : List Byte)
  | answer (toStation : Nat) (body : List Byte) (restart : Bool)
deriving DecidableEq, Repr

/-- An entry of the send queue. `withdrawn`: an own CLAIM to be withdrawn if its attempt ends by loss or fault (R5). -/
structure QueueEntry where
  payload : Payload
  attempts : Nat
  sending : Bool
  withdrawn : Bool
deriving DecidableEq, Repr

/-- A sending attempt in progress (R170): the bytes being sent. `orphan`: its telegram has left the queue at a warm
reset (R178). -/
structure Attempt where
  frame : List Byte
  orphan : Bool
deriving DecidableEq, Repr

/-- The line as the receiver reads it (R170, R172): idle; a telegram in hand, with the characters read of it, none right
after a loss; the characters up to the next marker skipped; and a telegram to which the line was lost, discarded by a
warm reset, passed over (R178). -/
inductive LineReading where
  | idle
  | receiving (got : List Byte)
  | skipping
  | passing
deriving DecidableEq, Repr

/-- The idle time of a recessive line (R170): not over yet, or over, with whether the telegram that was chosen at its end
had failed an earlier attempt, which makes the deferral (log 44). -/
inductive LineIdle where
  | notYet
  | over (deferral : Bool)
deriving DecidableEq, Repr

/-- What the block has driven on the line: a telegram to its end, the part of one lost, or a break (R170). -/
inductive LineOutput where
  | sent (frame : List Byte)
  | lost (frame : List Byte)
  | lineBreak
deriving DecidableEq, Repr

/-- The state of the Hall Line Interface (10). -/
structure HallLine where
  queue : List QueueEntry
  reserved : Nat
  /-- An entry is reserved for the request at the head of the request queue (R175). -/
  headReserved : Bool
  requests : List Telegram
  busy : Bool
  count : Nat
  poor : Bool
  minute : Timer
  attempt : Option Attempt
  /-- A beacon fell due while one was being sent (R81). -/
  dueAgain : Bool
  reading : LineReading
  idle : LineIdle
  driven : List LineOutput
deriving DecidableEq, Repr

/-- What the block sends on the scaler link (R55, R57, R131): one record of a table, with the in-flight identity and the
load attempt; a swap request; a select command. -/
inductive ScalerMessage where
  | record (identity attempt line : Nat) (values : LineRecord)
  | swapRequest (identity : Nat)
  | select (input : Option Input) (origin : Option Origin)
deriving DecidableEq, Repr

/-! ### The whole state -/

/-- The state of the Hevrun 436. -/
structure State where
  straps : Straps
  settings : Settings
  start : StartUp
  pins : Pins
  lamp : Lamp
  wear : Wear
  geometry : Geometry
  peers : List Peer
  listen : Listen
  claims : List ClaimEntry
  group : Group
  source : Source
  locks : List Lock
  panel : Panel
  clock : Clock
  schedule : Schedule
  line : HallLine
  /-- The serial memory (12.6), in the canonical form of `Memory.wf`. -/
  serial : List Host.Cell
  /-- Everything sent on the scaler link since power-on, oldest first: a trace of the output pin. -/
  scalerLink : List ScalerMessage
  /-- The commands that wait, first in first out. -/
  pending : List Instr
deriving DecidableEq, Repr

/-- Why a step stops with a fault. -/
inductive Fault where
  /-- Raised by POWER_ON alone, when a write a service tool is said to have made names an address of the serial memory
  that does not exist (12.6: "a 512-byte store"). Safe: no hardware does it. -/
  | noSuchAddress
deriving DecidableEq, Repr

/-- Why a step is refused. -/
inductive Refusal where
  /-- Raised by an arm of `exec` whose command has no meaning yet. Safe: nothing is claimed of it. -/
  | notModelled (mnemonic : String)
deriving DecidableEq, Repr

/-! ### Updates: one for each block. `simps` gives each its lemma for every field, true by `rfl` -/

@[simps] def State.setStart (s : State) (x : StartUp) : State := { s with start := x }
@[simps] def State.setSettings (s : State) (x : Settings) : State := { s with settings := x }
@[simps] def State.setPins (s : State) (x : Pins) : State := { s with pins := x }
@[simps] def State.setLamp (s : State) (x : Lamp) : State := { s with lamp := x }
@[simps] def State.setWear (s : State) (x : Wear) : State := { s with wear := x }
@[simps] def State.setGeometry (s : State) (x : Geometry) : State := { s with geometry := x }
@[simps] def State.setPeers (s : State) (x : List Peer) : State := { s with peers := x }
@[simps] def State.setListen (s : State) (x : Listen) : State := { s with listen := x }
@[simps] def State.setClaims (s : State) (x : List ClaimEntry) : State := { s with claims := x }
@[simps] def State.setGroup (s : State) (x : Group) : State := { s with group := x }
@[simps] def State.setSource (s : State) (x : Source) : State := { s with source := x }
@[simps] def State.setLocks (s : State) (x : List Lock) : State := { s with locks := x }
@[simps] def State.setPanel (s : State) (x : Panel) : State := { s with panel := x }
@[simps] def State.setClock (s : State) (x : Clock) : State := { s with clock := x }
@[simps] def State.setSchedule (s : State) (x : Schedule) : State := { s with schedule := x }
@[simps] def State.setLine (s : State) (x : HallLine) : State := { s with line := x }
@[simps] def State.setSerial (s : State) (x : List Host.Cell) : State := { s with serial := x }
@[simps] def State.setScalerLink (s : State) (x : List ScalerMessage) : State := { s with scalerLink := x }
@[simps] def State.setPending (s : State) (x : List Instr) : State := { s with pending := x }

/-! ### Reset values -/

/-- The empty set of scopes. -/
def Scopes.empty : Scopes := ⟨false, false, false, false, false⟩

/-- The plain set: all six pulls 0 (3.2). -/
def CornerSet.plain : CornerSet := ⟨0, 0, 0, 0, 0, 0⟩

/-- The defaults of zones 1 to 3 (R181). -/
def Settings.defaults : Settings where
  group := 1
  circuit := 1
  budget := 1
  defaultLevel := 100
  interval := 2
  signalWake := false
  life := 4000
  warmUp := 60
  coolDown := 90
  restrike := 120
  pMin := 60
  tWarn := 85
  tShut := 95
  hold := 8
  idle := 20
  initialList := []

/-- No fault latched. -/
def LampFaults.clear : LampFaults := ⟨false, false, false, false, false⟩

/-- The Lamp Controller at power-on (R27), with the default times until zone 2 is read (log 6). -/
def Lamp.powerOn : Lamp where
  state := .cooling
  attempts := 0
  relight := false
  faults := .clear
  cap := 100
  heldP := 100
  target := 0
  actual := 0
  temperature := 0
  litWait := none
  retryGap := none
  warmUp := none
  coolDown := some 90000
  restrike := some 120000
  renewal := none
  dropoutWindow := none
  fanStall := none
  fanTest := none

/-- The Wear Accountant at power-on (R29), before zone 6 is read (log 5). -/
def Wear.powerOn : Wear where
  accumulator := 0
  strikes := 0
  valid := false
  litTime := 0
  lifeHold := false
  write := none
  writeAgain := false
  outcome := .notWritten

/-- The Geometry Engine at power-on (R61). -/
def Geometry.powerOn : Geometry where
  state := .idle
  active := .plain
  activeId := 0
  f := 1024
  inFlight := none
  inFlightId := none
  lastId := 0
  inFlightF := none
  inFlightTable := none
  linesSent := 0
  pendingSet := none
  attempt := 1
  v := 0
  refreshDue := false
  failure := false
  loadWait := none
  swapRepeat := none
  swapTimeout := none
  linkDraws := 0

/-- The Group Coordinator at power-on (R120): P is the default level over the own F of 1024. -/
def Group.powerOn : Group where
  mode := none
  levelOverride := none
  slotLevel := none
  selection := .unselected
  shortTimer := none
  growth := 0
  p := 100
  unclamped := 100
  shortfall := false

/-- Every input UNSETTLED with run 0 (R123). -/
def InputSense.unsettled : InputSense := ⟨.unsettled, 0, false⟩

/-- The Source Selector at power-on, before zone 3 is read (R138, log 5). -/
def Source.powerOn : Source where
  list := []
  topPassed := false
  inputs := ⟨.unsettled, .unsettled, .unsettled, .unsettled, .unsettled, .unsettled⟩
  shown := none
  state := .noSignal
  hold := none
  switch := none
  idle := none

/-- A key of which no sample has been taken (log 22). -/
def Key.unsampled : Key := ⟨false, false, 0⟩

/-- The keys at power-on: the position is unsettled (R150). -/
def Panel.powerOn : Panel where
  switch := ⟨none, .between, 0⟩
  power := .unsampled
  source := .unsampled
  vPlus := .unsampled
  vMinus := .unsampled
  clear := .unsampled

/-- The clock at power-on (R154). -/
def Clock.powerOn : Clock where
  minute := 0
  seconds := 0
  sure := none
  source := none
  slewLeft := 0
  slew := none
  inserts := 0

/-- The Hall Line Interface at power-on (R179, R182). -/
def HallLine.powerOn : HallLine where
  queue := []
  reserved := 0
  headReserved := false
  requests := []
  busy := false
  count := 0
  poor := false
  minute := none
  attempt := none
  dueAgain := false
  reading := .idle
  idle := .notYet
  driven := []

/-- The machine right after power-on and pass one (R182, step 1). The spec gives no strap values and no pin levels:
station 1, format 0, rate 31.25 kbit/s, memory present, supply-low released and lit sense absent are the model's
(DESIGN CHOICE, unsafe, log 3). -/
def State.reset : State where
  straps := ⟨1, false, 0, .kbit31, true⟩
  settings := .defaults
  start := ⟨false, false, ⟨false, false, false, false, false⟩, none⟩
  pins := ⟨false, false, .unjudged⟩
  lamp := .powerOn
  wear := .powerOn
  geometry := .powerOn
  peers := []
  listen := ⟨none, none, none, none, 0⟩
  claims := []
  group := .powerOn
  source := .powerOn
  locks := []
  panel := .powerOn
  clock := .powerOn
  schedule := ⟨[], none, none⟩
  line := .powerOn
  serial := []
  scalerLink := []
  pending := []

end Sys2Proof.Machine
end

