-- ==== Sys2Proof/Machine/Operands.lean ====
section
/-! DEFINITION. The forms of operands: codes and byte layouts of Formats and Pins, ranges, the check of a telegram. -/

namespace Sys2Proof.Machine

/-! ### Numbers and bytes -/

/-- A value brought to the nearest end of lo to hi. -/
def clamp (lo hi n : Nat) : Nat := max lo (min hi n)

/-- The number that bytes spell, most significant byte first (12, opening). -/
def beNat (bs : List Byte) : Nat := bs.foldl (fun n b => 256 * n + b.toNat) 0

/-- `n` in `k` bytes, most significant byte first. -/
def beBytes : Nat → Nat → List Byte
  | 0, _ => []
  | k + 1, n => BitVec.ofNat 8 (n / 256 ^ k) :: beBytes k n

/-- One byte of a layout. -/
def byteOf (n : Nat) : Byte := BitVec.ofNat 8 n

/-- The bit of weight `w` in a byte of flags. -/
def bitValue (b : Bool) (w : Nat) : Nat := if b then w else 0

/-! ### The check of a telegram and its characters (R169) -/

/-- One bit into the CRC of polynomial x^16 + x^12 + x^5 + 1. -/
def crcBit (c : BitVec 16) (b : Bool) : BitVec 16 :=
  if c.msb != b then (c <<< 1) ^^^ 0x1021 else c <<< 1

/-- One byte into the CRC, most significant bit first. -/
def crcByte (c : BitVec 16) (b : Byte) : BitVec 16 :=
  [7, 6, 5, 4, 3, 2, 1, 0].foldl (fun c i => crcBit c (b.getLsbD i)) c

/-- The check over bytes: preset to all ones, no final inversion (R169). -/
def crc (bs : List Byte) : BitVec 16 := bs.foldl crcByte 0xFFFF

/-- The bytes of a telegram on the line: kind, origin, destination, length, body, check (R169, 12.1). -/
def frameOf (t : Telegram) : List Byte :=
  let head := [t.kind, t.origin, t.dest, byteOf t.body.length] ++ t.body
  head ++ beBytes 2 (crc head).toNat

/-- The eleven bits of a character, true for recessive: start, data least significant first, marker, stop (R169). -/
def charBits (first : Bool) (b : Byte) : List Bool :=
  false :: ([0, 1, 2, 3, 4, 5, 6, 7].map fun i => b.getLsbD i) ++ [first, true]

/-- The time of one bit in µs (R169's table). -/
def bitTime : LineRate → Nat
  | .kbit31 => 32
  | .kbit62 => 16
  | .kbit125 => 8

/-- The line rate as strapped (R180): 3 is 62.5 kbit/s, as 1 is. -/
def rateOf (code : Fin 4) : LineRate :=
  match code with
  | 0 => .kbit31 | 1 => .kbit62 | 2 => .kbit125 | 3 => .kbit62

/-- The bits of a telegram on the line; the marker is recessive on its first character alone (R169). -/
def frameBits : List Byte → List Bool
  | [] => []
  | b :: rest => charBits true b ++ (rest.map (charBits false)).flatten

/-- The signals that bytes make at a receiver as the characters of a telegram: the marker is 1 on the first alone. -/
def signalsOf : List Byte → List LineSignal
  | [] => []
  | b :: rest => .char true b :: rest.map (.char false)

/-- What is still to be read of a telegram of whose characters the first `k` have been read. -/
def signalsFrom (k : Nat) (t : Telegram) : List LineSignal := (signalsOf (frameOf t)).drop k

/-! ### Kinds and destinations (12.1) -/

def kindBeacon : Byte := 1
def kindClaim : Byte := 2
def kindRelease : Byte := 3
def kindTime : Byte := 4
def kindGroupOn : Byte := 16
def kindGroupOff : Byte := 17
def kindLevel : Byte := 18
def kindShow : Byte := 19
def kindCorners : Byte := 20
def kindLock : Byte := 21
def kindUnlock : Byte := 22
def kindSlotPut : Byte := 23
def kindSlotDrop : Byte := 24
def kindClearFault : Byte := 25
def kindLampNew : Byte := 26
def kindRestart : Byte := 27
def kindQuery : Byte := 28
def kindAnswer : Byte := 32

/-- The kinds of request (4.2). -/
def requestKinds : List Byte :=
  [kindGroupOn, kindGroupOff, kindLevel, kindShow, kindCorners, kindLock, kindUnlock, kindSlotPut, kindSlotDrop,
   kindClearFault, kindLampNew, kindRestart, kindQuery]

/-- Every kind of telegram (12.1). -/
def allKinds : List Byte := [kindBeacon, kindClaim, kindRelease, kindTime, kindAnswer] ++ requestKinds

def destAll : Byte := 0
def destStation (n : Nat) : Byte := byteOf n
def destGroup (g : Nat) : Byte := byteOf (64 + g)
def destCircuit (c : Nat) : Byte := byteOf (128 + c)

/-- The destination names ALL, the own station, the own group or the own circuit (R173). -/
def addressed (s : State) (t : Telegram) : Bool :=
  t.dest == destAll || t.dest == destStation s.straps.number || t.dest == destGroup s.settings.group ||
    t.dest == destCircuit s.settings.circuit

/-- The address filter: "A BEACON passes whatever its destination" (R173). -/
def passesFilter (s : State) (t : Telegram) : Bool := t.kind == kindBeacon || addressed s t

/-- A request addressed to STATION n with the own number (4.2). -/
def directed (s : State) (t : Telegram) : Bool := t.dest == destStation s.straps.number

/-! ### Inputs -/

def inputCode : Input → Nat
  | .in1 => 1 | .in2 => 2 | .in3 => 3 | .in4 => 4 | .in5 => 5 | .in6 => 6

def inputOf : Nat → Option Input
  | 1 => some .in1 | 2 => some .in2 | 3 => some .in3 | 4 => some .in4 | 5 => some .in5 | 6 => some .in6
  | _ => none

/-- The input that follows in the order IN1 to IN6, IN1 (R126). -/
def nextInput : Input → Input
  | .in1 => .in2 | .in2 => .in3 | .in3 => .in4 | .in4 => .in5 | .in5 => .in6 | .in6 => .in1

/-- 0 for absent or NONE, else the input's code (12.2, 12.3). -/
def optInputCode : Option Input → Nat
  | none => 0
  | some i => inputCode i

/-- The thing of an input. -/
def sixGet {α : Type} (x : Six α) : Input → α
  | .in1 => x.in1 | .in2 => x.in2 | .in3 => x.in3 | .in4 => x.in4 | .in5 => x.in5 | .in6 => x.in6

/-- Input by input, one result of two. -/
def sixZip {α β γ : Type} (f : α → β → γ) (x : Six α) (y : Six β) : Six γ :=
  ⟨f x.in1 y.in1, f x.in2 y.in2, f x.in3 y.in3, f x.in4 y.in4, f x.in5 y.in5, f x.in6 y.in6⟩

def allInputs : List Input := [.in1, .in2, .in3, .in4, .in5, .in6]

/-! ### Scopes, causes, lamp states, flags (12.2) -/

/-- bit 0 LAMP, 1 POWER, 2 SOURCE, 3 GEOMETRY, 4 KEYS. -/
def scopesCode (x : Scopes) : Nat :=
  bitValue x.lamp 1 + bitValue x.power 2 + bitValue x.source 4 + bitValue x.geometry 8 + bitValue x.keys 16

/-- Bits 5 to 7 are disregarded (R184). -/
def scopesOf (b : Byte) : Scopes :=
  ⟨b.getLsbD 0, b.getLsbD 1, b.getLsbD 2, b.getLsbD 3, b.getLsbD 4⟩

def scopesUnion (x y : Scopes) : Scopes :=
  ⟨x.lamp || y.lamp, x.power || y.power, x.source || y.source, x.geometry || y.geometry, x.keys || y.keys⟩

def scopesMeet (x y : Scopes) : Bool :=
  (x.lamp && y.lamp) || (x.power && y.power) || (x.source && y.source) || (x.geometry && y.geometry) ||
    (x.keys && y.keys)

/-- The four scopes a KEYSWITCH lock and an EXAM lock cover (R144). -/
def scopesExam : Scopes := ⟨false, true, true, true, true⟩

/-- The scopes a CLOSED slot's lock covers (R144). -/
def scopesClosed : Scopes := ⟨true, true, false, false, true⟩

/-- The scope of the WEAR lock (R144). -/
def scopesLamp : Scopes := ⟨true, false, false, false, false⟩

/-- 0 OFF; ON with cause 1 SCHEDULE, 2 REQUEST, 3 KEYPAD, 4 SIGNAL. -/
def modeCode : Option OnCause → Nat
  | none => 0
  | some .schedule => 1
  | some .request => 2
  | some .keypad => 3
  | some .signal => 4

def modeOf : Nat → Option (Option OnCause)
  | 0 => some none
  | 1 => some (some .schedule)
  | 2 => some (some .request)
  | 3 => some (some .keypad)
  | 4 => some (some .signal)
  | _ => none

def lampCode : LampState → Nat
  | .dark => 0
  | .waiting => 1
  | .striking .attempt => 2
  | .striking .gap => 3
  | .warming => 4
  | .lit => 5
  | .cooling => 6
  | .fault => 7

def lampOf : Nat → Option LampState
  | 0 => some .dark
  | 1 => some .waiting
  | 2 => some (.striking .attempt)
  | 3 => some (.striking .gap)
  | 4 => some .warming
  | 5 => some .lit
  | 6 => some .cooling
  | 7 => some .fault
  | _ => none

def kindOfStation : Nat → Option StationKind
  | 1 => some .projector
  | 2 => some .panel
  | 3 => some .clock
  | _ => none

/-- bit 0 FRESH to bit 8 SERVICE. -/
def flagsCode (x : BeaconFlags) : Nat :=
  bitValue x.fresh 1 + bitValue x.busy 2 + bitValue x.shortfall 4 + bitValue x.linePoor 8 + bitValue x.attention 16 +
    bitValue x.aged 32 + bitValue x.clockSure 64 + bitValue x.duplicate 128 + bitValue x.service 256

/-- Bits 9 to 15 are disregarded (R184): `hi` and `lo` are the two bytes. -/
def flagsOf (hi lo : Byte) : BeaconFlags :=
  ⟨lo.getLsbD 0, lo.getLsbD 1, lo.getLsbD 2, lo.getLsbD 3, lo.getLsbD 4, lo.getLsbD 5, lo.getLsbD 6, lo.getLsbD 7,
   hi.getLsbD 0⟩

/-- A beacon interval of the values 1, 2, 4 or 8 s. -/
def isInterval (n : Nat) : Bool := n == 1 || n == 2 || n == 4 || n == 8

/-- A beacon's body read by 12.2; absent where R65 disregards it for its length, its ranges, or a PROJECTOR of group
or circuit 0. Any value of P is taken (R184), and 65,535 hours are wear UNKNOWN (R65). -/
def beaconOf (body : List Byte) : Option PeerInfo :=
  match body with
  | [k, g, c, i, l, a, _p, f1, f0, h1, h0, b1, b0, sh, m, ls, fl1, fl0] =>
    match kindOfStation k.toNat, lampOf l.toNat, modeOf m.toNat with
    | some kind, some lamp, some mode =>
      let f := beNat [f1, f0]
      let hours := beNat [h1, h0]
      let band := beNat [b1, b0]
      if g.toNat ≤ 15 ∧ c.toNat ≤ 7 ∧ isInterval i.toNat ∧ a.toNat ≤ 100 ∧ 256 ≤ f ∧ f ≤ 1024 ∧ band ≤ 2621 ∧
          sh.toNat ≤ 6 ∧ ¬ (kind = .projector ∧ (g.toNat = 0 ∨ c.toNat = 0)) then
        some
          { kind := kind, group := g.toNat, circuit := c.toNat, interval := i.toNat, lamp := lamp, actual := a.toNat,
            f := f, hours := if hours = 65535 then none else some hours, band := band, shown := inputOf sh.toNat,
            mode := mode, summary := scopesOf ls, flags := flagsOf fl1 fl0 }
      else none
    | _, _, _ => none
  | _ => none

/-! ### Panel format and corner sets -/

/-- W of the strapped format (R44). -/
def panelWidth (fmt : Fin 4) : Nat :=
  match fmt with
  | 0 => 1280 | 1 => 1920 | 2 => 1920 | 3 => 2560

/-- H of the strapped format (R44). -/
def panelHeight (fmt : Fin 4) : Nat :=
  match fmt with
  | 0 => 800 | 1 => 1080 | 2 => 1200 | 3 => 1600

/-- A corner set brought into range (R46). -/
def inRange (fmt : Fin 4) (c : CornerSet) : CornerSet :=
  let w := panelWidth fmt / 4
  let h := panelHeight fmt / 4
  ⟨min c.top h, min c.bot h, min c.lt w, min c.lb w, min c.rt w, min c.rb w⟩

/-- Six two-byte values in the order top, bot, lt, lb, rt, rb (12.3, 12.6). -/
def cornersOf (body : List Byte) : Option CornerSet :=
  match body with
  | [a1, a0, b1, b0, c1, c0, d1, d0, e1, e0, f1, f0] =>
    some ⟨beNat [a1, a0], beNat [b1, b0], beNat [c1, c0], beNat [d1, d0], beNat [e1, e0], beNat [f1, f0]⟩
  | _ => none

def cornersBytes (c : CornerSet) : List Byte :=
  beBytes 2 c.top ++ beBytes 2 c.bot ++ beBytes 2 c.lt ++ beBytes 2 c.lb ++ beBytes 2 c.rt ++ beBytes 2 c.rb

/-! ### Slot records (12.3) -/

def slotKindOf : Nat → Option SlotKind
  | 1 => some .lecture
  | 2 => some .exam
  | 3 => some .closed
  | _ => none

def slotKindCode : SlotKind → Nat
  | .lecture => 1
  | .exam => 2
  | .closed => 3

/-- A slot record judged for its form (R161, step 1); bit 7 of weekdays and bit 0 of groups are disregarded (R184).
Values are not yet brought into range. -/
def slotOf (body : List Byte) : Option Slot :=
  match body with
  | [id, wd, s1, s0, e1, e0, k, g1, g0, src, lvl, lead] =>
    let weekdays : BitVec 7 := wd.truncate 7
    let groups : BitVec 16 := (g1 ++ g0) &&& 0xFFFE
    let start := beNat [s1, s0]
    let stop := beNat [e1, e0]
    match slotKindOf k.toNat with
    | some kind =>
      if id ≠ 0 ∧ weekdays ≠ 0 ∧ groups ≠ 0 ∧ start ≤ 1439 ∧ start < stop ∧ stop ≤ 1440 ∧ src.toNat ≤ 6 then
        some
          { id := id.toNat, weekdays := weekdays, start := start, stop := stop, kind := kind, groups := groups,
            source := inputOf src.toNat, level := if lvl = 0 then none else some lvl.toNat, lead := lead.toNat }
      else none
    | none => none
  | _ => none

/-- A slot brought into range (R161, step 2). -/
def slotInRange (x : Slot) : Slot :=
  match x.kind with
  | .closed => { x with source := none, level := none, lead := 0 }
  | _ => { x with level := x.level.map (clamp 10 200), lead := min x.lead 30 }

/-- The slot record of a stored slot. -/
def slotBytes (x : Slot) : List Byte :=
  [byteOf x.id, byteOf x.weekdays.toNat] ++ beBytes 2 x.start ++ beBytes 2 x.stop ++ [byteOf (slotKindCode x.kind)] ++
    beBytes 2 x.groups.toNat ++ [byteOf (optInputCode x.source), byteOf (x.level.getD 0), byteOf x.lead]

/-! ### Results of requests (4.3, 12.4) -/

/-- The result codes of 4.3. -/
inductive ResultCode where
  | taken
  | locked
  | notNow
  | full
  | noEntry
  | malformed
deriving DecidableEq, Repr

def resultByte : ResultCode → Nat
  | .taken => 0
  | .locked => 1
  | .notNow => 2
  | .full => 3
  | .noEntry => 4
  | .malformed => 5

/-- What an owner gives back for a request: the code, the CLAMPED mark and, for a QUERY, the record (R176). -/
structure Result where
  code : ResultCode
  clamped : Bool
  record : List Byte
deriving DecidableEq, Repr

/-- A plain result: no mark, no record. -/
def Result.of (c : ResultCode) : Result := ⟨c, false, []⟩

/-- The body of an ANSWER (12.4). -/
def answerBody (kind : Byte) (r : Result) : List Byte :=
  [kind, byteOf (resultByte r.code), byteOf (bitValue r.clamped 1)] ++ r.record

/-! ### The wear record and sum checks (R35, R181) -/

/-- 65,535 less the sum of the data bytes, modulo 65,536 (R35). -/
def sumCheck (data : List Byte) : Nat :=
  (65535 + 65536 - (data.foldl (fun n b => n + b.toNat) 0) % 65536) % 65536

/-- The ten bytes of the wear record (12.6, zone 6). -/
def recordBytes (accumulator strikes : Nat) : List Byte :=
  let data := beBytes 5 accumulator ++ beBytes 3 strikes
  data ++ beBytes 2 (sumCheck data)

/-! ### Sensor readings -/

/-- A sample as a whole number of °C from 0 to 150 (R17). -/
def sampleOf : Sensor → Nat
  | .celsius d => min 150 d.toNat
  | .openCircuit => 150
  | .shorted => 150

end Sys2Proof.Machine
end

