-- ==== Sys2Proof/Machine/Flags.lean ====
section
/-! DEFINITION. Flags, conditions and outputs computed from the state: every value a rule derives from what is held. -/

namespace Sys2Proof.Machine

/-! ### Listening conditions, key switch, locks -/

/-- The FRESH flag: the listening period runs (R74). -/
def freshFlag (s : State) : Bool := s.listen.fresh.isSome

/-- The station is FRESH, or its receiver is not enabled yet: "the lamp runs its cool-down to DARK and stays there"
(R182). DEDUCED, safe (log 10). -/
def isFresh (s : State) : Bool := freshFlag s || !s.start.receiver

/-- DUPLICATE stands while the duplicate timer runs (R76, R78). -/
def isDuplicate (s : State) : Bool := s.listen.duplicate.isSome

/-- The key switch is settled in SERVICE (R151). -/
def inService (s : State) : Bool := s.panel.switch.settled == some .service

/-- The Lock Set holds a lock covering LAMP. -/
def lampLocked (locks : List Lock) : Bool := locks.any fun l => l.scopes.lamp

/-- The scopes covered by at least one lock (R140). -/
def lockSummary (locks : List Lock) : Scopes := locks.foldl (fun x l => scopesUnion x l.scopes) .empty

/-- The lock of a holder, if one stands. -/
def lockOf (locks : List Lock) (h : Holder) : Option Lock := locks.find? fun l => l.holder == h

/-- Who asks for a checked action (R141). -/
inductive Requester where
  | station (n : Nat)
  | keypad
  | signal
deriving DecidableEq, Repr

/-- The requester holds the lock. No lock has holder KEYPAD or SIGNAL (R141). -/
def holds (q : Requester) (l : Lock) : Bool :=
  match q with
  | .station n => l.holder == .station n
  | .keypad => false
  | .signal => false

/-- An action in the scopes `x` is taken only if every lock covering one of them has holder `q` (R141). -/
def passesCheck (locks : List Lock) (q : Requester) (x : Scopes) : Bool :=
  locks.all fun l => !scopesMeet l.scopes x || holds q l

/-! ### Lamp -/

/-- STRIKING, WARMING and LIT (2.1's note). -/
def litSide (l : LampState) : Bool :=
  match l with
  | .striking _ => true
  | .warming => true
  | .lit => true
  | .dark => false
  | .waiting => false
  | .cooling => false
  | .fault => false

/-- WARMING and LIT: the arc burns. -/
def burning (l : LampState) : Bool :=
  match l with
  | .warming => true
  | .lit => true
  | .striking _ => false
  | .dark => false
  | .waiting => false
  | .cooling => false
  | .fault => false

/-- Committed: WAITING, STRIKING, WARMING or LIT (R110). -/
def committedState (l : LampState) : Bool := l == .waiting || litSide l

/-- One or more faults are latched. -/
def anyFault (f : LampFaults) : Bool := f.thermal || f.noStrike || f.dropout || f.supply || f.fan

/-- The decision of the Group Coordinator: the own lamp is wanted (R101). -/
def wanted (s : State) : Bool := s.group.mode.isSome && s.group.selection != .unselected

/-- The start conditions (R3). -/
def startConditions (s : State) : Bool :=
  wanted s && !lampLocked s.locks && !anyFault s.lamp.faults && !isFresh s && !isDuplicate s && !inService s &&
    !s.pins.supplyLow

/-- The fan drive (R2). -/
def fanDriven (l : Lamp) : Bool :=
  l.fanTest.isSome ||
    match l.state with
    | .waiting => true
    | .striking _ => true
    | .warming => true
    | .lit => true
    | .cooling => l.coolDown.isSome || l.restrike.isSome
    | .fault => l.coolDown.isSome
    | .dark => false

/-- The strike line (R1). -/
def strikeLine (l : Lamp) : Bool := l.state == .striking .attempt

/-- The ballast power setting: by the lamp state, and 0 while the strike line and the cool-down demand are both
asserted (R1). -/
def ballastSetting (l : Lamp) : Nat :=
  match l.state with
  | .striking .attempt => if l.coolDown.isSome then 0 else 100
  | .striking .gap => 0
  | .warming => l.actual
  | .lit => l.actual
  | .dark => 0
  | .waiting => 0
  | .cooling => 0
  | .fault => 0

/-! ### Wear -/

/-- The wear hours: the whole part of the accumulator divided by 360,000 (R32). -/
def wearHours (w : Wear) : Nat := w.accumulator / 360000

/-- The hours reported in the beacon (R32). -/
def reportedHours (w : Wear) : Nat := if w.valid then min (wearHours w) 65535 else 65535

/-- The band reported in the beacon and to the Group Coordinator (R32). -/
def reportedBand (w : Wear) : Nat := reportedHours w / 25

/-- AGED (R33). -/
def agedFlag (s : State) : Bool := !s.wear.valid || s.settings.life - 100 ≤ wearHours s.wear

/-- The life limit is reached (R39). -/
def lifeReached (s : State) : Bool := s.wear.valid && s.settings.life ≤ wearHours s.wear

/-! ### Beacon flags -/

/-- A personality zone was loaded with its defaults. -/
def anyDefaulted (z : Zones) : Bool := z.identity || z.lamp || z.sources || z.corners || z.slots

/-- ATTENTION (R25). -/
def attentionFlag (s : State) : Bool :=
  anyFault s.lamp.faults || !s.wear.valid || anyDefaulted s.start.defaulted || s.straps.zeroStrap ||
    s.geometry.failure || isDuplicate s

/-- The nine beacon flags (5.6). -/
def ownFlags (s : State) : BeaconFlags where
  fresh := freshFlag s
  busy := s.line.busy
  shortfall := s.group.shortfall
  linePoor := s.line.poor
  attention := attentionFlag s
  aged := agedFlag s
  clockSure := s.clock.sure.isSome
  duplicate := isDuplicate s
  service := inService s

/-- What a change-driven beacon is due for (R80): lamp state with phase, F, P, actual power class, shown input, group
mode with its cause, lock summary, flags. -/
structure BeaconCauses where
  lamp : LampState
  f : Nat
  p : Nat
  powerClass : Nat
  shown : Option Input
  mode : Option OnCause
  summary : Scopes
  flags : BeaconFlags
deriving DecidableEq, Repr

def beaconCauses (s : State) : BeaconCauses where
  lamp := s.lamp.state
  f := s.geometry.f
  p := s.group.p
  powerClass := s.lamp.actual / 10
  shown := s.source.shown
  mode := s.group.mode
  summary := lockSummary s.locks
  flags := ownFlags s

/-- The body of the own beacon (12.2, 4.8). -/
def beaconBody (s : State) : List Byte :=
  [byteOf 1, byteOf s.settings.group, byteOf s.settings.circuit, byteOf s.settings.interval,
   byteOf (lampCode s.lamp.state), byteOf s.lamp.actual, byteOf s.group.p] ++
  beBytes 2 s.geometry.f ++ beBytes 2 (reportedHours s.wear) ++ beBytes 2 (reportedBand s.wear) ++
  [byteOf (optInputCode s.source.shown), byteOf (modeCode s.group.mode), byteOf (scopesCode (lockSummary s.locks))] ++
  beBytes 2 (flagsCode (ownFlags s))

/-! ### Permission to strike -/

/-- The own claim stands in the Claim List. -/
def ownClaimed (s : State) : Bool := s.claims.any fun c => c.claimant == s.straps.number

/-- How many entries stand ahead of the claim of station `n`. -/
def aheadOf (n : Nat) : List ClaimEntry → Nat
  | [] => 0
  | c :: rest => if c.claimant = n then 0 else aheadOf n rest + 1

/-- Permission to strike (R92). -/
def permission (s : State) : Bool := ownClaimed s && aheadOf s.straps.number s.claims < s.settings.budget

/-! ### Members, availability, rank -/

/-- A member of the own group as the Group Coordinator sees it (R110 to R112). -/
structure Member where
  station : Nat
  committed : Bool
  available : Bool
  f : Nat
  wearValid : Bool
  band : Nat
  shortfall : Bool
deriving DecidableEq, Repr

/-- The own station is available (R111). -/
def ownAvailable (s : State) : Bool :=
  s.lamp.state != .fault && !lampLocked s.locks && !isFresh s && !inService s && !isDuplicate s

/-- The own station as a member. -/
def ownMember (s : State) : Member where
  station := s.straps.number
  committed := committedState s.lamp.state
  available := ownAvailable s
  f := s.geometry.f
  wearValid := s.wear.valid
  band := reportedBand s.wear
  shortfall := s.group.shortfall

/-- The entry is counted: a PROJECTOR of the own group, PRESENT or STALE (R110). -/
def isMember (g : Nat) (p : Peer) : Bool :=
  p.info.kind == .projector && p.info.group == g && p.presence != .heard

/-- A peer as a member (R110, R111). -/
def peerMember (p : Peer) : Member where
  station := p.station
  committed := committedState p.info.lamp
  available := p.info.lamp != .fault && !p.info.summary.lamp && !p.info.flags.fresh && !p.info.flags.service &&
    !p.info.flags.duplicate
  f := p.info.f
  wearValid := p.info.hours.isSome
  band := p.info.band
  shortfall := p.info.flags.shortfall

/-- The peers that are members. -/
def peerMembers (s : State) : List Member := (s.peers.filter (isMember s.settings.group)).map peerMember

/-- The members of the own group (R110). -/
def members (s : State) : List Member := ownMember s :: peerMembers s

/-- `a` ranks ahead of `b`: VALID wear first, then the lower band, then the lower number (R112). -/
def ranksAhead (a b : Member) : Bool :=
  if a.wearValid != b.wearValid then a.wearValid
  else if a.band ≠ b.band then a.band < b.band
  else a.station < b.station

/-- A member put in its place by rank. -/
def insertByRank (a : Member) : List Member → List Member
  | [] => [a]
  | b :: rest => if ranksAhead a b then a :: b :: rest else b :: insertByRank a rest

/-- Members in rank order (R112). -/
def byRank : List Member → List Member
  | [] => []
  | a :: rest => insertByRank a (byRank rest)

/-- The available members that are not committed, in rank order (R113 step 2, R118). -/
def candidates (s : State) : List Member := byRank ((members s).filter fun m => m.available && !m.committed)

/-- The sum of F over a list of members. -/
def sumF (ms : List Member) : Nat := ms.foldl (fun n m => n + m.f) 0

/-- The committed peers of the own group. -/
def committedPeers (s : State) : List Member := (peerMembers s).filter fun m => m.committed

/-- The committed set (R110). -/
def committedSet (s : State) : List Member := (members s).filter fun m => m.committed

/-- The target level T_g (R109). -/
def targetLevel (s : State) : Nat :=
  match s.group.levelOverride with
  | some v => v
  | none =>
    match s.group.slotLevel with
    | some v => v
    | none => s.settings.defaultLevel

/-- A sum of F meets a level: 100 ΣF is at least 1024 T_g (R109). -/
def meets (f t : Nat) : Bool := 1024 * t ≤ 100 * f

/-- The stations the election adds to a sum `f`, walking the candidates in rank order (R113 step 2). -/
def electionAdds (t : Nat) : Nat → List Member → List Nat
  | _, [] => []
  | f, m :: rest => if meets f t then [] else m.station :: electionAdds t (f + m.f) rest

/-- The own station is in the result of the election (R113). -/
def electionTakesOwn (s : State) : Bool :=
  ((ownMember s).committed && (ownMember s).available) ||
    (electionAdds (targetLevel s) (sumF (committedSet s)) (candidates s)).contains s.straps.number

/-- The unclamped P: the ceiling of T_g × 1024 / ΣF, the own F counted whether or not the lamp is committed (R115). -/
def unclampedPower (s : State) : Nat :=
  let f := sumF (committedPeers s) + s.geometry.f
  (targetLevel s * 1024 + f - 1) / f

/-- The common power (R115). -/
def commonPower (s : State) : Nat := clamp s.settings.pMin s.lamp.cap (unclampedPower s)

/-- SHORTFALL (R116). -/
def shortfallNow (s : State) : Bool := committedState s.lamp.state && s.lamp.cap < unclampedPower s

/-- The group is short (R117). -/
def groupShort (s : State) : Bool :=
  s.group.mode.isSome &&
    (!meets (sumF (committedSet s)) (targetLevel s) || (committedSet s).any fun m => m.shortfall)

/-- What the common power is computed from; a change of it is a recomputation (R115) or a change of the committed set. -/
structure PowerInputs where
  target : Nat
  f : Nat
  cap : Nat
  lamp : LampState
  mode : Bool
  committed : List (Nat × Nat)
deriving DecidableEq, Repr

def powerInputs (s : State) : PowerInputs where
  target := targetLevel s
  f := s.geometry.f
  cap := s.lamp.cap
  lamp := s.lamp.state
  mode := s.group.mode.isSome
  committed := (committedPeers s).map fun m => (m.station, m.f)

/-- The conditions of a withdrawal (R119). -/
def withdraws (s : State) : Bool :=
  s.group.selection == .elected && s.group.mode.isSome &&
    (s.lamp.state == .dark || s.lamp.state == .waiting || s.lamp.state == .cooling) &&
    meets (sumF (committedPeers s)) (targetLevel s) &&
    (committedPeers s).any fun m => ranksAhead m (ownMember s)

/-! ### Source Selector -/

/-- An input's debounced presence is PRESENT (R121). -/
def inputPresent (s : State) (i : Input) : Bool := (sixGet s.source.inputs i).presence == .present

/-- The shown input is present; NONE is always absent (R136). -/
def shownPresent (s : State) : Bool :=
  match s.source.shown with
  | some i => inputPresent s i
  | none => false

/-- The top entry's input. -/
def topInput (s : State) : Option Input := s.source.list.head?.map fun e => e.input

/-- The shown input is protected: the hold timer runs, or the selector is SWITCHING to it (7.4), but for a top entry
whose protection a set top passed has withdrawn (R128, log 43). -/
def shownProtected (s : State) : Bool :=
  s.source.hold.isSome ||
    s.source.state == .switching && !(s.source.topPassed && s.source.shown == topInput s)

/-- The wanted input (R129). -/
def wantedInput (s : State) : Option Input :=
  match s.source.list with
  | [] => none
  | top :: _ =>
    if s.source.topPassed then
      match s.source.list.find? fun e => inputPresent s e.input || (shownProtected s && s.source.shown == some e.input) with
      | some e => some e.input
      | none => some top.input
    else some top.input

/-- The conditions under which the idle timer runs (R136). -/
def idleCondition (s : State) : Bool :=
  (match s.group.mode with
    | none => false
    | some .schedule => false
    | some .request => true
    | some .keypad => true
    | some .signal => true) &&
  committedState s.lamp.state && !shownPresent s

/-! ### Schedule -/

/-- The slot has an occurrence running at a minute-of-week (R160). -/
def running (m : Nat) (x : Slot) : Bool :=
  x.weekdays.getLsbD (m / 1440) && x.start ≤ m % 1440 && m % 1440 < x.stop

/-- A lead of the slot covers a minute-of-week, counted back round the week (R160). -/
def inLead (m : Nat) (x : Slot) : Bool :=
  [0, 1, 2, 3, 4, 5, 6].any fun d =>
    x.weekdays.getLsbD d &&
      (let left := (1440 * d + x.start + 10080 - m) % 10080
       0 < left && left ≤ x.lead)

/-- The slot of lowest id among slots. -/
def lowestId : List Slot → Option Slot
  | [] => none
  | x :: rest =>
    match lowestId rest with
    | none => some x
    | some y => if x.id ≤ y.id then some x else some y

/-- The slot of lowest id of the first kind present in an order of kinds (R163). -/
def firstOfKinds (ks : List SlotKind) (xs : List Slot) : Option Slot :=
  match ks with
  | [] => none
  | k :: rest =>
    match lowestId (xs.filter fun x => x.kind == k) with
    | some x => some x
    | none => firstOfKinds rest xs

/-- The effective slot at a minute-of-week (R163). -/
def effectiveSlot (m : Nat) (slots : List Slot) : Option Slot :=
  firstOfKinds [.closed, .exam, .lecture] (slots.filter (running m))

/-- The ON slot at a minute-of-week (R163). -/
def onSlot (m : Nat) (slots : List Slot) : Option Slot :=
  match effectiveSlot m slots with
  | some x =>
    match x.kind with
    | .closed => none
    | .lecture => some x
    | .exam => some x
  | none => firstOfKinds [.exam, .lecture] (slots.filter (inLead m))

end Sys2Proof.Machine
end

