-- ==== Sys2Proof/Machine/Ops.lean ====
section
/-! DEFINITION. The named operations over the serial memory, the send queue and the scaler link. -/

namespace Sys2Proof.Machine

/-! ### The serial memory (12.6) -/

/-- The byte at an address; an address not listed reads as `Config.unlistedByte`. -/
def Memory.read : List Host.Cell → Nat → Byte
  | [], _ => Config.unlistedByte
  | (k, v) :: rest, a => if k = a then v else Memory.read rest a

/-- One byte written, keeping the canonical form: the value an unlisted address reads as removes the entry. -/
def Memory.write : List Host.Cell → Nat → Byte → List Host.Cell
  | [], a, v => if v = Config.unlistedByte then [] else [(a, v)]
  | (k, w) :: rest, a, v =>
    if a < k then (if v = Config.unlistedByte then (k, w) :: rest else (a, v) :: (k, w) :: rest)
    else if a = k then (if v = Config.unlistedByte then rest else (a, v) :: rest)
    else (k, w) :: Memory.write rest a v

/-- Bytes written from an address up. -/
def Memory.writeBytes : List Host.Cell → Nat → List Byte → List Host.Cell
  | m, _, [] => m
  | m, a, b :: rest => Memory.writeBytes (Memory.write m a b) (a + 1) rest

/-- `k` bytes read from an address up. -/
def Memory.readBytes (m : List Host.Cell) : Nat → Nat → List Byte
  | _, 0 => []
  | a, k + 1 => Memory.read m a :: Memory.readBytes m (a + 1) k

/-- The canonical form from an address up: addresses strictly rising and below the memory's size, no entry equal to
what an unlisted address reads as. -/
def Memory.wfFrom : Nat → List Host.Cell → Bool
  | _, [] => true
  | lo, (k, v) :: rest =>
    decide (lo ≤ k) && decide (k < Config.memorySize) && v != Config.unlistedByte && Memory.wfFrom (k + 1) rest

/-- The memory is in its canonical form. -/
def Memory.wf (m : List Host.Cell) : Bool := Memory.wfFrom 0 m

/-- Address and byte pairs written one after another. -/
def Memory.writeCells : List Host.Cell → List (Nat × Byte) → List Host.Cell
  | m, [] => m
  | m, (a, b) :: rest => Memory.writeCells (Memory.write m a b) rest

/-! ### The send queue (R171) -/

def isBeacon : Payload → Bool
  | .beacon => true
  | .claim => false
  | .release => false
  | .request _ _ => false
  | .answer _ _ _ => false

/-- Coordination telegrams go ahead of requests and answers (R171). -/
def isCoordination : Payload → Bool
  | .beacon => true
  | .claim => true
  | .release => true
  | .request _ _ => false
  | .answer _ _ _ => false

/-- The entries filled other than the beacon slot. -/
def othersFilled (q : List QueueEntry) : Nat := (q.filter fun e => !isBeacon e.payload).length

/-- Some entry other than the beacon slot is neither filled nor reserved: seven such entries (R171). -/
def hasFree (l : HallLine) : Bool := othersFilled l.queue + l.reserved < 7

/-- An entry as it is handed over. -/
def newEntry (p : Payload) : QueueEntry := ⟨p, 0, false, false⟩

/-- A telegram handed to the send queue; dropped at once while no entry is free (R171). -/
def handOver (p : Payload) (l : HallLine) : HallLine :=
  if hasFree l then { l with queue := l.queue ++ [newEntry p] } else l

/-- A beacon falls due (R81): the slot is filled, or the beacon merges into one not yet sent; one being sent misses
the change, which makes a new one due (log 16). -/
def beaconDue (l : HallLine) : HallLine :=
  if l.queue.any fun e => isBeacon e.payload then
    if l.queue.any fun e => isBeacon e.payload && e.sending then { l with dueAgain := true } else l
  else { l with queue := l.queue ++ [newEntry .beacon] }

/-- An own CLAIM still waits in the send queue: it is there and not being sent (R5, R93, log 17). -/
def claimWaits (l : HallLine) : Bool := l.queue.any fun e => e.payload == .claim && !e.sending

/-- Own CLAIMs that wait are withdrawn; one being sent is withdrawn if its attempt ends by loss or line fault (R5). -/
def withdrawClaims (l : HallLine) : HallLine :=
  { l with
    queue := (l.queue.filter fun e => !(e.payload == .claim && !e.sending)).map fun e =>
      if e.payload == .claim then { e with withdrawn := true } else e }

/-- A RESTART waits for its ANSWER to be sent (R175, R178). -/
def restartWaits (l : HallLine) : Bool :=
  l.queue.any fun e =>
    match e.payload with
    | .answer _ _ r => r
    | .beacon => false
    | .claim => false
    | .release => false
    | .request _ _ => false

/-- "Each free entry that appears is taken at once by the waiting head" (R175): a directed request at the head of the
request queue gets an entry reserved. -/
def reserveForHead (s : State) : State :=
  match s.line.requests with
  | [] => s
  | t :: _ =>
    if directed s t && !s.line.headReserved && !restartWaits s.line && hasFree s.line then
      s.setLine { s.line with reserved := s.line.reserved + 1, headReserved := true }
    else s

/-- BUSY follows the fill of the request queue (R174). -/
def busyAfter (busy : Bool) (n : Nat) : Bool := if 6 ≤ n then true else if n ≤ 2 then false else busy

/-- One more trouble in the minute's count (R179). -/
def countTrouble (s : State) : State := s.setLine { s.line with count := s.line.count + 1 }

/-- A telegram handed over by an owner. -/
def send (p : Payload) (s : State) : State := s.setLine (handOver p s.line)

/-! ### The scaler link (R55, R57, R131) -/

/-- A message sent on the scaler link. -/
def tellScaler (m : ScalerMessage) (s : State) : State := s.setScalerLink (s.scalerLink ++ [m])

/-- Records from line `line` on, as they go on the link (R55). -/
def recordMessages (identity attempt : Nat) : Nat → List LineRecord → List ScalerMessage
  | _, [] => []
  | line, r :: rest => .record identity attempt line r :: recordMessages identity attempt (line + 1) rest

/-- The records of lines `a` to `b` − 1 of the table in flight, as they go on the link in the load attempt (R55). -/
def recordsBetween (g : Geometry) (a b : Nat) : List ScalerMessage :=
  match g.inFlightId, g.inFlightTable with
  | some id, some t => recordMessages id g.attempt a ((t.take b).drop a)
  | _, _ => []

/-- The number of records of the table in flight. -/
def tableLength (g : Geometry) : Nat := (g.inFlightTable.getD []).length

/-- The records of the table in flight are sent on, up to line `b` − 1 (R55). -/
def sendRecords (b : Nat) (s : State) : State :=
  let n := max s.geometry.linesSent (min b (tableLength s.geometry))
  (s.setScalerLink (s.scalerLink ++ recordsBetween s.geometry s.geometry.linesSent n)).setGeometry
    { s.geometry with linesSent := n }

/-- A table is being sent: LOADING, and its last record not yet reported sent (R55). -/
def sendingTable (g : Geometry) : Bool := g.state == .loading && g.loadWait.isNone

/-- The records that have gone on the link by now while a table is being sent: record 0 at least, as the sending begins
with LOADING, and a number of further ones that the spec leaves open (R55, the free value of log 26). -/
def linkProgress (s : State) : State :=
  if sendingTable s.geometry then
    sendRecords (max 1 (s.geometry.linesSent + Config.recordsSent s.geometry.linkDraws))
      (s.setGeometry { s.geometry with linkDraws := s.geometry.linkDraws + 1 })
  else s

/-- A select command handed over: it goes after the record being sent and ahead of the next one (R131). -/
def sendSelect (input : Option Input) (origin : Option Origin) (s : State) : State :=
  tellScaler (.select input origin) (linkProgress s)

end Sys2Proof.Machine
end

