-- ==== Sys2Proof/Machine/LampOps.lean ====
section
/-! DEFINITION. The shared operations of the Lamp Controller, Wear Accountant, Lock Set and Group Coordinator, and the
settling that ends every step. -/

namespace Sys2Proof.Machine

/-! ### Wear -/

/-- The accumulator's largest value, 2^40 − 1 (2.1). -/
def maxAccumulator : Nat := 1099511627775

/-- Use added to the accumulator, which saturates (R30). -/
def addUse (n : Nat) (w : Wear) : Wear := { w with accumulator := min (w.accumulator + n) maxAccumulator }

/-- One strike attempt reported (R31). -/
def reportStrike (w : Wear) : Wear :=
  { addUse 18000 w with strikes := min (w.strikes + 1) 16777215 }

/-- A write can reach the memory: it is present and zone 6 has a place (R37, R185). -/
def canWrite (s : State) : Bool := s.straps.memory && s.start.wearPlace.isSome

/-- A write starts with the values of the moment (R37). Without memory or place both attempts fail at once (log 18). -/
def startWrite (s : State) : State :=
  if canWrite s then s.setWear { s.wear with write := some ⟨s.wear.accumulator, s.wear.strikes, 1⟩ }
  else s.setWear { s.wear with outcome := .failed }

/-- A write of the record is requested, provided wear is VALID (R36); taken by R37 or R38. -/
def requestWrite (s : State) : State :=
  if s.wear.valid then
    if s.wear.write.isSome then s.setWear { s.wear with writeAgain := true } else startWrite s
  else s

/-- The extinction reported to the Wear Accountant (R11, R36). -/
def reportExtinction (s : State) : State := requestWrite (s.setWear { s.wear with litTime := 0 })

/-! ### Claims and extinction -/

/-- The Lamp Controller releases its claim (R5, R91). An entry that a withdrawn CLAIM frees beyond the one the RELEASE
takes is not reserved for a waiting head, as R175 does not name a withdrawal (log 46). -/
def releaseClaim (s : State) : State :=
  let s := s.setClaims (s.claims.filter fun c => c.claimant != s.straps.number)
  let s := s.setLamp { s.lamp with renewal := none }
  s.setLine (handOver .release (withdrawClaims s.line))

/-- Entry to WAITING (R4, R5). -/
def enterWaiting (s : State) : State :=
  let s := s.setLamp
    { s.lamp with state := .waiting, attempts := 0, relight := false, coolDown := none, renewal := some 4000 }
  send .claim s

/-- The times started at every extinction (R12). -/
def darkened (s : State) (next : LampState) : Lamp :=
  { s.lamp with
    state := next, actual := 0, litWait := none, retryGap := none, warmUp := none,
    restrike := some (s.settings.restrike * 1000), coolDown := some (s.settings.coolDown * 1000) }

/-- Extinction: the lamp leaves STRIKING, WARMING or LIT for `next` (R12). -/
def extinguish (next : LampState) (s : State) : State :=
  let was := s.lamp.state
  let s := match was with
    | .striking _ => releaseClaim s
    | .warming => s
    | .lit => s
    | .dark => s
    | .waiting => s
    | .cooling => s
    | .fault => s
  let s := s.setLamp (darkened s next)
  if burning was then reportExtinction s else s

/-- Relight-pending set or cleared. -/
def setRelight (b : Bool) (s : State) : State := s.setLamp { s.lamp with relight := b }

/-- The lamp acts as for a withdrawn decision (R13); also for a LAMP lock added and for DUPLICATE set (R14). -/
def unwanted (s : State) : State :=
  match s.lamp.state with
  | .dark => s
  | .waiting => let s := releaseClaim s; s.setLamp { s.lamp with state := .dark }
  | .striking _ => setRelight false (extinguish .cooling s)
  | .warming => setRelight false (extinguish .cooling s)
  | .lit => setRelight false (extinguish .cooling s)
  | .cooling => setRelight false s
  | .fault => s

/-- R4: the lamp in DARK enters WAITING as soon as all start conditions hold. -/
def startTest (s : State) : State :=
  if s.lamp.state = .dark ∧ startConditions s = true then enterWaiting s else s

/-- The lamp acts on a decision become wanted (R4, R15). -/
def nowWanted (s : State) : State :=
  match s.lamp.state with
  | .dark => startTest s
  | .cooling =>
    if s.lamp.restrike.isSome then setRelight true s
    else if startConditions s then enterWaiting s
    else setRelight true s
  | .waiting => s
  | .striking _ => s
  | .warming => s
  | .lit => s
  | .fault => s

/-- A change of the decision from `before` is handed to the Lamp Controller (R101); set aside in SERVICE (R26). -/
def onDecision (before : Bool) (s : State) : State :=
  if inService s then s
  else if before && !wanted s then unwanted s
  else if !before && wanted s then nowWanted s
  else s

/-! ### Strike attempts -/

/-- A strike attempt begins (R7): phase ATTEMPT, counted, reported, lit-sense wait of 5 s. -/
def beginAttempt (s : State) : State :=
  let s := s.setLamp
    { s.lamp with state := .striking .attempt, attempts := s.lamp.attempts + 1, litWait := some 5000, retryGap := none }
  s.setWear (reportStrike s.wear)

/-- WAITING enters STRIKING when permission, RUNNING and supply come together (R6); an ended retry gap waits for the
tachometer to be RUNNING (R8). -/
def strikeTest (s : State) : State :=
  match s.lamp.state with
  | .waiting => if permission s && s.pins.tacho == .running && !s.pins.supplyLow then beginAttempt s else s
  | .striking .gap => if s.lamp.retryGap.isNone && s.pins.tacho == .running then beginAttempt s else s
  | .striking .attempt => s
  | .dark => s
  | .warming => s
  | .lit => s
  | .cooling => s
  | .fault => s

/-! ### Group Coordinator: selection and mode -/

/-- The selection becomes NONE (R114). -/
def clearSelection (s : State) : State := s.setGroup { s.group with selection := .unselected }

/-- The election runs (R113). -/
def elect (s : State) : State :=
  if electionTakesOwn s then onDecision (wanted s) (s.setGroup { s.group with selection := .elected }) else s

/-- The election at the own station's becoming available with the mode ON (R113). -/
def electIfAvailable (before s : State) : State :=
  if s.group.mode.isSome && !ownAvailable before && ownAvailable s then elect s else s

/-- The mode set ON by an event of a cause (R102, R103). -/
def groupOn (cause : OnCause) (s : State) : State :=
  match s.group.mode with
  | none =>
    let s := s.setGroup { s.group with mode := some cause }
    if ownAvailable s then elect s else s
  | some _ =>
    match cause with
    | .schedule => s.setGroup { s.group with mode := some .schedule }
    | .request => s
    | .keypad => s
    | .signal => s

/-- The mode set OFF (R103). -/
def groupOff (s : State) : State :=
  match s.group.mode with
  | none => s
  | some _ =>
    onDecision (wanted s)
      (s.setGroup
        { s.group with
          mode := none, levelOverride := none, selection := .unselected, shortTimer := none, growth := 0 })

/-! ### Lock Set -/

/-- Locks less those of a holder. -/
def withoutHolder (h : Holder) (locks : List Lock) : List Lock := locks.filter fun l => l.holder != h

/-- What follows a change of the Lock Set by which LAMP ceases to be covered (R143). -/
def lampUncovered (before s : State) : State :=
  if lampLocked before.locks && !lampLocked s.locks then electIfAvailable before s else s

/-- A lock added, or put in the place of its holder's (R143, R144). An equal lock changes nothing. That it stands last is
the model's choice (log 32). -/
def addLock (l : Lock) (s : State) : State :=
  if s.locks.contains l then s
  else
    let t := s.setLocks (withoutHolder l.holder s.locks ++ [l])
    if l.scopes.lamp then clearSelection (unwanted t) else lampUncovered s t

/-- The lock of a holder removed, if it holds one (R143). -/
def removeLock (h : Holder) (s : State) : State :=
  lampUncovered s (s.setLocks (withoutHolder h s.locks))

/-! ### Faults -/

/-- A fault added to the set. -/
def addFault (f : LampFault) (x : LampFaults) : LampFaults :=
  match f with
  | .thermal => { x with thermal := true }
  | .noStrike => { x with noStrike := true }
  | .dropout => { x with dropout := true }
  | .supply => { x with supply := true }
  | .fan => { x with fan := true }

/-- A lamp not burning enters FAULT: the cool-down starts for its full time, relight-pending and the attempt count are
cleared (R21). -/
def intoFault (s : State) : State :=
  clearSelection
    (s.setLamp
      { s.lamp with
        state := .fault, coolDown := some (s.settings.coolDown * 1000), relight := false, attempts := 0 })

/-- A fault is latched (R21); at the entry to FAULT the selection becomes NONE (R114). -/
def latchFault (f : LampFault) (s : State) : State :=
  let s := s.setLamp { s.lamp with faults := addFault f s.lamp.faults }
  match s.lamp.state with
  | .dark => intoFault s
  | .waiting => intoFault (releaseClaim s)
  | .striking _ => intoFault (extinguish .fault s)
  | .warming => intoFault (extinguish .fault s)
  | .lit => intoFault (extinguish .fault s)
  | .cooling => intoFault s
  | .fault => s.setLamp { s.lamp with coolDown := some (s.settings.coolDown * 1000) }

/-- The attempt failed (R7): the retry gap, or NO_STRIKE on the third. -/
def failAttempt (s : State) : State :=
  let s := s.setLamp { s.lamp with litWait := none }
  if s.lamp.attempts < 3 then s.setLamp { s.lamp with state := .striking .gap, retryGap := some 10000 }
  else latchFault .noStrike s

/-- The condition of each latched fault is gone (R23). -/
def conditionsGone (s : State) : Bool :=
  (!s.lamp.faults.thermal || s.lamp.temperature < s.settings.tWarn) &&
  (!s.lamp.faults.fan || (fanDriven s.lamp && s.pins.tacho == .running)) &&
  (!s.lamp.faults.supply || !s.pins.supplyLow)

/-- All latched faults cleared: the lamp leaves FAULT (R23, R24), and the election runs if the own station becomes
available by it (R113). -/
def clearFaults (s : State) : State :=
  let l := s.lamp
  let l := { l with
    faults := .clear
    dropoutWindow := if l.faults.dropout then none else l.dropoutWindow
    fanTest := if l.faults.fan then none else l.fanTest }
  let l := if l.state = .fault then
      (if l.restrike.isSome || l.coolDown.isSome then { l with state := .cooling, relight := false }
       else { l with state := .dark })
    else l
  electIfAvailable s (s.setLamp l)

/-- CLEAR_FAULT (R23): the new state, and whether the request is TAKEN. -/
def tryClear (s : State) : State × Bool :=
  if !anyFault s.lamp.faults then (s, true)
  else if conditionsGone s then (clearFaults s, true)
  else if s.lamp.faults.fan && !fanDriven s.lamp then (s.setLamp { s.lamp with fanTest := some 10000 }, false)
  else (s, false)

/-! ### Settling: what every step brings about before it ends -/

/-- The life limit is judged (R39): the WEAR lock is handed over, or the life hold is set while the lamp is lit-side. -/
def lifeJudge (s : State) : State :=
  if lifeReached s || s.wear.lifeHold then
    if litSide s.lamp.state then s.setWear { s.wear with lifeHold := true }
    else
      let s := s.setWear { s.wear with lifeHold := false }
      if (lockOf s.locks .wear).isSome then s else addLock ⟨.wear, scopesLamp, none⟩ s
  else s

/-- P is recomputed and handed on if new, SHORTFALL is judged, and the group is judged for shortfall (R115 to R117). -/
def judgeGroup (s : State) : State :=
  let p := commonPower s
  let s' := s.setGroup { s.group with p := p, unclamped := unclampedPower s, shortfall := shortfallNow s }
  let s' := if p = s.group.p then s' else s'.setLamp { s'.lamp with heldP := clamp 60 100 p }
  if groupShort s' then
    s'.setGroup { s'.group with shortTimer := if s'.group.shortTimer.isSome then s'.group.shortTimer else some 10000 }
  else s'.setGroup { s'.group with shortTimer := none, growth := 0 }

/-- An ELECTED station withdraws (R119), tested when P was recomputed or the committed set changed since `before`. -/
def withdrawTest (before s : State) : State :=
  if powerInputs before ≠ powerInputs s ∧ withdraws s = true then onDecision (wanted s) (clearSelection s) else s

/-- In LIT the target is the held P brought into P_min to the cap (R10). -/
def retarget (s : State) : State :=
  if s.lamp.state = .lit then s.setLamp { s.lamp with target := clamp s.settings.pMin s.lamp.cap s.lamp.heldP } else s

/-- A timer that runs exactly while a condition holds. -/
def runWhile (c : Bool) (len : Nat) (t : Timer) : Timer := if c then (if t.isSome then t else some len) else none

/-- The fan stall timer runs while the fan is driven and the tachometer is STALLED (R2). -/
def fanStallJudge (s : State) : State :=
  s.setLamp { s.lamp with fanStall := runWhile (fanDriven s.lamp && s.pins.tacho == .stalled) 5000 s.lamp.fanStall }

/-- The idle timer runs while its conditions hold (R136). -/
def idleJudge (s : State) : State :=
  s.setSource { s.source with idle := runWhile (idleCondition s) (s.settings.idle * 60000) s.source.idle }

/-- A change-driven beacon falls due if a cause of R80 differs from the state before the step (log 8). -/
def beaconJudge (before s : State) : State :=
  if beaconCauses before = beaconCauses s then s else s.setLine (beaconDue s.line)

/-- The end of every step: the conditions that act "as soon as" they hold, from the state before the step (log 9). -/
def settle (before s : State) : State :=
  let s := lifeJudge s
  let s := startTest s
  let s := strikeTest s
  let s := lifeJudge s
  let s := judgeGroup s
  let s := withdrawTest before s
  let s := judgeGroup s
  let s := retarget s
  let s := fanStallJudge s
  let s := idleJudge s
  beaconJudge before s

/-- The outcome of a command whose own effect is `op`: the effect, then the settling. -/
def finish (op : State → State) (s : State) : Host.Outcome State Fault Refusal := .next (settle s (op s))

end Sys2Proof.Machine
end

