-- ==== Sys2Proof/Machine/Claims.lean ====
section
/-! DEFINITION. Power Circuits and Strike Claims (05): the commands of the Claim List's family. -/

namespace Sys2Proof.Machine

/-- A received CLAIM or RELEASE is on the own circuit, has a body of length 0, and comes from another station (R85). -/
def claimTelegram (s : State) (t : Telegram) : Bool :=
  t.dest == destCircuit s.settings.circuit && t.body.isEmpty && t.origin != 0 && t.origin.toNat != s.straps.number

/-- The Claim List after a CLAIM of another station: added at the end, or renewed in place (R86). -/
def claimed (n : Nat) (xs : List ClaimEntry) : List ClaimEntry :=
  if xs.any fun c => c.claimant == n then
    xs.map fun c => if c.claimant = n then { c with age := some 12000 } else c
  else xs ++ [⟨n, some 12000⟩]

/-- The Claim List without the entry of a station (R87 to R89, R91). -/
def unclaimed (n : Nat) (xs : List ClaimEntry) : List ClaimEntry := xs.filter fun c => c.claimant != n

/-- A CLAIM taken from another station (R85, R86). -/
def takeClaim (t : Telegram) (s : State) : State :=
  if claimTelegram s t then s.setClaims (claimed t.origin.toNat s.claims) else s

/-- A RELEASE taken from another station (R85, R87). -/
def takeRelease (t : Telegram) (s : State) : State :=
  if claimTelegram s t then s.setClaims (unclaimed t.origin.toNat s.claims) else s

/-- The age timer of a station's entry expires (R88); the own entry has none (R90). -/
def claimAged (n : Nat) (s : State) : State :=
  if s.claims.any fun c => c.claimant == n && c.age.isSome then s.setClaims (unclaimed n s.claims) else s

/-- AGE_TIMER_EXPIRY (R88). -/
def execAgeTimerExpiry (station : Nat) (s : State) : Host.Outcome State Fault Refusal := finish (claimAged station) s

/-- The claim renewal timer expires (R5): another CLAIM in WAITING or STRIKING, unless one still waits. -/
def renewClaim (s : State) : State :=
  if s.lamp.renewal.isSome then
    match s.lamp.state with
    | .waiting => let s := s.setLamp { s.lamp with renewal := some 4000 }; if claimWaits s.line then s else send .claim s
    | .striking _ => let s := s.setLamp { s.lamp with renewal := some 4000 }; if claimWaits s.line then s else send .claim s
    | .dark => s
    | .warming => s
    | .lit => s
    | .cooling => s
    | .fault => s
  else s

/-- CLAIM_RENEWAL (R5). -/
def execClaimRenewal (s : State) : Host.Outcome State Fault Refusal := finish renewClaim s

/-- The own CLAIM sent complete adds the own claim (R90). -/
def ownClaimEcho (s : State) : State :=
  match s.lamp.state with
  | .waiting => if ownClaimed s then s else s.setClaims (s.claims ++ [⟨s.straps.number, none⟩])
  | .striking _ => if ownClaimed s then s else s.setClaims (s.claims ++ [⟨s.straps.number, none⟩])
  | .dark => s
  | .warming => s
  | .lit => s
  | .cooling => s
  | .fault => s

end Sys2Proof.Machine
end

