-- ==== Sys2Proof/Machine/Source.lean ====
section
/-! DEFINITION. Source Selection (07): the selector's operations and the commands of its family. -/

namespace Sys2Proof.Machine

/-- A switch begins to a target (R131): shown at once, commanded on the scaler link with the origin of its entry. -/
def beginSwitch (target : Option Input) (s : State) : State :=
  let origin := (s.source.list.find? fun e => some e.input == target).map fun e => e.origin
  sendSelect target origin
    (s.setSource { s.source with hold := none, shown := target, switch := some 1500, state := .switching })

/-- The judgement of R130, with the wanted input given. -/
def judgeWith (w : Option Input) (s : State) : State :=
  if w ≠ s.source.shown then beginSwitch w s
  else if shownPresent s then s.setSource { s.source with hold := none, switch := none, state := .showing }
  else if s.source.hold.isSome then s.setSource { s.source with switch := none, state := .holding }
  else if s.source.shown = none ∨ (s.source.shown = topInput s ∧ s.source.topPassed = true) then
    s.setSource { s.source with switch := none, state := .noSignal }
  else s.setSource { s.source with hold := some (s.settings.hold * 1000), switch := none, state := .holding }

/-- The judgement that follows an event while the selector is not SWITCHING (R130). -/
def judgeSource (s : State) : State :=
  match s.source.state with
  | .switching => s
  | .showing => judgeWith (wantedInput s) s
  | .holding => judgeWith (wantedInput s) s
  | .noSignal => judgeWith (wantedInput s) s

/-- The end of a switch (R132): the target is protected until the judgement. -/
def endSwitch (s : State) : State := judgeWith (wantedInput s) s

/-- The source list after a push (R124). -/
def pushed (i : Input) (o : Origin) (xs : List SourceEntry) : List SourceEntry :=
  (⟨i, o⟩ :: xs.filter fun e => e.input != i).take 4

/-- A push (R124): the list, top passed cleared, the hold stopped, and the judgement; while SWITCHING only the removal
of the target supersedes the switch (R133). -/
def push (i : Input) (o : Origin) (s : State) : State :=
  let s := s.setSource { s.source with list := pushed i o s.source.list, topPassed := false, hold := none }
  match s.source.state with
  | .switching =>
    match s.source.shown with
    | none => s
    | some t => if s.source.list.any fun e => e.input == t then s else beginSwitch (wantedInput s) s
  | .showing => judgeSource s
  | .holding => judgeSource s
  | .noSignal => judgeSource s

/-- One sample of a presence line (R122, R123). -/
def senseSample (x : InputSense) (level : Bool) : InputSense :=
  match x.presence with
  | .unsettled =>
    let run := if 0 < x.run ∧ x.last = level then x.run + 1 else 1
    if 3 ≤ run then ⟨if level then .present else .absent, 0, level⟩ else ⟨.unsettled, run, level⟩
  | .present =>
    if level then ⟨.present, 0, level⟩ else if 3 ≤ x.run + 1 then ⟨.absent, 0, level⟩ else ⟨.present, x.run + 1, level⟩
  | .absent =>
    if !level then ⟨.absent, 0, level⟩ else if 3 ≤ x.run + 1 then ⟨.present, 0, level⟩ else ⟨.absent, x.run + 1, level⟩

/-- A gain of presence: from ABSENT to PRESENT; settling is none (R122, R123). -/
def gained (x y : InputSense) : Bool := x.presence == .absent && y.presence == .present

/-- A gain, or a settling to PRESENT. -/
def rose (x y : InputSense) : Bool := x.presence != .present && y.presence == .present

/-- The telegram GROUP_ON or GROUP_OFF sent to the own group (R105, R106). -/
def modeTelegram (kind : Byte) : Payload := .request kind []

/-- Signal wake at the Group Coordinator (R106). -/
def signalWake (s : State) : State :=
  match s.group.mode with
  | some _ => s
  | none =>
    if passesCheck s.locks .signal ⟨true, true, false, false, false⟩ then
      send (modeTelegram kindGroupOn) (groupOn .signal s)
    else s

/-- Idle off at the Group Coordinator (R106). -/
def idleOff (s : State) : State :=
  match s.group.mode with
  | none => s
  | some .schedule => s
  | some _ =>
    if passesCheck s.locks .signal ⟨false, true, false, false, false⟩ then
      send (modeTelegram kindGroupOff) (groupOff s)
    else s

/-- One sample of the six presence lines (R122): gains, losses and settlings, the judgement, and a signal wake for a
gain of a listed input while the mode is OFF (R137). The six are debounced before any is handed on (log 23). -/
def samplePresence (lines : Six Bool) (s : State) : State :=
  let old := s.source.inputs
  let new := sixZip senseSample old lines
  let changed := allInputs.any fun i => (sixGet old i).presence != (sixGet new i).presence
  let t := s.setSource { s.source with inputs := new }
  let t := match topInput t with
    | some i => if rose (sixGet old i) (sixGet new i) then t.setSource { t.source with topPassed := false } else t
    | none => t
  let t := if changed then judgeSource t else t
  if s.settings.signalWake && s.source.list.any fun e => gained (sixGet old e.input) (sixGet new e.input) then
    signalWake t
  else t

/-- PRESENCE_SAMPLE (R122). -/
def execPresenceSample (lines : Six Bool) (s : State) : Host.Outcome State Fault Refusal :=
  finish (samplePresence lines) s

/-- A lock report naming the target ends the switch; any other is disregarded (R132). -/
def takeLockReport (i : Input) (s : State) : State :=
  if s.source.state = .switching ∧ s.source.shown = some i then endSwitch s else s

/-- LOCK_REPORT (R132). -/
def execLockReport (input : Input) (s : State) : Host.Outcome State Fault Refusal :=
  finish (takeLockReport input) s

/-- The switch timer expires (R132). -/
def switchExpired (s : State) : State :=
  if s.source.state = .switching ∧ s.source.switch.isSome = true then endSwitch s else s

/-- SWITCH_TIMER_EXPIRY (R132). -/
def execSwitchTimerExpiry (s : State) : Host.Outcome State Fault Refusal := finish switchExpired s

/-- The hold timer expires (R134): top passed if the shown input is the top entry's, then the judgement, unprotected. -/
def holdExpired (s : State) : State :=
  if s.source.hold.isSome then
    judgeSource
      (s.setSource
        { s.source with
          hold := none
          topPassed := s.source.topPassed || (s.source.shown.isSome && s.source.shown == topInput s) })
  else s

/-- HOLD_TIMER_EXPIRY (R134). -/
def execHoldTimerExpiry (s : State) : Host.Outcome State Fault Refusal := finish holdExpired s

/-- The idle timer expires (R136): idle off is handed over; if it is refused the settling starts the timer again. -/
def idleExpired (s : State) : State :=
  if s.source.idle.isSome then idleOff (s.setSource { s.source with idle := none }) else s

/-- IDLE_TIMER_EXPIRY (R136). -/
def execIdleTimerExpiry (s : State) : Host.Outcome State Fault Refusal := finish idleExpired s

/-- The selector's start with a list (R138): a switch to the top entry, or a select command naming no input. -/
def startSelector (s : State) : State :=
  match s.source.list with
  | [] => sendSelect none none (s.setSource { s.source with shown := none, switch := none, state := .noSignal })
  | e :: _ => beginSwitch (some e.input) s

/-- The selector's warm reset (R139): as at power-on, with the initial list read then. -/
def resetSelector (s : State) : State :=
  startSelector (s.setSource { Source.powerOn with list := s.settings.initialList })

end Sys2Proof.Machine
end

