-- ==== Sys2Proof/Machine/Clock.lean ====
section
/-! DEFINITION. Clock and Room Schedule (09): slot table, evaluation, clock, and the commands of the family. -/

namespace Sys2Proof.Machine

/-! ### The slot table -/

/-- The first weekday of a slot, Monday being 0. -/
def firstDay (wd : BitVec 7) : Nat := ([0, 1, 2, 3, 4, 5, 6].find? fun i => wd.getLsbD i).getD 7

/-- `x` stands before `y`: by first weekday, start, id (R160). -/
def slotBefore (x y : Slot) : Bool :=
  if firstDay x.weekdays ≠ firstDay y.weekdays then firstDay x.weekdays < firstDay y.weekdays
  else if x.start ≠ y.start then x.start < y.start
  else x.id < y.id

/-- A slot put in its place in the order. -/
def insertSlot (x : Slot) : List Slot → List Slot
  | [] => [x]
  | y :: rest => if slotBefore x y then x :: y :: rest else y :: insertSlot x rest

/-- Slots less the one of an id. -/
def withoutSlot (id : Nat) (xs : List Slot) : List Slot := xs.filter fun x => x.id != id

/-- Steps 3 to 6 of R161 for a slot already in range: the new table, and the code. -/
def putSlot (group : Nat) (x : Slot) (xs : List Slot) : List Slot × ResultCode :=
  if !x.groups.getLsbD group then (withoutSlot x.id xs, .noEntry)
  else if xs.any fun y => y.id == x.id then (insertSlot x (withoutSlot x.id xs), .taken)
  else if 64 ≤ xs.length then (xs, .full)
  else (insertSlot x xs, .taken)

/-! ### Evaluation -/

/-- The SCHEDULE lock wanted by an effective slot (R165 step 1). -/
def lockWanted (x : Option Slot) : Option Scopes :=
  match x with
  | none => none
  | some x =>
    match x.kind with
    | .exam => some scopesExam
    | .closed => some scopesClosed
    | .lecture => none

/-- Step 1 of an evaluation (R165): the SCHEDULE lock. -/
def scheduleLock (x : Option Slot) (s : State) : State :=
  match lockWanted x with
  | some sc => addLock ⟨.schedule, sc, none⟩ s
  | none => removeLock .schedule s

/-- The slot level an effective slot sets (R165 step 2). -/
def slotLevelOf (x : Option Slot) : Option Nat :=
  match x with
  | none => none
  | some x =>
    match x.kind with
    | .closed => none
    | .lecture => x.level
    | .exam => x.level

/-- The default source an effective slot pushes (R127). -/
def slotSourceOf (x : Option Slot) : Option Input :=
  match x with
  | none => none
  | some x =>
    match x.kind with
    | .closed => none
    | .lecture => x.source
    | .exam => x.source

/-- The slot is a CLOSED slot. -/
def isClosed (x : Option Slot) : Bool :=
  match x with
  | none => false
  | some x => x.kind == .closed

/-- Step 2 of an evaluation (R165): slot level, source, CLOSED slot start. -/
def enterEffective (x : Option Slot) (s : State) : State :=
  let s := s.setGroup { s.group with slotLevel := slotLevelOf x }
  let s := match slotSourceOf x with
    | some i => push i .schedule s
    | none => s
  if isClosed x then groupOff s else s

/-- Leaving a slot (R107). -/
def leaveSlot (s : State) : State :=
  let s := s.setGroup { s.group with slotLevel := none }
  if s.group.mode = some .schedule then groupOff s else s

/-- Step 3 of an evaluation (R165): schedule ON, or leaving. -/
def enterOn (eff on : Option Slot) (s : State) : State :=
  match on with
  | some _ => groupOn .schedule s
  | none => if isClosed eff then s else leaveSlot s

/-- An evaluation (R164, R165). -/
def evaluate (s : State) : State :=
  let eff := effectiveSlot s.clock.minute s.schedule.slots
  let on := onSlot s.clock.minute s.schedule.slots
  let held := s.schedule
  let s := scheduleLock eff s
  let s := if eff ≠ held.heldEffective then enterEffective eff s else s
  let s := if on ≠ held.heldOn then enterOn eff on s else s
  s.setSchedule { held with heldEffective := eff, heldOn := on }

/-- An evaluation, made while the sure state is SURE; while UNSURE the schedule is frozen (R164). -/
def evaluateIfSure (s : State) : State := if s.clock.sure.isSome then evaluate s else s

/-- The slot table set, a table change if it differs (R161, R162). -/
def setSlots (xs : List Slot) (s : State) : State :=
  if xs = s.schedule.slots then s else evaluateIfSure (s.setSchedule { s.schedule with slots := xs })

/-! ### The clock -/

/-- The clock advances by one second; a minute change evaluates (R154, R164). -/
def advanceSecond (s : State) : State :=
  if 59 ≤ s.clock.seconds then
    evaluateIfSure (s.setClock { s.clock with seconds := 0, minute := (s.clock.minute + 1) % 10080 })
  else s.setClock { s.clock with seconds := s.clock.seconds + 1 }

/-- The own timebase ends a second; an inserted second is not counted (R154, R158). -/
def secondEnds (s : State) : State :=
  if 0 < s.clock.inserts then s.setClock { s.clock with inserts := s.clock.inserts - 1 } else advanceSecond s

/-- CLOCK_SECOND (R154). A second that passes 59 is the minute change (log 11). -/
def execClockSecond (s : State) : Host.Outcome State Fault Refusal := finish secondEnds s

/-- The second that passes 59 ends (R164); no minute change falls at other seconds (log 11). -/
def minuteEnds (s : State) : State := if s.clock.seconds = 59 then secondEnds s else s

/-- MINUTE_CHANGE (R164). -/
def execMinuteChange (s : State) : Host.Outcome State Fault Refusal := finish minuteEnds s

/-- 6 hours in ms (R155). -/
def sureLength : Nat := 21600000

/-- The clock is stepped and becomes SURE; the schedule evaluates at once (R157, R164). -/
def stepClock (minute seconds : Nat) (s : State) : State :=
  evaluate
    (s.setClock
      { s.clock with
        minute := minute, seconds := seconds, slewLeft := 0, slew := none, inserts := 0, sure := some sureLength })

/-- The difference of a TIME from the clock, the shorter way round the week (R157). -/
def clockDifference (minute seconds : Nat) (c : Clock) : Int :=
  let d : Int := (60 * minute + seconds : Nat) - (60 * c.minute + c.seconds : Nat)
  (d + 302400) % 604800 - 302400

/-- A TIME is adopted (R157). A slew drops any inserted second not yet passed, as the difference counts it (log 12). -/
def adopt (minute seconds : Nat) (s : State) : State :=
  let d := clockDifference minute seconds s.clock
  if s.clock.sure.isNone then stepClock minute seconds s
  else if d < -120 ∨ 120 < d then stepClock minute seconds s
  else
    s.setClock
      { s.clock with
        slewLeft := d, slew := if d = 0 then none else some 10000, inserts := 0, sure := some sureLength }

/-- The clock source is still heard: its entry is PRESENT or STALE (R156). -/
def sourceHeard (s : State) (n : Nat) : Bool := s.peers.any fun p => p.station == n && p.presence != .heard

/-- A TIME from another station than the source is adopted unless the source is heard; from the source always (R156). -/
def adopts (s : State) (origin : Nat) : Bool :=
  match s.clock.source with
  | none => true
  | some n => n == origin || !sourceHeard s n

/-- A received TIME (R156). -/
def takeTime (t : Telegram) (s : State) : State :=
  match t.body with
  | [m1, m0, sec] =>
    let minute := beNat [m1, m0]
    if minute ≤ 10079 ∧ sec.toNat ≤ 59 ∧ t.origin.toNat ≠ 0 ∧ t.origin.toNat ≠ s.straps.number ∧
        adopts s t.origin.toNat = true then
      adopt minute sec.toNat (s.setClock { s.clock with source := some t.origin.toNat })
    else s
  | _ => s

/-- The sure timer expires (R155). -/
def sureExpired (s : State) : State :=
  if s.clock.sure.isSome then s.setClock { s.clock with sure := none, slewLeft := 0, slew := none } else s

/-- SURE_TIMER_EXPIRY (R155). -/
def execSureTimerExpiry (s : State) : Host.Outcome State Fault Refusal := finish sureExpired s

/-- One second of a slew (R158): dropped while the clock is behind, inserted while it is ahead. -/
def slewOnce (s : State) : State :=
  if s.clock.slew.isSome then
    if 0 < s.clock.slewLeft then
      let left := s.clock.slewLeft - 1
      advanceSecond (s.setClock { s.clock with slewLeft := left, slew := if left = 0 then none else some 10000 })
    else if s.clock.slewLeft < 0 then
      let left := s.clock.slewLeft + 1
      s.setClock
        { s.clock with
          slewLeft := left, slew := if left = 0 then none else some 10000, inserts := s.clock.inserts + 1 }
    else s.setClock { s.clock with slew := none }
  else s

/-- SLEW_TIMER_EXPIRY (R158). -/
def execSlewTimerExpiry (s : State) : Host.Outcome State Fault Refusal := finish slewOnce s

/-- The schedule's warm reset (R154, R167): the clock source is cleared; while SURE the held copies are absent and an
evaluation is made; while UNSURE the held copies' actions are handed again. -/
def resetSchedule (s : State) : State :=
  let s := s.setClock { s.clock with source := none }
  if s.clock.sure.isSome then evaluate (s.setSchedule { s.schedule with heldEffective := none, heldOn := none })
  else
    let eff := s.schedule.heldEffective
    let s := match lockWanted eff with
      | some sc => addLock ⟨.schedule, sc, none⟩ s
      | none => s
    let s := if eff.isSome then enterEffective eff s else s
    if s.schedule.heldOn.isSome then groupOn .schedule s else s

end Sys2Proof.Machine
end

