-- ==== Sys2Proof/Machine/Warp.lean ====
section
/-! DEFINITION. The warp computation: line records and the light fraction of a corner set (R50 to R53). -/

namespace Sys2Proof.Machine

/-- A quotient rounded to the nearest whole number, halves away from zero (R50). -/
def roundQuot (num : Int) (den : Nat) : Int :=
  let q : Int := ((2 * num.natAbs + den) / (2 * den) : Nat)
  if num < 0 then -q else q

/-- n = B − T, one less than the number of picture lines (R51). -/
def pictureSpan (fmt : Fin 4) (c : CornerSet) : Nat := panelHeight fmt - 1 - c.bot - c.top

/-- The left edge of picture line t (R51). -/
def leftEdge (fmt : Fin 4) (c : CornerSet) (t : Nat) : Int :=
  c.lt + roundQuot (((c.lb : Int) - c.lt) * t) (pictureSpan fmt c)

/-- The right edge of picture line t (R51). -/
def rightEdge (fmt : Fin 4) (c : CornerSet) (t : Nat) : Int :=
  ((panelWidth fmt : Int) - 1 - c.rt) + roundQuot (((c.rt : Int) - c.rb) * t) (pictureSpan fmt c)

/-- span = xr − xl (R51). -/
def lineSpan (fmt : Fin 4) (c : CornerSet) (t : Nat) : Int := rightEdge fmt c t - leftEdge fmt c t

/-- The record of output line y (R51, R52). -/
def lineRecord (fmt : Fin 4) (c : CornerSet) (y : Nat) : LineRecord :=
  if y < c.top ∨ panelHeight fmt - 1 - c.bot < y then ⟨true, 0, 0, 0, 0⟩
  else
    let t := y - c.top
    { blank := false
      xl := leftEdge fmt c t
      xr := rightEdge fmt c t
      source := roundQuot (t * ((panelHeight fmt : Int) - 1)) (pictureSpan fmt c)
      step := roundQuot (4096 * ((panelWidth fmt : Int) - 1)) (lineSpan fmt c t).toNat }

/-- The warp table: one record for each output line, from line 0 (3.4). -/
def warpTable (fmt : Fin 4) (c : CornerSet) : List LineRecord :=
  (List.range (panelHeight fmt)).map (lineRecord fmt c)

/-- The sum of span + 1 over picture lines 0 to t (R53). -/
def areaTo (fmt : Fin 4) (c : CornerSet) : Nat → Int
  | 0 => lineSpan fmt c 0 + 1
  | t + 1 => areaTo fmt c t + (lineSpan fmt c (t + 1) + 1)

/-- The light fraction: the whole part of 1024 A / (W H) (R53). -/
def lightFraction (fmt : Fin 4) (c : CornerSet) : Nat :=
  1024 * (areaTo fmt c (pictureSpan fmt c)).toNat / (panelWidth fmt * panelHeight fmt)

end Sys2Proof.Machine
end

