-- ==== Sys2Proof/Machine/Geometry.lean ====
section
/-! DEFINITION. Geometry Engine (03): its operations and the commands of its family. -/

namespace Sys2Proof.Machine

/-- The number after the one last assigned, from 255 back to 1, with the active identity passed over (R54). -/
def nextIdentity (last active : Nat) : Nat :=
  let n := last % 255 + 1
  if n = active then n % 255 + 1 else n

/-- Computing starts on a set (R54). -/
def startComputing (set : CornerSet) (g : Geometry) : Geometry :=
  let id := nextIdentity g.lastId g.activeId
  { g with
    state := .computing, inFlight := some set, inFlightId := some id, lastId := id, inFlightF := none,
    inFlightTable := none, linesSent := 0, loadWait := none, swapRepeat := none, swapTimeout := none }

/-- The newest set (R49). -/
def newestSet (g : Geometry) : CornerSet :=
  match g.pendingSet with
  | some c => c
  | none =>
    match g.state with
    | .idle => g.active
    | .computing => g.inFlight.getD g.active
    | .loading => g.inFlight.getD g.active
    | .swapWait => g.inFlight.getD g.active

/-- A corner set offered as an edit (R49). -/
def offerEdit (c : CornerSet) (g : Geometry) : Geometry :=
  if c = newestSet g then g
  else
    match g.state with
    | .idle => startComputing c { g with pendingSet := none }
    | .computing => { g with pendingSet := some c }
    | .loading => { g with pendingSet := some c }
    | .swapWait => { g with pendingSet := some c }

/-- The swap request, naming the in-flight identity (R57). -/
def sendSwapRequest (s : State) : State :=
  match s.geometry.inFlightId with
  | some id => tellScaler (.swapRequest id) s
  | none => s

/-- The computation ends: R51, R52 and R53 have been applied to every output line of the in-flight set, so the table is
complete and the in-flight F is known; loading begins with attempt 1 (R54). -/
def computationEnds (s : State) : State :=
  if s.geometry.state = .computing then
    s.setGeometry
      { s.geometry with
        state := .loading, attempt := 1, loadWait := none, linesSent := 0
        inFlightTable := s.geometry.inFlight.map (warpTable s.straps.format)
        inFlightF := s.geometry.inFlight.map (lightFraction s.straps.format) }
  else s

/-- COMPUTATION_END (R54). -/
def execComputationEnd (s : State) : Host.Outcome State Fault Refusal := finish computationEnds s

/-- The last record has been sent: every record still to go is on the link, in order, and the 100 ms wait starts (R55). -/
def lastRecordSent (s : State) : State :=
  if sendingTable s.geometry then
    let s := sendRecords (tableLength s.geometry) s
    s.setGeometry { s.geometry with loadWait := some 100 }
  else s

/-- LOAD_SENT (R55). -/
def execLoadSent (s : State) : Host.Outcome State Fault Refusal := finish lastRecordSent s

/-- A report of the scaler names the load in hand (R55, R59). -/
def namesLoad (identity attempt : Nat) (g : Geometry) : Bool :=
  g.state == .loading && g.inFlightId == some identity && g.attempt == attempt

/-- An acknowledgement of the current load: the swap is requested (R55, R57); any other is disregarded (R59). -/
def takeAcknowledgement (identity attempt : Nat) (s : State) : State :=
  if namesLoad identity attempt s.geometry then
    let s := linkProgress s
    sendSwapRequest
      (s.setGeometry
        { s.geometry with state := .swapWait, loadWait := none, swapRepeat := some 100, swapTimeout := some 1000 })
  else s

/-- LOAD_ACKNOWLEDGEMENT (R55). -/
def execLoadAcknowledgement (identity attempt : Nat) (s : State) : Host.Outcome State Fault Refusal :=
  finish (takeAcknowledgement identity attempt) s

/-- The load has failed (R56). -/
def loadFails (g : Geometry) : Geometry :=
  { g with
    state := .idle
    pendingSet := if g.pendingSet.isSome then g.pendingSet else g.inFlight
    inFlight := none, inFlightId := none, inFlightF := none, inFlightTable := none, linesSent := 0, failure := true
    loadWait := none }

/-- The attempt has failed: the whole table is sent again from line 0, or the load has failed (R55). -/
def attemptFails (s : State) : State :=
  let s := linkProgress s
  if s.geometry.attempt = 1 then s.setGeometry { s.geometry with attempt := 2, linesSent := 0, loadWait := none }
  else s.setGeometry (loadFails s.geometry)

/-- A refusal of the current load ends the attempt at once; any other is disregarded (R55, R59). -/
def takeRefusal (identity attempt : Nat) (s : State) : State :=
  if namesLoad identity attempt s.geometry then attemptFails s else s

/-- LOAD_REFUSAL (R55). -/
def execLoadRefusal (identity attempt : Nat) (s : State) : Host.Outcome State Fault Refusal :=
  finish (takeRefusal identity attempt) s

/-- The acknowledgement wait expires (R55). -/
def loadWaitExpired (s : State) : State :=
  if s.geometry.state = .loading ∧ s.geometry.loadWait.isSome = true then attemptFails s else s

/-- LOAD_WAIT_EXPIRY (R55). -/
def execLoadWaitExpiry (s : State) : Host.Outcome State Fault Refusal := finish loadWaitExpired s

/-- The engine's state once the in-flight table is in use (R58), before further work. -/
def swapped (g : Geometry) : Geometry :=
  { g with
    state := .idle
    active := g.inFlight.getD g.active
    activeId := g.inFlightId.getD g.activeId
    f := g.inFlightF.getD g.f
    inFlight := none, inFlightId := none, inFlightF := none, inFlightTable := none, linesSent := 0, failure := false
    refreshDue := false
    swapRepeat := none, swapTimeout := none }

/-- A swap report naming the in-flight identity, in SWAP_WAIT (R58); any other is disregarded (R59). -/
def takeSwapReport (identity : Nat) (s : State) : State :=
  if s.geometry.state = .swapWait ∧ s.geometry.inFlightId = some identity then
    let g := swapped s.geometry
    match g.pendingSet with
    | some c => s.setGeometry (startComputing c { g with pendingSet := none })
    | none => s.setGeometry g
  else s

/-- SWAP_REPORT (R58). -/
def execSwapReport (identity : Nat) (s : State) : Host.Outcome State Fault Refusal :=
  finish (takeSwapReport identity) s

/-- 100 ms pass without a swap report: the request is sent again (R57). -/
def repeatSwapRequest (s : State) : State :=
  if s.geometry.state = .swapWait ∧ s.geometry.swapRepeat.isSome = true then
    sendSwapRequest (s.setGeometry { s.geometry with swapRepeat := some 100 })
  else s

/-- SWAP_REQUEST_REPEAT (R57). -/
def execSwapRequestRepeat (s : State) : Host.Outcome State Fault Refusal := finish repeatSwapRequest s

/-- 1 s passes without a swap report: geometry failure is set (R57). -/
def swapWaitEnds (s : State) : State :=
  if s.geometry.state = .swapWait ∧ s.geometry.swapTimeout.isSome = true then
    s.setGeometry { s.geometry with failure := true, swapTimeout := none }
  else s

/-- SWAP_WAIT_TIMEOUT (R57). -/
def execSwapWaitTimeout (s : State) : Host.Outcome State Fault Refusal := finish swapWaitEnds s

/-- The engine's warm reset (R62). -/
def resetEngine (g : Geometry) : Geometry :=
  match g.state with
  | .idle => startComputing g.active g
  | .computing =>
    startComputing g.active { g with pendingSet := if g.pendingSet.isSome then g.pendingSet else g.inFlight }
  | .loading =>
    startComputing g.active { g with pendingSet := if g.pendingSet.isSome then g.pendingSet else g.inFlight }
  | .swapWait => { g with refreshDue := true }

/-- The corner set formed from the newest set and a keystone value (R48). -/
def keystoneSet (newest : CornerSet) (v : Int) : CornerSet :=
  if 0 ≤ v then ⟨newest.top, newest.bot, 0, v.toNat, 0, v.toNat⟩
  else ⟨newest.top, newest.bot, (-v).toNat, 0, (-v).toNat, 0⟩

/-- A keystone step that passed its check (R48). -/
def stepKeystone (by8 : Int) (s : State) : State :=
  let q : Int := (panelWidth s.straps.format / 4 : Nat)
  let v := max (-q) (min q (s.geometry.v + by8))
  s.setGeometry (offerEdit (keystoneSet (newestSet s.geometry) v) { s.geometry with v := v })

end Sys2Proof.Machine
end

