-- ==== Sys2Proof/Machine/Group.lean ====
section
/-! DEFINITION. Screen Groups and Lighting (06): the command of the shortfall timer. -/

namespace Sys2Proof.Machine

/-- The own station is among the first `n` candidates (R118). -/
def amongFirst (n : Nat) (s : State) : Bool := ((candidates s).take n).any fun m => m.station == s.straps.number

/-- A growth step (R118); the settling restarts the timer if the group is still short. -/
def growthStep (s : State) : State :=
  if s.group.shortTimer.isSome then
    let n := min 30 (s.group.growth + 1)
    let s := s.setGroup { s.group with growth := n, shortTimer := none }
    if amongFirst n s && s.group.selection == .unselected then
      onDecision (wanted s) (s.setGroup { s.group with selection := .grown })
    else s
  else s

/-- SHORTFALL_TIMER_EXPIRY (R118). -/
def execShortfallTimerExpiry (s : State) : Host.Outcome State Fault Refusal := finish growthStep s

end Sys2Proof.Machine
end

