-- ==== Sys2Proof/Machine/Keys.lean ====
section
/-! DEFINITION. Locks (08): the keypad, the key switch and the minute timer of a timed lock. -/

namespace Sys2Proof.Machine

/-! ### The keypad -/

/-- One sample of a key, true for closed (R142): the new sampling, and whether it is a press. -/
def keySample (k : Key) (closed : Bool) : Key × Bool :=
  if k.down then
    if closed then ({ k with run := 0 }, false)
    else if 3 ≤ k.run + 1 then (⟨false, true, 0⟩, false)
    else ({ k with run := k.run + 1 }, false)
  else if closed then
    if k.foundOpen then
      if 3 ≤ k.run + 1 then (⟨true, false, 0⟩, true) else ({ k with run := k.run + 1 }, false)
    else (k, false)
  else (⟨false, true, 0⟩, false)

/-- The effect of a press, disregarded until the key switch position has settled (R142, R150). -/
def whenSettled (press : State → State) (s : State) : State :=
  if s.panel.switch.settled.isSome then settle s (press s) else s

/-- The samples of one key taken one after another; each press acts, to its end, before the next sample. -/
def sampleKey (get : Panel → Key) (put : Panel → Key → Panel) (press : State → State) : List Bool → State → State
  | [], s => s
  | x :: rest, s =>
    let r := keySample (get s.panel) x
    let s := s.setPanel (put s.panel r.1)
    sampleKey get put press rest (if r.2 then whenSettled press s else s)

/-- POWER pressed in SERVICE acts on the own lamp (R26). -/
def powerInService (s : State) : State :=
  if passesCheck s.locks .keypad ⟨false, true, false, false, true⟩ then
    match s.lamp.state with
    | .warming => setRelight false (extinguish .cooling s)
    | .lit => setRelight false (extinguish .cooling s)
    | .cooling => setRelight false s
    | .dark => s
    | .waiting => s
    | .striking _ => s
    | .fault => s
  else s

/-- POWER pressed in NORMAL or LOCKED toggles the own group's mode (R105). -/
def powerForGroup (s : State) : State :=
  match s.group.mode with
  | none =>
    if passesCheck s.locks .keypad ⟨true, true, false, false, true⟩ then
      send (modeTelegram kindGroupOn) (groupOn .keypad s)
    else s
  | some _ =>
    if passesCheck s.locks .keypad ⟨false, true, false, false, true⟩ then
      send (modeTelegram kindGroupOff) (groupOff s)
    else s

/-- A press of POWER (R26, R105). -/
def pressPower (s : State) : State := if inService s then powerInService s else powerForGroup s

/-- KEYPAD_POWER (R105). -/
def execKeypadPower (samples : List Bool) (s : State) : Host.Outcome State Fault Refusal :=
  .next (sampleKey (·.power) (fun p k => { p with power := k }) pressPower samples s)

/-- A press of SOURCE (R126): the input after the shown one is pushed, and SHOW is sent to the own group. A third press
within one switch starts from the shown input again, the target of the switch in flight (R132; log 40). -/
def pressSource (s : State) : State :=
  if passesCheck s.locks .keypad ⟨false, false, true, false, true⟩ then
    let i := match s.source.shown with
      | some i => nextInput i
      | none => .in1
    send (.request kindShow [byteOf (inputCode i)]) (push i .keypad s)
  else s

/-- KEYPAD_SOURCE (R126). -/
def execKeypadSource (samples : List Bool) (s : State) : Host.Outcome State Fault Refusal :=
  .next (sampleKey (·.source) (fun p k => { p with source := k }) pressSource samples s)

/-- A press of V+ or V−, in SERVICE only (R48). -/
def pressKeystone (by8 : Int) (s : State) : State :=
  if inService s && passesCheck s.locks .keypad ⟨false, false, false, true, true⟩ then stepKeystone by8 s else s

/-- KEYPAD_V_PLUS (R48). -/
def execKeypadVPlus (samples : List Bool) (s : State) : Host.Outcome State Fault Refusal :=
  .next (sampleKey (·.vPlus) (fun p k => { p with vPlus := k }) (pressKeystone 8) samples s)

/-- KEYPAD_V_MINUS (R48). -/
def execKeypadVMinus (samples : List Bool) (s : State) : Host.Outcome State Fault Refusal :=
  .next (sampleKey (·.vMinus) (fun p k => { p with vMinus := k }) (pressKeystone (-8)) samples s)

/-- A press of CLEAR (R23). -/
def pressClear (s : State) : State :=
  if passesCheck s.locks .keypad ⟨false, false, false, false, true⟩ then (tryClear s).1 else s

/-- KEYPAD_CLEAR (R23). -/
def execKeypadClear (samples : List Bool) (s : State) : Host.Outcome State Fault Refusal :=
  .next (sampleKey (·.clear) (fun p k => { p with clear := k }) pressClear samples s)

/-! ### The key switch -/

/-- The position a reading names. -/
def positionOf : KeyReading → Option KeyPosition
  | .normal => some .normal
  | .locked => some .locked
  | .service => some .service
  | .between => none

/-- One sample of the key switch (R150): the new sampling, and the position if this is the third equal one in a row. -/
def switchSample (k : KeySwitch) (r : KeyReading) : KeySwitch × Option KeyPosition :=
  match positionOf r with
  | none => ({ k with reading := .between, run := 0 }, none)
  | some p =>
    let run := if k.reading = r then min 3 (k.run + 1) else 1
    ({ k with reading := r, run := run }, if run = 3 then some p else none)

/-- The settled position. -/
def setPosition (p : KeyPosition) (s : State) : State :=
  s.setPanel { s.panel with switch := { s.panel.switch with settled := some p } }

/-- The lamp at the key switch's entering SERVICE (R26). -/
def lampIntoService (s : State) : State :=
  let s := match s.lamp.state with
    | .waiting => let s := releaseClaim s; s.setLamp { s.lamp with state := .dark }
    | .striking _ => extinguish .cooling s
    | .dark => s
    | .warming => s
    | .lit => s
    | .cooling => s
    | .fault => s
  setRelight false s

/-- The decision applied as if it had just been made, at the key switch's leaving SERVICE (R26). -/
def applyDecision (s : State) : State := if wanted s then nowWanted s else unwanted s

/-- What leaving the position does (R151). `before` is the state before the change. -/
def leavePosition (old : Option KeyPosition) (before s : State) : State :=
  match old with
  | some .locked => removeLock .keySwitch s
  | some .service => applyDecision (electIfAvailable before s)
  | some .normal => s
  | none => s

/-- What entering the position does (R151). -/
def enterPosition (p : KeyPosition) (s : State) : State :=
  match p with
  | .locked => addLock ⟨.keySwitch, scopesExam, none⟩ s
  | .service => clearSelection (lampIntoService s)
  | .normal => s

/-- The key switch settles in a position (R150, R151): nothing if it is the settled one. -/
def settlePosition (p : KeyPosition) (s : State) : State :=
  let old := s.panel.switch.settled
  if old = some p then s else settle s (enterPosition p (leavePosition old s (setPosition p s)))

/-- Samples of the key switch, one after another; each settling acts to its end before the next sample. -/
def sampleSwitch : List KeyReading → State → State
  | [], s => s
  | r :: rest, s =>
    let k := switchSample s.panel.switch r
    let s := s.setPanel { s.panel with switch := k.1 }
    sampleSwitch rest (match k.2 with
      | some p => settlePosition p s
      | none => s)

/-- KEY_SWITCH_SETTLE (R151). -/
def execKeySwitchSettle (samples : List KeyReading) (s : State) : Host.Outcome State Fault Refusal :=
  .next (sampleSwitch samples s)

/-! ### Timed locks -/

/-- The remaining minutes of a station's lock lowered by one (R147). -/
def lowerMinutes (n : Nat) (l : Lock) : Lock :=
  if l.holder = .station n then { l with minutes := l.minutes.map fun m => m - 1 } else l

/-- The minute timer of a station's timed lock expires (R147): at 0 the lock is removed. -/
def lockMinute (n : Nat) (s : State) : State :=
  match lockOf s.locks (.station n) with
  | some l =>
    match l.minutes with
    | some m => if m ≤ 1 then removeLock (.station n) s else s.setLocks (s.locks.map (lowerMinutes n))
    | none => s
  | none => s

/-- LOCK_MINUTE_TIMER_EXPIRY (R147). -/
def execLockMinuteTimerExpiry (station : Nat) (s : State) : Host.Outcome State Fault Refusal :=
  finish (lockMinute station) s

end Sys2Proof.Machine
end

