-- ==== Sys2Proof/Machine/Lamp.lean ====
section
/-! DEFINITION. Lamp Control (01): the commands of the Lamp Controller's family. -/

namespace Sys2Proof.Machine

/-- The lamp enters WARMING: lit-sense wait or retry gap stopped, claim released, warm power set (R7 to R9). -/
def enterWarming (s : State) : State :=
  let s := s.setLamp { s.lamp with litWait := none, retryGap := none }
  let s := releaseClaim s
  s.setLamp { s.lamp with state := .warming, warmUp := some (s.settings.warmUp * 1000), actual := s.lamp.cap }

/-- Lit sense arrives (R7, R8). -/
def litSenseArrives (s : State) : State :=
  let s := s.setPins { s.pins with litSense := true }
  match s.lamp.state with
  | .striking _ => enterWarming s
  | .dark => s
  | .waiting => s
  | .warming => s
  | .lit => s
  | .cooling => s
  | .fault => s

/-- LIT_SENSE (R7). -/
def execLitSense (s : State) : Host.Outcome State Fault Refusal := finish litSenseArrives s

/-- A dropout (R16). -/
def dropsOut (s : State) : State :=
  if s.lamp.dropoutWindow.isSome then latchFault .dropout s
  else
    let s := extinguish .cooling s
    s.setLamp { s.lamp with relight := true, dropoutWindow := some 600000 }

/-- Lit sense is lost (R16); in other states it has no effect. -/
def litSenseLost (s : State) : State :=
  let s := s.setPins { s.pins with litSense := false }
  if burning s.lamp.state then dropsOut s else s

/-- DROPOUT (R16). -/
def execDropout (s : State) : Host.Outcome State Fault Refusal := finish litSenseLost s

/-- The lit-sense wait expires (R7). -/
def litWaitExpired (s : State) : State :=
  if s.lamp.state = .striking .attempt ∧ s.lamp.litWait.isSome = true then failAttempt s else s

/-- LIT_SENSE_WAIT_EXPIRY (R7). -/
def execLitSenseWaitExpiry (s : State) : Host.Outcome State Fault Refusal := finish litWaitExpired s

/-- The retry gap expires (R8): the settling begins the attempt as soon as the tachometer is RUNNING. -/
def retryGapExpired (s : State) : State := s.setLamp { s.lamp with retryGap := none }

/-- RETRY_GAP_EXPIRY (R8). -/
def execRetryGapExpiry (s : State) : Host.Outcome State Fault Refusal := finish retryGapExpired s

/-- The warm-up timer expires: the lamp enters LIT (R9, R10). -/
def warmUpExpired (s : State) : State :=
  if s.lamp.state = .warming ∧ s.lamp.warmUp.isSome = true then s.setLamp { s.lamp with state := .lit, warmUp := none }
  else s

/-- WARM_UP_EXPIRY (R9). -/
def execWarmUpExpiry (s : State) : Host.Outcome State Fault Refusal := finish warmUpExpired s

/-- One percentage point toward the target (R10). -/
def rampToward (target actual : Nat) : Nat :=
  if actual < target then actual + 1 else if target < actual then actual - 1 else actual

/-- A ramp step in LIT (R10). -/
def rampOnce (s : State) : State :=
  if s.lamp.state = .lit then s.setLamp { s.lamp with actual := rampToward s.lamp.target s.lamp.actual } else s

/-- RAMP_STEP (R10). -/
def execRampStep (s : State) : Host.Outcome State Fault Refusal := finish rampOnce s

/-- The cool-down timer expires (R15): DARK if the restrike guard has expired. -/
def coolDownExpired (s : State) : State :=
  if s.lamp.coolDown.isSome then
    let s := s.setLamp { s.lamp with coolDown := none }
    if s.lamp.state = .cooling ∧ s.lamp.restrike.isNone = true then s.setLamp { s.lamp with state := .dark } else s
  else s

/-- COOL_DOWN_EXPIRY (R15). -/
def execCoolDownExpiry (s : State) : Host.Outcome State Fault Refusal := finish coolDownExpired s

/-- The restrike guard ends in COOLING (R15): WAITING on a relight, else COOLING or DARK with relight-pending clear. -/
def guardEndsCooling (s : State) : State :=
  if s.lamp.relight && startConditions s then enterWaiting s
  else
    s.setLamp
      { s.lamp with relight := false, state := if s.lamp.coolDown.isSome then .cooling else .dark }

/-- The restrike guard expires (R15); in FAULT and DARK it only stops (R22). -/
def restrikeExpired (s : State) : State :=
  if s.lamp.restrike.isSome then
    let s := s.setLamp { s.lamp with restrike := none }
    if s.lamp.state = .cooling then guardEndsCooling s else s
  else s

/-- RESTRIKE_GUARD_EXPIRY (R15). -/
def execRestrikeGuardExpiry (s : State) : Host.Outcome State Fault Refusal := finish restrikeExpired s

/-- The dropout window is stopped at its expiry (R16). -/
def dropoutWindowEnds (s : State) : State := s.setLamp { s.lamp with dropoutWindow := none }

/-- DROPOUT_WINDOW_EXPIRY (R16). -/
def execDropoutWindowExpiry (s : State) : Host.Outcome State Fault Refusal := finish dropoutWindowEnds s

/-- A fan stall (R20): FAN is latched; with FAN already latched nothing changes but the timer. -/
def fanStalls (s : State) : State :=
  if s.lamp.fanStall.isSome then
    let s := s.setLamp { s.lamp with fanStall := none }
    if s.lamp.faults.fan then s else latchFault .fan s
  else s

/-- FAN_STALL (R20). -/
def execFanStall (s : State) : Host.Outcome State Fault Refusal := finish fanStalls s

/-- The fan test timer expires (R23): the fan drive follows R2. -/
def fanTestEnds (s : State) : State := s.setLamp { s.lamp with fanTest := none }

/-- FAN_TEST_EXPIRY (R23). -/
def execFanTestExpiry (s : State) : Host.Outcome State Fault Refusal := finish fanTestEnds s

/-- The tachometer becomes RUNNING (R2, R6, R8): the settling tests what waits for it. -/
def tachoRuns (s : State) : State := s.setPins { s.pins with tacho := .running }

/-- TACHOMETER_RUNNING (R6). -/
def execTachometerRunning (s : State) : Host.Outcome State Fault Refusal := finish tachoRuns s

/-- The tachometer becomes STALLED (R2): an attempt in progress fails at once (R7). -/
def tachoStalls (s : State) : State :=
  let s := s.setPins { s.pins with tacho := .stalled }
  if s.lamp.state = .striking .attempt then failAttempt s else s

/-- TACHOMETER_STALLED (R7). -/
def execTachometerStalled (s : State) : Host.Outcome State Fault Refusal := finish tachoStalls s

/-- Supply-low is asserted (R19): SUPPLY in STRIKING, WARMING or LIT. -/
def supplyFails (s : State) : State :=
  let s := s.setPins { s.pins with supplyLow := true }
  if litSide s.lamp.state then latchFault .supply s else s

/-- SUPPLY_LOW_ASSERTED (R19). -/
def execSupplyLowAsserted (s : State) : Host.Outcome State Fault Refusal := finish supplyFails s

/-- Supply-low is released (R4, R6): the settling tests the start and strike conditions. -/
def supplyReturns (s : State) : State := s.setPins { s.pins with supplyLow := false }

/-- SUPPLY_LOW_RELEASED (R4). -/
def execSupplyLowReleased (s : State) : Host.Outcome State Fault Refusal := finish supplyReturns s

/-- The power cap by a sample (R17). -/
def capBy (settings : Settings) (sample cap : Nat) : Nat :=
  if settings.tWarn ≤ sample then 70 else if sample ≤ settings.tWarn - 5 then 100 else cap

/-- A power cap put in force (R17): the warm power follows it (R9); in LIT a reduction acts at once (R10). -/
def putCap (cap : Nat) (l : Lamp) : Lamp :=
  match l.state with
  | .warming => { l with cap := cap, actual := cap }
  | .lit => { l with cap := cap, actual := min l.actual cap }
  | .dark => { l with cap := cap }
  | .waiting => { l with cap := cap }
  | .striking _ => { l with cap := cap }
  | .cooling => { l with cap := cap }
  | .fault => { l with cap := cap }

/-- A temperature sample (R17, R18). -/
def takeSample (reading : Sensor) (s : State) : State :=
  let x := sampleOf reading
  let cap := capBy s.settings x s.lamp.cap
  let l := if cap = s.lamp.cap then s.lamp else putCap cap s.lamp
  let s := s.setLamp { l with temperature := x }
  if s.settings.tShut ≤ x then latchFault .thermal s else s

/-- TEMPERATURE_SAMPLE (R17). -/
def execTemperatureSample (reading : Sensor) (s : State) : Host.Outcome State Fault Refusal :=
  finish (takeSample reading) s

end Sys2Proof.Machine
end

