-- ==== Sys2Proof/Machine/Peers.lean ====
section
/-! DEFINITION. Peer View (04): the Peer Table, FRESH, DUPLICATE, beacon timing, and the commands of the family. -/

namespace Sys2Proof.Machine

/-! ### The own beacon -/

/-- The beacon timer starts for one interval less a spread of 0 to 63 ms, drawn afresh (R79; the free value of log 7). -/
def startBeaconTimer (s : State) : State :=
  s.setListen
    { s.listen with
      beacon := some (s.settings.interval * 1000 - (Config.beaconSpread s.listen.draws).val)
      draws := s.listen.draws + 1 }

/-- The FRESH period begins (R74): its timer of three intervals, the first beacon due, the beacon timer (R79). -/
def beginFresh (s : State) : State :=
  let s := s.setListen { s.listen with fresh := some (3 * s.settings.interval * 1000) }
  let s := s.setLine (beaconDue s.line)
  startBeaconTimer s

/-- The beacon slot after the own beacon was sent complete or dropped (R82): the timer and the 250 ms spacing start,
and a beacon that fell due meanwhile fills the slot, held back (R81). -/
def beaconEnded (s : State) : State :=
  let s := startBeaconTimer s
  let s := s.setListen { s.listen with spacing := some 250 }
  if s.line.dueAgain then s.setLine (beaconDue { s.line with dueAgain := false }) else s

/-- The beacon timer expires (R79). -/
def periodicBeacon (s : State) : State :=
  if s.listen.beacon.isSome then
    (s.setListen { s.listen with beacon := none }).setLine (beaconDue s.line)
  else s

/-- BEACON_TIMER_EXPIRY (R79). -/
def execBeaconTimerExpiry (s : State) : Host.Outcome State Fault Refusal := finish periodicBeacon s

/-- 250 ms have passed: a held beacon is released (R81). -/
def spacingEnds (s : State) : State := s.setListen { s.listen with spacing := none }

/-- BEACON_SPACING_EXPIRY (R81). -/
def execBeaconSpacingExpiry (s : State) : Host.Outcome State Fault Refusal := finish spacingEnds s

/-! ### LOST -/

/-- A station number goes LOST (R71): its entry, its lock (R149), its claim (R89) and its clock role (R159) leave. -/
def lose (n : Nat) (s : State) : State :=
  let s := s.setPeers (s.peers.filter fun p => p.station != n)
  let s := removeLock (.station n) s
  let s := s.setClaims (unclaimed n s.claims)
  if s.clock.source = some n then s.setClock { s.clock with source := none } else s

/-- Several stations go LOST, one after another. -/
def loseAll : List Nat → State → State
  | [], s => s
  | n :: rest, s => loseAll rest (lose n s)

/-! ### Beacons of other stations -/

/-- The entry a beacon of a station leaves (R66 to R68): created HEARD, confirmed, or refreshed. -/
def heardFrom (n : Nat) (info : PeerInfo) (old : Option Peer) : Peer :=
  match old with
  | none => ⟨n, info, .heard, 0, some (2500 * info.interval)⟩
  | some _ => ⟨n, info, .present, 0, some (1500 * info.interval)⟩

/-- The Peer Table after a beacon: an entry keeps its place, a new one is last. -/
def readBeacon (n : Nat) (info : PeerInfo) (ps : List Peer) : List Peer :=
  if ps.any fun p => p.station == n then
    ps.map fun p => if p.station = n then heardFrom n info (some p) else p
  else ps ++ [heardFrom n info none]

/-- A foreign beacon sets DUPLICATE, or restarts its timer (R76); set, it acts as a LAMP lock on the lamp (R14, R77)
and clears the selection (R114). -/
def foreignBeacon (s : State) : State :=
  let t := s.setListen { s.listen with duplicate := some (3 * s.settings.interval * 1000) }
  if isDuplicate s then t else clearSelection (unwanted t)

/-- A received beacon (R65). -/
def takeBeacon (t : Telegram) (s : State) : State :=
  if t.origin = 0 then s
  else if t.origin.toNat = s.straps.number then foreignBeacon s
  else
    match beaconOf t.body with
    | some info => s.setPeers (readBeacon t.origin.toNat info s.peers)
    | none => s

/-! ### Presence timers -/

/-- The entry of a station. -/
def peerOf (n : Nat) (ps : List Peer) : Option Peer := ps.find? fun p => p.station == n

/-- The confirm window of a HEARD entry expires (R67). -/
def confirmExpired (n : Nat) (s : State) : State :=
  match peerOf n s.peers with
  | some p => if p.presence = .heard ∧ p.timer.isSome = true then lose n s else s
  | none => s

/-- CONFIRM_WINDOW_EXPIRY (R67). -/
def execConfirmWindowExpiry (station : Nat) (s : State) : Host.Outcome State Fault Refusal :=
  finish (confirmExpired station) s

/-- The miss limit follows the own LINE_POOR flag (R70). -/
def missLimit (s : State) : Nat := if s.line.poor then 6 else 3

/-- One miss counted: STALE, and the timer runs one interval (R69). -/
def missed (p : Peer) : Peer :=
  { p with misses := p.misses + 1, presence := .stale, timer := some (1000 * p.info.interval) }

/-- The presence timer of a PRESENT or STALE entry expires (R69). -/
def presenceExpired (n : Nat) (s : State) : State :=
  match peerOf n s.peers with
  | some p =>
    if p.presence ≠ .heard ∧ p.timer.isSome = true then
      if missLimit s ≤ p.misses + 1 then lose n s
      else s.setPeers (s.peers.map fun q => if q.station = n then missed q else q)
    else s
  | none => s

/-- PRESENCE_TIMER_EXPIRY (R69). -/
def execPresenceTimerExpiry (station : Nat) (s : State) : Host.Outcome State Fault Refusal :=
  finish (presenceExpired station) s

/-! ### FRESH and DUPLICATE -/

/-- The FRESH timer expires (R75): the Lamp Controller tests the start, the Group Coordinator runs the election if the
own station is available by it (R113). -/
def freshEnds (s : State) : State :=
  if s.listen.fresh.isSome then
    let t := s.setListen { s.listen with fresh := none }
    electIfAvailable s (startTest t)
  else s

/-- FRESH_END (R75). -/
def execFreshEnd (s : State) : Host.Outcome State Fault Refusal := finish freshEnds s

/-- The duplicate timer expires (R78). -/
def duplicateEnds (s : State) : State :=
  if s.listen.duplicate.isSome then
    let t := s.setListen { s.listen with duplicate := none }
    electIfAvailable s (startTest t)
  else s

/-- DUPLICATE_TIMER_EXPIRY (R78). -/
def execDuplicateTimerExpiry (s : State) : Host.Outcome State Fault Refusal := finish duplicateEnds s

/-! ### Line quality -/

/-- LINE_POOR as judged from the minute's count (R179). -/
def judgedPoor (count : Nat) (poor : Bool) : Bool := if 20 ≤ count then true else if count < 5 then false else poor

/-- The stations that go LOST when LINE_POOR clears: PRESENT or STALE at 3 or more misses (R70). -/
def overLimit (ps : List Peer) : List Nat :=
  (ps.filter fun p => p.presence != .heard && decide (3 ≤ p.misses)).map fun p => p.station

/-- The line quality timer expires (R179): LINE_POOR is judged and handed to the Peer Table (R70), the count is 0. -/
def qualityMinute (s : State) : State :=
  if s.line.minute.isSome then
    let poor := judgedPoor s.line.count s.line.poor
    let t := s.setLine { s.line with poor := poor, count := 0, minute := some 60000 }
    if s.line.poor && !poor then loseAll (overLimit s.peers) t else t
  else s

/-- LINE_QUALITY_MINUTE (R179). -/
def execLineQualityMinute (s : State) : Host.Outcome State Fault Refusal := finish qualityMinute s

end Sys2Proof.Machine
end

