-- ==== Sys2Proof/Machine/Reset.lean ====
section
/-! DEFINITION. The warm reset (R183): each block's own rule, in one operation. -/

namespace Sys2Proof.Machine

/-- A telegram being received is discarded, and not counted (R178): its characters up to the next marker are skipped; of
one to which the line was lost, its first character, which carries the marker, too. -/
def discarded : LineReading → LineReading
  | .idle => .idle
  | .receiving got => if got.isEmpty then .passing else .skipping
  | .skipping => .skipping
  | .passing => .passing

/-- The Hall Line Interface's warm reset (R178): queues, reservations, count and flags cleared; an attempt in progress
runs on with no echo and no drop; a telegram being received is discarded. The idle time and the deferral are the
line's and run on. -/
def resetLine (l : HallLine) : HallLine :=
  { l with
    queue := [], reserved := 0, headReserved := false, requests := [], busy := false, count := 0, poor := false
    minute := some 60000, attempt := l.attempt.map fun a => { a with orphan := true }, dueAgain := false
    reading := discarded l.reading }

/-- The Lamp Controller's warm reset (R28): a claim is released into the emptied queue. -/
def resetLamp (s : State) : State :=
  let s := match s.lamp.state with
    | .waiting => let s := releaseClaim s; s.setLamp { s.lamp with state := .dark }
    | .striking _ => extinguish .cooling s
    | .warming => extinguish .cooling s
    | .lit => extinguish .cooling s
    | .dark => s
    | .cooling => s
    | .fault => s
  s.setLamp { s.lamp with relight := false, attempts := 0 }

/-- The Lock Set's warm reset (R153): emptied, and the KEYSWITCH lock added from the kept position. -/
def resetLocks (s : State) : State :=
  s.setLocks (if s.panel.switch.settled = some .locked then [⟨.keySwitch, scopesExam, none⟩] else [])

/-- The Group Coordinator's warm reset (R120): the values of power-on; P is recomputed by the settling. -/
def resetGroup (g : Group) : Group :=
  { Group.powerOn with p := g.p, unclamped := g.unclamped }

/-- The Peer Table's and the listening conditions' warm reset (R73, R78, R79, R81). -/
def resetPeers (s : State) : State :=
  (s.setPeers []).setListen { s.listen with fresh := none, duplicate := none, beacon := none, spacing := none }

/-- A warm reset (R183). The Wear Accountant keeps its state (R29); the WEAR lock is derived anew by the settling (R40).
The key switch keeps its position and its sampling (R150), and so do the keypad keys theirs, by the model's choice (log
47). -/
def warmReset (s : State) : State :=
  let s := s.setLine (resetLine s.line)
  let s := s.setClaims []
  let s := resetLamp s
  let s := resetLocks s
  let s := linkProgress s
  let s := s.setGeometry (resetEngine s.geometry)
  let s := resetPeers s
  let s := s.setGroup (resetGroup s.group)
  let s := beginFresh s
  let s := resetSelector s
  resetSchedule s

end Sys2Proof.Machine
end

