-- ==== Sys2Proof/Machine/Line.lean ====
section
/-! DEFINITION. The Hall Line (10): sending attempts and how they end, the receiver, and the received telegrams on their
way to their owners. -/

namespace Sys2Proof.Machine

/-! ### The telegram chosen -/

/-- The entry is eligible to go: all but a beacon held back by the 250 ms spacing (R171, R81). -/
def eligible (s : State) (e : QueueEntry) : Bool := !(isBeacon e.payload && s.listen.spacing.isSome)

/-- The first eligible entry of a class, with those before it and after it. -/
def splitAt (choose : QueueEntry → Bool) : List QueueEntry → Option (List QueueEntry × QueueEntry × List QueueEntry)
  | [] => none
  | e :: rest =>
    if choose e then some ([], e, rest)
    else
      match splitAt choose rest with
      | some (xs, y, ys) => some (e :: xs, y, ys)
      | none => none

/-- The telegram chosen when an attempt begins (R171): coordination telegrams first, each class in its order. -/
def chosen (s : State) : Option (List QueueEntry × QueueEntry × List QueueEntry) :=
  match splitAt (fun e => isCoordination e.payload && eligible s e) s.line.queue with
  | some r => some r
  | none => splitAt (fun e => !isCoordination e.payload && eligible s e) s.line.queue

/-- The entry has failed an earlier attempt. -/
def hasFailed (e : QueueEntry) : Bool := e.attempts != 0

/-- The idle time of this recessive time is over (R170): whether the telegram chosen at its end had failed an attempt is
judged then, and stands whatever the queue comes to hold (log 44). -/
def idleOver (s : State) : LineIdle :=
  match s.line.idle with
  | .over d => .over d
  | .notYet =>
    .over
      (match chosen s with
      | some (_, e, _) => hasFailed e
      | none => false)

/-! ### The receiver -/

/-- What one signal makes of the receiver (R172): the reading after it, whether a telegram in hand is discarded, and the
telegram it completes. -/
structure Reception where
  reading : LineReading
  discards : Bool
  telegram : Option Telegram
deriving DecidableEq, Repr

/-- A character joins the telegram in hand (R172): the fourth gives the body length L, above 24 the telegram is discarded,
at the (L + 6)th it is complete and its check is compared with the one received. -/
def readByte (got : List Byte) (b : Byte) : Reception :=
  match got ++ [b] with
  | [k, o, d, n] =>
    if 24 < n.toNat then ⟨.skipping, true, none⟩ else ⟨.receiving [k, o, d, n], false, none⟩
  | k :: o :: d :: n :: rest =>
    if rest.length < n.toNat + 2 then ⟨.receiving (got ++ [b]), false, none⟩
    else
      let t : Telegram := ⟨k, o, d, rest.take n.toNat⟩
      if frameOf t = got ++ [b] then ⟨.idle, false, some t⟩ else ⟨.idle, true, none⟩
  | short => ⟨.receiving short, false, none⟩

/-- A telegram is in hand. -/
def inHand : LineReading → Bool
  | .receiving _ => true
  | .idle => false
  | .skipping => false
  | .passing => false

/-- A character with its marker at 1 (R172): it begins a telegram; one in hand of which a character has been read is
discarded. After a loss (R170) it is the winner's first; of a winner's telegram that a warm reset has discarded it is
skipped (R178). -/
def readMarked (r : LineReading) (b : Byte) : Reception :=
  match r with
  | .idle => ⟨.receiving [b], false, none⟩
  | .receiving got => ⟨.receiving [b], !got.isEmpty, none⟩
  | .skipping => ⟨.receiving [b], false, none⟩
  | .passing => ⟨.skipping, false, none⟩

/-- A character with its marker at 0 (R172): skipped while no telegram is begun. -/
def readUnmarked (r : LineReading) (b : Byte) : Reception :=
  match r with
  | .receiving got => if got.isEmpty then ⟨.skipping, false, none⟩ else readByte got b
  | .idle => ⟨.skipping, false, none⟩
  | .skipping => ⟨.skipping, false, none⟩
  | .passing => ⟨.skipping, false, none⟩

/-- One signal at the receiver (R172's table). A character with a dominant stop bit begins no telegram (log 45). -/
def readSignal (r : LineReading) (x : LineSignal) : Reception :=
  match x with
  | .char true b => readMarked r b
  | .char false b => readUnmarked r b
  | .badStop => ⟨.skipping, inHand r, none⟩
  | .lineBreak => ⟨.idle, inHand r, none⟩
  | .lineIdle => ⟨.idle, inHand r, none⟩

/-- The idle time after a signal (R170): the idle line ends it; any other signal sets it and the deferral back. -/
def idleAfter (x : LineSignal) (s : State) : LineIdle :=
  match x with
  | .lineIdle => idleOver s
  | .char _ _ => .notYet
  | .badStop => .notYet
  | .lineBreak => .notYet

/-- What a signal leaves at the line: the reading, a discarded telegram counted (R172, R179), and the idle time (R170). -/
def hear (x : LineSignal) (s : State) : State :=
  let r := readSignal s.line.reading x
  s.setLine
    { s.line with
      reading := r.reading
      count := if r.discards then s.line.count + 1 else s.line.count
      idle := idleAfter x s }

/-! ### Sending -/

/-- The telegram of an entry as it is assembled when an attempt begins (R81, R93, R171, R176). -/
def telegramOf (p : Payload) (s : State) : Telegram :=
  let own := byteOf s.straps.number
  match p with
  | .beacon => ⟨kindBeacon, own, destAll, beaconBody s⟩
  | .claim => ⟨kindClaim, own, destCircuit s.settings.circuit, []⟩
  | .release => ⟨kindRelease, own, destCircuit s.settings.circuit, []⟩
  | .request kind body => ⟨kind, own, destGroup s.settings.group, body⟩
  | .answer n body _ => ⟨kindAnswer, own, destStation n, body⟩

/-- The time in µs after which a recessive line is idle: 12 bit times (R170). -/
def idleTime (s : State) : Nat := 12 * bitTime s.straps.rate

/-- The deferral in µs: 1 + own station number modulo 8 character times, of 11 bits (R170). -/
def deferral (s : State) : Nat := 11 * bitTime s.straps.rate * (1 + s.straps.number % 8)

/-- The deferral applies (R170): the telegram chosen at the end of the idle time had failed an attempt. -/
def defers (l : HallLine) : Bool :=
  match l.idle with
  | .over d => d
  | .notYet => false

/-- For how long in µs the line must have been recessive for an attempt, once its idle time is over (R170). -/
def neededIdle (s : State) : Nat := if defers s.line then idleTime s + deferral s else idleTime s

/-- A sending attempt (R170) on a line recessive for `idle` µs: the receiver reads the line idle; the telegram chosen now
is sent, unless the deferral still runs. -/
def beginSending (idle : Nat) (s : State) : State :=
  if s.start.receiver && s.line.attempt.isNone && decide (idleTime s ≤ idle) then
    let s := hear .lineIdle s
    match chosen s with
    | some (before, e, after) =>
      if neededIdle s ≤ idle then
        s.setLine
          { s.line with
            queue := before ++ { e with attempts := e.attempts + 1, sending := true } :: after
            attempt := some ⟨frameOf (telegramOf e.payload s), false⟩
            idle := .notYet }
      else s
    | none => s
  else s

/-- SENDING_ATTEMPT (R170). -/
def execSendingAttempt (idle : Nat) (s : State) : Host.Outcome State Fault Refusal := finish (beginSending idle) s

/-- The entry being sent. -/
def inSending (q : List QueueEntry) : Option QueueEntry := q.find? fun e => e.sending

/-- The entries not being sent. -/
def notSending (q : List QueueEntry) : List QueueEntry := q.filter fun e => !e.sending

/-- What the owner of a telegram does at its drop (R170's table, R82, R94, R178). -/
def ownerDrop (p : Payload) (s : State) : State :=
  match p with
  | .beacon => beaconEnded s
  | .claim => reserveForHead s
  | .release => reserveForHead s
  | .request _ _ => reserveForHead s
  | .answer _ _ true => warmReset s
  | .answer _ _ false => reserveForHead s

/-- What the owner of a telegram does at the own echo (R170's table, R82, R90, R178). -/
def ownerEcho (p : Payload) (s : State) : State :=
  match p with
  | .beacon => beaconEnded s
  | .claim => reserveForHead (ownClaimEcho s)
  | .release => reserveForHead s
  | .request _ _ => reserveForHead s
  | .answer _ _ true => warmReset s
  | .answer _ _ false => reserveForHead s

/-- The attempt has ended without completion (R170): a CLAIM withdrawn meanwhile leaves the queue (R5), its entry reserved
for a waiting head as at a drop (log 46); at 16 attempts the telegram is dropped; else it stays, and a beacon keeps its
slot for the changes it missed (R81). -/
def attemptFailed (s : State) : State :=
  match inSending s.line.queue with
  | none => s
  | some e =>
    let rest := s.setLine { s.line with queue := notSending s.line.queue }
    if e.withdrawn then reserveForHead rest
    else if 16 ≤ e.attempts then ownerDrop e.payload rest
    else
      s.setLine
        { s.line with
          queue := s.line.queue.map fun x => { x with sending := false }
          dueAgain := if isBeacon e.payload then false else s.line.dueAgain }

/-- The attempt in progress ends: what was driven goes to the trace of the line. -/
def closeAttempt (out : List LineOutput) (reading : LineReading) (s : State) : State :=
  s.setLine { s.line with attempt := none, driven := s.line.driven ++ out, reading := reading, idle := .notYet }

/-- The line is lost to another station, whose telegram is received on (R170): it is in hand, and its characters, the own
ones before the loss among them, are the signals that follow (log 31). -/
def lineLost (s : State) : State :=
  match s.line.attempt with
  | some a =>
    let t := closeAttempt [.lost a.frame] (.receiving []) s
    if a.orphan then t else attemptFailed t
  | none => s

/-- LOSS (R170). -/
def execLoss (s : State) : Host.Outcome State Fault Refusal := finish lineLost s

/-- A line fault (R170): a break is driven and the fault counted; then as after a loss. -/
def lineFaulted (s : State) : State :=
  match s.line.attempt with
  | some a =>
    let t := countTrouble (closeAttempt [.lost a.frame, .lineBreak] .idle s)
    if a.orphan then t else attemptFailed t
  | none => s

/-- LINE_FAULT (R170). -/
def execLineFault (s : State) : Host.Outcome State Fault Refusal := finish lineFaulted s

/-- The own telegram is sent complete (R170): it leaves the queue and its owner is told. After a warm reset the attempt
gives no echo (R178). -/
def sentComplete (s : State) : State :=
  match s.line.attempt with
  | some a =>
    let t := closeAttempt [.sent a.frame] .idle s
    if a.orphan then t
    else
      match inSending t.line.queue with
      | some e => ownerEcho e.payload (t.setLine { t.line with queue := notSending t.line.queue })
      | none => t
  | none => s

/-- OWN_ECHO (R170). -/
def execOwnEcho (s : State) : Host.Outcome State Fault Refusal := finish sentComplete s

/-! ### Received telegrams -/

/-- A request that passes joins the request queue, or is discarded and counted if the queue holds 8 (R174). -/
def takeRequest (t : Telegram) (s : State) : State :=
  if s.line.requests.length < 8 then
    s.setLine
      { s.line with
        requests := s.line.requests ++ [t], busy := busyAfter s.line.busy (s.line.requests.length + 1) }
  else countTrouble s

/-- A telegram that passes goes to the owner of its kind (R173); a received ANSWER is disregarded. -/
def handTo (t : Telegram) (s : State) : State :=
  if t.kind = kindBeacon then takeBeacon t s
  else if t.kind = kindClaim then takeClaim t s
  else if t.kind = kindRelease then takeRelease t s
  else if t.kind = kindTime then takeTime t s
  else if t.kind = kindAnswer then s
  else takeRequest t s

/-- A received telegram (R173): counted and disregarded if its kind is unknown or its origin above 31, whatever its
destination (log 15); disregarded if it does not pass the address filter; else it goes to its owner. -/
def deliver (t : Telegram) (s : State) : State :=
  if !allKinds.contains t.kind || 31 < t.origin.toNat then countTrouble s
  else if passesFilter s t then handTo t s
  else s

/-- One signal at the receiver; a telegram it completes acts to its end (R172, R173). -/
def receiveOne (x : LineSignal) (s : State) : State :=
  match (readSignal s.line.reading x).telegram with
  | some t => settle s (deliver t (hear x s))
  | none => hear x s

/-- Signals at the receiver, one after another. -/
def receiveAll : List LineSignal → State → State
  | [], s => s
  | x :: rest, s => receiveAll rest (receiveOne x s)

/-- Signals on the line, read while the receiver is enabled (R182). Which owner a telegram goes to is told by the
telegram, not by the row (log 34). -/
def receive (signals : List LineSignal) (s : State) : State := if s.start.receiver then receiveAll signals s else s

/-- RECEIVE_ERROR (R172). -/
def execReceiveError (signals : List LineSignal) (s : State) : Host.Outcome State Fault Refusal :=
  .next (receive signals s)

/-- REQUEST_ARRIVAL (R174). -/
def execRequestArrival (signals : List LineSignal) (s : State) : Host.Outcome State Fault Refusal :=
  .next (receive signals s)

/-- ANSWER (R173). -/
def execAnswer (signals : List LineSignal) (s : State) : Host.Outcome State Fault Refusal := .next (receive signals s)

/-- BEACON (R65). -/
def execBeacon (signals : List LineSignal) (s : State) : Host.Outcome State Fault Refusal := .next (receive signals s)

/-- CLAIM (R86). -/
def execClaim (signals : List LineSignal) (s : State) : Host.Outcome State Fault Refusal := .next (receive signals s)

/-- RELEASE (R87). -/
def execRelease (signals : List LineSignal) (s : State) : Host.Outcome State Fault Refusal := .next (receive signals s)

/-- TIME (R156). -/
def execTime (signals : List LineSignal) (s : State) : Host.Outcome State Fault Refusal := .next (receive signals s)

/-- TELEGRAM_OF_UNKNOWN_KIND (R173): disregarded and counted. -/
def execTelegramOfUnknownKind (signals : List LineSignal) (s : State) : Host.Outcome State Fault Refusal :=
  .next (receive signals s)

end Sys2Proof.Machine
end

