-- ==== Sys2Proof/Machine/Requests.lean ====
section
/-! DEFINITION. The dispatcher (R175) and the requests of the request queue: one owner for each kind. -/

namespace Sys2Proof.Machine

/-! ### The dispatcher -/

/-- The dispatcher may take the head of the request queue (R175). -/
def mayTake (s : State) (t : Telegram) : Bool :=
  !restartWaits s.line && (!directed s t || s.line.headReserved || hasFree s.line)

/-- The head taken: BUSY follows the fill (R174), and a directed request has an entry reserved for its ANSWER (R175). -/
def takeHead (t : Telegram) (rest : List Telegram) (s : State) : State :=
  s.setLine
    { s.line with
      requests := rest
      busy := busyAfter s.line.busy rest.length
      reserved := if directed s t && !s.line.headReserved then s.line.reserved + 1 else s.line.reserved
      headReserved := false }

/-- The ANSWER handed to its reserved entry (R176). -/
def giveAnswer (t : Telegram) (r : Result) (s : State) : State :=
  s.setLine
    { s.line with
      reserved := s.line.reserved - 1
      queue := s.line.queue ++
        [newEntry (.answer t.origin.toNat (answerBody t.kind r) (t.kind == kindRestart && r.code == .taken))] }

/-- No ANSWER is to be sent: the reservation is freed, and the waiting head takes it (R175). -/
def freeReservation (s : State) : State :=
  reserveForHead (s.setLine { s.line with reserved := s.line.reserved - 1 })

/-- A request carried out by its owner; `none` where its rule disregards it. A request of origin 0 is disregarded (R176). -/
abbrev Owner := Telegram → State → State × Option Result

/-- The dispatch of the head of the request queue, if it is one the command names (R175, R176). -/
def dispatch (accepts : Telegram → Bool) (owner : Owner) (s : State) : State :=
  match s.line.requests with
  | [] => s
  | t :: rest =>
    if mayTake s t && accepts t then
      let s := takeHead t rest s
      let r := if t.origin = 0 then (s, none) else owner t s
      if directed s t then
        match r.2 with
        | some x => giveAnswer t x r.1
        | none => freeReservation r.1
      else r.1
    else s

/-- The head is a request of a kind. -/
def ofKind (k : Byte) (t : Telegram) : Bool := t.kind == k

/-- The requester of a request is its origin (R141). -/
def requesterOf (t : Telegram) : Requester := .station t.origin.toNat

/-- Nothing changes, with a result code. -/
def refuse (c : ResultCode) (s : State) : State × Option Result := (s, some (.of c))

/-! ### Group Coordinator -/

/-- GROUP_ON (R104). -/
def ownGroupOn : Owner := fun t s =>
  if t.body ≠ [] then refuse .malformed s
  else if passesCheck s.locks (requesterOf t) ⟨true, true, false, false, false⟩ then
    (groupOn .request s, some (.of .taken))
  else refuse .locked s

/-- GROUP_ON (R104). -/
def execGroupOn (s : State) : Host.Outcome State Fault Refusal := finish (dispatch (ofKind kindGroupOn) ownGroupOn) s

/-- GROUP_OFF (R104). -/
def ownGroupOff : Owner := fun t s =>
  if t.body ≠ [] then refuse .malformed s
  else if passesCheck s.locks (requesterOf t) ⟨false, true, false, false, false⟩ then (groupOff s, some (.of .taken))
  else refuse .locked s

/-- GROUP_OFF (R104). -/
def execGroupOff (s : State) : Host.Outcome State Fault Refusal := finish (dispatch (ofKind kindGroupOff) ownGroupOff) s

/-- LEVEL (R108). -/
def ownLevel : Owner := fun t s =>
  match t.body with
  | [v] =>
    if passesCheck s.locks (requesterOf t) ⟨false, true, false, false, false⟩ then
      let x := clamp 10 200 v.toNat
      (s.setGroup { s.group with levelOverride := some x }, some ⟨.taken, x != v.toNat, []⟩)
    else refuse .locked s
  | _ => refuse .malformed s

/-- LEVEL (R108). -/
def execLevel (s : State) : Host.Outcome State Fault Refusal := finish (dispatch (ofKind kindLevel) ownLevel) s

/-! ### Source Selector -/

/-- SHOW (R125). -/
def ownShow : Owner := fun t s =>
  match t.body with
  | [v] =>
    match inputOf v.toNat with
    | some i =>
      if passesCheck s.locks (requesterOf t) ⟨false, false, true, false, false⟩ then
        (push i (.station t.origin.toNat) s, some (.of .taken))
      else refuse .locked s
    | none => refuse .malformed s
  | _ => refuse .malformed s

/-- SHOW (R125). -/
def execShow (s : State) : Host.Outcome State Fault Refusal := finish (dispatch (ofKind kindShow) ownShow) s

/-! ### Geometry Engine -/

/-- CORNERS (R47). -/
def ownCorners : Owner := fun t s =>
  match cornersOf t.body with
  | some c =>
    if passesCheck s.locks (requesterOf t) ⟨false, false, false, true, false⟩ then
      let x := inRange s.straps.format c
      (s.setGeometry (offerEdit x { s.geometry with v := 0 }), some ⟨.taken, x != c, []⟩)
    else refuse .locked s
  | none => refuse .malformed s

/-- CORNERS (R47). -/
def execCorners (s : State) : Host.Outcome State Fault Refusal := finish (dispatch (ofKind kindCorners) ownCorners) s

/-! ### Lock Set -/

/-- The origin is the own number, which sends no LOCK or UNLOCK (R145, R148). -/
def fromOwn (t : Telegram) (s : State) : Bool := t.origin.toNat == s.straps.number

/-- A LOCK that passed R145, with its remaining scopes, minutes as brought into range, and CLAMPED mark (R146). -/
def takeLock (n : Nat) (x : Scopes) (m : Nat) (clamped : Bool) (s : State) : State × Option Result :=
  if s.locks.any fun l => l.holder != .station n && scopesMeet l.scopes x then refuse .locked s
  else (addLock ⟨.station n, x, if m = 0 then none else some m⟩ s, some ⟨.taken, clamped, []⟩)

/-- LOCK (R145, R146): LAMP is removed from the scopes, minutes above 720 become 720. -/
def ownLock : Owner := fun t s =>
  match t.body with
  | [b, m1, m0] =>
    let asked := scopesOf b
    let minutes := beNat [m1, m0]
    let x := { asked with lamp := false }
    if asked = .empty then refuse .malformed s
    else if fromOwn t s then (s, none)
    else if x = .empty then refuse .malformed s
    else takeLock t.origin.toNat x (min minutes 720) (x != asked || 720 < minutes) s
  | _ => refuse .malformed s

/-- LOCK (R146). -/
def execLock (s : State) : Host.Outcome State Fault Refusal := finish (dispatch (ofKind kindLock) ownLock) s

/-- UNLOCK (R148). -/
def ownUnlock : Owner := fun t s =>
  match t.body with
  | [v] =>
    if v.toNat = 0 ∨ 31 < v.toNat then refuse .malformed s
    else if fromOwn t s then (s, none)
    else if v ≠ t.origin then refuse .locked s
    else if (lockOf s.locks (.station v.toNat)).isSome then (removeLock (.station v.toNat) s, some (.of .taken))
    else refuse .noEntry s
  | _ => refuse .malformed s

/-- UNLOCK (R148). -/
def execUnlock (s : State) : Host.Outcome State Fault Refusal := finish (dispatch (ofKind kindUnlock) ownUnlock) s

/-! ### Clock and Schedule -/

/-- SLOT_PUT (R161). -/
def ownSlotPut : Owner := fun t s =>
  match slotOf t.body with
  | some x =>
    let y := slotInRange x
    let r := putSlot s.settings.group y s.schedule.slots
    (setSlots r.1 s, some ⟨r.2, r.2 == .taken && y != x, []⟩)
  | none => refuse .malformed s

/-- SLOT_PUT (R161). -/
def execSlotPut (s : State) : Host.Outcome State Fault Refusal := finish (dispatch (ofKind kindSlotPut) ownSlotPut) s

/-- SLOT_DROP (R162). -/
def ownSlotDrop : Owner := fun t s =>
  match t.body with
  | [id] =>
    if id = 0 then refuse .malformed s
    else if s.schedule.slots.any fun x => x.id == id.toNat then
      (setSlots (withoutSlot id.toNat s.schedule.slots) s, some (.of .taken))
    else refuse .noEntry s
  | _ => refuse .malformed s

/-- SLOT_DROP (R162). -/
def execSlotDrop (s : State) : Host.Outcome State Fault Refusal := finish (dispatch (ofKind kindSlotDrop) ownSlotDrop) s

/-! ### Lamp Controller and Wear Accountant -/

/-- CLEAR_FAULT (R23); one with a body is MALFORMED, or disregarded if undirected (R184). -/
def ownClearFault : Owner := fun t s =>
  if t.body ≠ [] then refuse .malformed s
  else
    let r := tryClear s
    (r.1, some (.of (if r.2 then .taken else .notNow)))

/-- CLEAR_FAULT (R23). -/
def execClearFault (s : State) : Host.Outcome State Fault Refusal :=
  finish (dispatch (ofKind kindClearFault) ownClearFault) s

/-- A taken LAMP_NEW (R42). -/
def newLamp (s : State) : State :=
  let s := s.setWear { s.wear with accumulator := 0, strikes := 0, litTime := 0, valid := true, lifeHold := false }
  requestWrite (removeLock .wear s)

/-- LAMP_NEW (R41): disregarded unless addressed to the own number. -/
def ownLampNew : Owner := fun t s =>
  if !directed s t then (s, none)
  else if t.body ≠ [] then refuse .malformed s
  else if inService s && s.lamp.state == .dark then (newLamp s, some (.of .taken))
  else refuse .notNow s

/-- LAMP_NEW (R41). -/
def execLampNew (s : State) : Host.Outcome State Fault Refusal := finish (dispatch (ofKind kindLampNew) ownLampNew) s

/-! ### RESTART -/

/-- RESTART (R178): undirected, the warm reset at once; directed, TAKEN, and the reset when the ANSWER has left. -/
def ownRestart : Owner := fun t s =>
  if t.body ≠ [] then refuse .malformed s
  else if directed s t then (s, some (.of .taken))
  else (warmReset s, none)

/-- RESTART (R178). -/
def execRestart (s : State) : Host.Outcome State Fault Refusal := finish (dispatch (ofKind kindRestart) ownRestart) s

/-! ### QUERY -/

/-- The head is a QUERY of a selector, or one whose body names none of the four, which any of the four rows takes
(log 13). -/
def querySelects (selector : Byte) (t : Telegram) : Bool :=
  t.kind == kindQuery &&
    match t.body with
    | [] => true
    | b :: _ => b == selector || !([1, 2, 3, 4] : List Byte).contains b

/-- A QUERY not addressed to the own number is disregarded (R177); a body not of the selector's form is MALFORMED. -/
def queryForm (t : Telegram) (s : State) (read : Option Result) : State × Option Result :=
  if !directed s t then (s, none)
  else
    match read with
    | some r => (s, some r)
    | none => refuse .malformed s

/-- A record answered TAKEN. -/
def recordResult (bytes : List Byte) : Result := ⟨.taken, false, bytes⟩

/-- The WEAR record (R43, 12.4). -/
def wearRecord (s : State) : List Byte :=
  beBytes 5 s.wear.accumulator ++ beBytes 3 s.wear.strikes ++ [byteOf (bitValue s.wear.valid 1)] ++
  beBytes 3 (if s.wear.valid then wearHours s.wear else 16777215) ++ beBytes 2 s.settings.life ++
  [byteOf (bitValue s.wear.lifeHold 1),
   byteOf (match s.wear.outcome with | .notWritten => 0 | .ok => 1 | .failed => 2),
   byteOf (bitValue s.wear.write.isSome 1)]

/-- A QUERY of selector WEAR (R43). -/
def ownQueryWear : Owner := fun t s =>
  queryForm t s (match t.body with | [b] => if b = 1 then some (recordResult (wearRecord s)) else none | _ => none)

/-- QUERY_WEAR (R43). -/
def execQueryWear (s : State) : Host.Outcome State Fault Refusal := finish (dispatch (querySelects 1) ownQueryWear) s

/-- The position code of the LOCKS record; no QUERY is dispatched while it is unsettled (R150, log 32). -/
def positionCode : Option KeyPosition → Nat
  | none => 0
  | some .normal => 1
  | some .locked => 2
  | some .service => 3

/-- The four bytes of a station lock in the LOCKS record; none for another holder. -/
def stationLockBytes (l : Lock) : List Byte :=
  match l.holder with
  | .station n => [byteOf n, byteOf (scopesCode l.scopes)] ++ beBytes 2 (l.minutes.getD 0)
  | .keySwitch => []
  | .wear => []
  | .schedule => []

/-- The fixed-holders byte of the LOCKS record (12.4). -/
def fixedHolders (locks : List Lock) : Nat :=
  bitValue (lockOf locks .keySwitch).isSome 1 + bitValue (lockOf locks .wear).isSome 2 +
    match lockOf locks .schedule with
    | none => 0
    | some l => if l.scopes.lamp then 8 else 4

/-- The LOCKS record (R152, 12.4). -/
def locksRecord (s : State) : List Byte :=
  [byteOf (positionCode s.panel.switch.settled), byteOf (scopesCode (lockSummary s.locks)), byteOf (fixedHolders s.locks)] ++
    (s.locks.map stationLockBytes).flatten

/-- A QUERY of selector LOCKS (R152). -/
def ownQueryLocks : Owner := fun t s =>
  queryForm t s (match t.body with | [b] => if b = 2 then some (recordResult (locksRecord s)) else none | _ => none)

/-- QUERY_LOCKS (R152). -/
def execQueryLocks (s : State) : Host.Outcome State Fault Refusal := finish (dispatch (querySelects 2) ownQueryLocks) s

/-- The clock and the number of slots, the last six bytes of the SLOT record (12.4). -/
def clockBytes (s : State) : List Byte :=
  beBytes 2 s.clock.minute ++
    [byteOf s.clock.seconds, byteOf (bitValue s.clock.sure.isSome 1), byteOf (s.clock.source.getD 0),
     byteOf s.schedule.slots.length]

/-- The SLOT answer for an id (R168): the clock alone for id 0, NO_ENTRY for an id not stored. -/
def slotAnswer (id : Nat) (s : State) : Result :=
  if id = 0 then recordResult (byteOf 0 :: clockBytes s)
  else
    match s.schedule.slots.find? fun x => x.id == id with
    | none => .of .noEntry
    | some x =>
      let held := bitValue (s.schedule.heldEffective == some x) 1 + bitValue (s.schedule.heldOn == some x) 2
      recordResult (slotBytes x ++ byteOf held :: clockBytes s)

/-- A QUERY of selector SLOT (R168). -/
def ownQuerySlot : Owner := fun t s =>
  queryForm t s (match t.body with | [b, id] => if b = 3 then some (slotAnswer id.toNat s) else none | _ => none)

/-- QUERY_SLOT (R168). -/
def execQuerySlot (s : State) : Host.Outcome State Fault Refusal := finish (dispatch (querySelects 3) ownQuerySlot) s

/-- The corner set a CORNERS query names: 0 active, 1 pending, 2 in-flight. -/
def namedSet (g : Geometry) : Nat → Option CornerSet
  | 0 => some g.active
  | 1 => g.pendingSet
  | _ => g.inFlight

def engineCode : EngineState → Nat
  | .idle => 0
  | .computing => 1
  | .loading => 2
  | .swapWait => 3

/-- The CORNERS record (R63, 12.4). -/
def cornersRecord (which : Nat) (s : State) : List Byte :=
  let g := s.geometry
  let c := namedSet g which
  [byteOf (s.straps.format.val + 4 * engineCode g.state + bitValue g.failure 16 + bitValue c.isSome 32 + 64 * which),
   byteOf g.activeId] ++ beBytes 2 g.f ++ [byteOf (g.inFlightId.getD 0)] ++ beBytes 2 (g.v % 65536).toNat ++
    cornersBytes (c.getD .plain)

/-- A QUERY of selector CORNERS (R63, R184). -/
def ownQueryCorners : Owner := fun t s =>
  queryForm t s
    (match t.body with
      | [b, w] => if b = 4 ∧ w.toNat ≤ 2 then some (recordResult (cornersRecord w.toNat s)) else none
      | _ => none)

/-- QUERY_CORNERS (R63). -/
def execQueryCorners (s : State) : Host.Outcome State Fault Refusal :=
  finish (dispatch (querySelects 4) ownQueryCorners) s

end Sys2Proof.Machine
end

