-- ==== Sys2Proof/Machine/StartUp.lean ====
section
/-! DEFINITION. Start-up and Personality (11): power-on, the second pass over the zones, and the receiver's enabling. -/

namespace Sys2Proof.Machine

/-! ### Power-on and pass one -/

/-- The straps as pass one reads them (R180): a station number of 0 is taken as 31. -/
def strapsRead (p : PowerUp) : Straps where
  number := if p.station.val = 0 then 31 else p.station.val
  zeroStrap := p.station.val == 0
  format := p.format
  rate := rateOf p.rate
  memory := p.memory

/-- The machine after power-on and pass one (R182, step 1): every block at its power-on values, the straps read. The
serial memory keeps its contents and takes what a service tool wrote (12.5, R38, log 21). -/
def poweredOn (p : PowerUp) (s : State) : State :=
  { State.reset with
    straps := strapsRead p
    pins := ⟨p.litSense, p.supplyLow, .unjudged⟩
    listen := { State.reset.listen with draws := s.listen.draws }
    geometry := { State.reset.geometry with linkDraws := s.geometry.linkDraws }
    serial := Memory.writeCells s.serial p.toolWrites
    pending := s.pending }

/-- POWER_ON (R182). A tool's write outside the 512 bytes of the memory faults (12.6). -/
def execPowerOn (p : PowerUp) (s : State) : Host.Outcome State Fault Refusal :=
  if p.toolWrites.any fun c => Config.memorySize ≤ c.1 then .fault .noSuchAddress
  else .next (settle (poweredOn p s) (poweredOn p s))

/-! ### The zones of the memory (R181, R185, 12.6) -/

/-- The last two bytes of a zone are the sum check of those before them (R181, R35). -/
def checkGood (zone : List Byte) : Bool :=
  2 ≤ zone.length && beNat (zone.drop (zone.length - 2)) == sumCheck (zone.take (zone.length - 2))

/-- The memory answers a read of a zone. A silence on the reads of some zones alone defaults those zones; each other one
is judged on its own data (log 42). -/
def answers (silent : List Nat) (s : State) (zone : Nat) : Bool := s.straps.memory && !silent.contains zone

/-- The eight bytes of zone 0. -/
def zoneZero (s : State) : List Byte := Memory.readBytes s.serial 0 8

/-- Zone 0 is read and its check is good. -/
def zoneZeroGood (silent : List Nat) (s : State) : Bool := answers silent s 0 && checkGood (zoneZero s)

/-- The length of zone `k`, 1 to 6, in zone 0. -/
def zoneLength (s : State) (k : Nat) : Nat := (((zoneZero s).take 6).getD (k - 1) 0).toNat

/-- The address at which zone `k`, 1 to 6, begins: after zone 0 and the zones before it. -/
def zoneStart (s : State) (k : Nat) : Nat :=
  8 + ((List.range (k - 1)).map fun i => zoneLength s (i + 1)).foldl (· + ·) 0

/-- The lengths that 12.6 allows a zone. -/
def lengthAllowed (k n : Nat) : Bool :=
  match k with
  | 1 => n == 8
  | 2 => n == 12
  | 3 => 4 ≤ n && (n - 4) % 2 == 0 && (n - 4) / 2 ≤ 4
  | 4 => n == 14
  | 5 => 2 ≤ n && (n - 2) % 12 == 0 && (n - 2) / 12 ≤ 16
  | 6 => n == 10
  | _ => false

/-- The data of a zone without its check, if the zone is GOOD (R181, R185). -/
def zoneData (silent : List Nat) (s : State) (k : Nat) : Option (List Byte) :=
  let n := zoneLength s k
  let a := zoneStart s k
  let bytes := Memory.readBytes s.serial a n
  if zoneZeroGood silent s && answers silent s k && lengthAllowed k n && decide (a + n ≤ Config.memorySize) &&
      checkGood bytes then some (bytes.take (n - 2))
  else none

/-- The memory is silent on every read of zones 1 to 5. -/
def memorySilent (silent : List Nat) : Bool := [1, 2, 3, 4, 5].all fun k => silent.contains k

/-- The data of zone 6 for the Wear Accountant, absent where the record is judged bad: "where zones 1 to 5 are DEFAULTED
because the memory is absent, silent, or zone 0 is bad, the record is judged bad" (R181). -/
def wearData (silent : List Nat) (s : State) : Option (List Byte) :=
  if memorySilent silent then none else zoneData silent s 6

/-- The place of zone 6, absent where zone 0 is bad or ten bytes there would end beyond the memory (R185, log 19). -/
def wearPlaceOf (silent : List Nat) (s : State) : Option Nat :=
  let a := zoneStart s 6
  if zoneZeroGood silent s && decide (a + 10 ≤ Config.memorySize) then some a else none

/-- Zone 1 taken (R181): each value brought to the nearest end of its range, an unknown interval taken as 2 s. -/
def identityFrom (data : List Byte) (x : Settings) : Settings :=
  match data with
  | [g, c, k, l, i, w] =>
    { x with
      group := clamp 1 15 g.toNat
      circuit := clamp 1 7 c.toNat
      budget := clamp 1 4 k.toNat
      defaultLevel := clamp 10 200 l.toNat
      interval := if isInterval i.toNat then i.toNat else 2
      signalWake := w != 0 }
  | _ => x

/-- Zone 2 taken (R181): T_shut is judged after T_warn. -/
def lampFrom (data : List Byte) (x : Settings) : Settings :=
  match data with
  | [l1, l0, w, c1, c0, r1, r0, p, tw, ts] =>
    let tWarn := clamp 60 110 tw.toNat
    { x with
      life := clamp 500 20000 (beNat [l1, l0])
      warmUp := clamp 30 120 w.toNat
      coolDown := clamp 60 300 (beNat [c1, c0])
      restrike := clamp 60 300 (beNat [r1, r0])
      pMin := clamp 60 70 p.toNat
      tWarn := tWarn
      tShut := clamp (tWarn + 5) 130 ts.toNat }
  | _ => x

/-- An origin byte of the initial list; 0 and 34 to 255 are skipped (R138, 12.6's note). -/
def originOf (n : Nat) : Option Origin :=
  if 1 ≤ n ∧ n ≤ 31 then some (.station n) else if n = 32 then some .keypad else if n = 33 then some .schedule else none

/-- The initial list from its entries, top first; unusable entries and inputs already read are skipped (R138). -/
def initialListFrom : List Byte → List SourceEntry → List SourceEntry
  | i :: o :: rest, acc =>
    match inputOf i.toNat, originOf o.toNat with
    | some input, some origin =>
      initialListFrom rest (if acc.any fun e => e.input == input then acc else acc ++ [⟨input, origin⟩])
    | _, _ => initialListFrom rest acc
  | _, acc => acc

/-- Zone 3 taken (R181, R138). -/
def sourcesFrom (data : List Byte) (x : Settings) : Settings :=
  match data with
  | h :: i :: entries =>
    { x with hold := clamp 2 30 h.toNat, idle := clamp 5 60 i.toNat, initialList := initialListFrom entries [] }
  | _ => x

/-- The slots of zone 5, each judged as a SLOT_PUT from no station, in the order stored (R167). One that excludes the own
group takes away an earlier one of its id (R161, step 3; log 41). -/
def slotsFrom (group : Nat) : Nat → List Byte → List Slot → List Slot
  | 0, _, acc => acc
  | n + 1, data, acc =>
    slotsFrom group n (data.drop 12)
      (match slotOf (data.take 12) with
        | some x => (putSlot group (slotInRange x) acc).1
        | none => acc)

/-- A value read from a zone, or the values as they stand for one that is not GOOD. -/
def fromZone (data : Option (List Byte)) (take : List Byte → Settings → Settings) (x : Settings) : Settings :=
  match data with
  | some d => take d x
  | none => x

/-- The personality from zones 1 to 3 (R181). -/
def settingsRead (silent : List Nat) (s : State) : Settings :=
  fromZone (zoneData silent s 3) sourcesFrom
    (fromZone (zoneData silent s 2) lampFrom (fromZone (zoneData silent s 1) identityFrom Settings.defaults))

/-- The validities of zones 1 to 5 (R181). -/
def zonesRead (silent : List Nat) (s : State) : Zones where
  identity := (zoneData silent s 1).isNone
  lamp := (zoneData silent s 2).isNone
  sources := (zoneData silent s 3).isNone
  corners := (zoneData silent s 4).isNone
  slots := (zoneData silent s 5).isNone

/-- The Wear Accountant's values from zone 6 (R29). -/
def wearRead (data : Option (List Byte)) : Wear :=
  match data with
  | some d => { Wear.powerOn with accumulator := beNat (d.take 5), strikes := beNat (d.drop 5), valid := true }
  | none => Wear.powerOn

/-- The initial corner set of zone 4, brought into range (R61); the plain set for a DEFAULTED zone. -/
def cornersRead (fmt : Fin 4) (data : Option (List Byte)) : CornerSet :=
  match data.bind cornersOf with
  | some c => inRange fmt c
  | none => .plain

/-- The slot table of zone 5 (R167). -/
def slotsRead (group : Nat) (data : Option (List Byte)) : List Slot :=
  match data with
  | some d => slotsFrom group (d.length / 12) d []
  | none => []

/-- The timers of R27 at the full times of the personality just read (log 6). -/
def relengthen (x : Settings) (l : Lamp) : Lamp :=
  { l with
    coolDown := l.coolDown.map fun _ => x.coolDown * 1000
    restrike := l.restrike.map fun _ => x.restrike * 1000 }

/-- Pass two (R181, R182 step 2): the zones are read and handed to their owners. -/
def secondPass (silent : List Nat) (s : State) : State :=
  let x := settingsRead silent s
  let start : StartUp :=
    { s.start with passTwo := true, defaulted := zonesRead silent s, wearPlace := wearPlaceOf silent s }
  let wear := wearRead (wearData silent s)
  let corners := cornersRead s.straps.format (zoneData silent s 4)
  let slots := slotsRead x.group (zoneData silent s 5)
  let s := s.setStart start
  let s := s.setSettings x
  let s := s.setLamp (relengthen x s.lamp)
  let s := s.setWear wear
  let s := s.setGeometry (offerEdit corners s.geometry)
  let s := s.setSchedule { s.schedule with slots := slots }
  startSelector
    (s.setSource
      { s.source with list := x.initialList, topPassed := false, hold := none, switch := none, idle := none })

/-- Pass two is made once after a power-on (R182). -/
def secondPassOnce (silent : List Nat) (s : State) : State := if s.start.passTwo then s else secondPass silent s

/-- SECOND_PASS (R181). -/
def execSecondPass (silent : List Nat) (s : State) : Host.Outcome State Fault Refusal :=
  finish (secondPassOnce silent) s

/-- The receiver is enabled once pass two has ended and the key switch has settled (R182): the line quality minute
starts (R179), the FRESH period begins (R74), and a telegram under way is skipped. -/
def enableReceiver (s : State) : State :=
  if s.start.passTwo && s.panel.switch.settled.isSome && !s.start.receiver then
    let s := s.setStart { s.start with receiver := true }
    let s := s.setLine { s.line with minute := some 60000, reading := .skipping }
    beginFresh s
  else s

/-- RECEIVER_ENABLED (R182). -/
def execReceiverEnabled (s : State) : Host.Outcome State Fault Refusal := finish enableReceiver s

end Sys2Proof.Machine
end

