-- ==== Sys2Proof/Machine/Wear.lean ====
section
/-! DEFINITION. Lamp Wear (02): the commands of the Wear Accountant's family. -/

namespace Sys2Proof.Machine

/-- A whole lit second is reported with the actual power (R11, R30); the 360th requests a write (R36). -/
def reportLitSecond (s : State) : State :=
  if burning s.lamp.state then
    let w := addUse s.lamp.actual s.wear
    if 360 ≤ w.litTime + 1 then requestWrite (s.setWear { w with litTime := 0 })
    else s.setWear { w with litTime := w.litTime + 1 }
  else s

/-- LIT_SECOND (R11). -/
def execLitSecond (s : State) : Host.Outcome State Fault Refusal := finish reportLitSecond s

/-- A write has ended (R37, R38): IDLE, and write again is served. -/
def writeEnds (o : WriteOutcome) (s : State) : State :=
  let t := s.setWear { s.wear with write := none, writeAgain := false, outcome := o }
  if s.wear.writeAgain then startWrite t else t

/-- An attempt has failed (R37): the second starts with the values of the moment, or the write is FAILED. -/
def writeFails (w : RecordWrite) (s : State) : State :=
  if w.attempt = 1 then
    s.setWear { s.wear with write := some ⟨s.wear.accumulator, s.wear.strikes, 2⟩ }
  else writeEnds .failed s

/-- Zone 6 now holds these ten bytes (log 20). -/
def zoneHolds (bytes : List Byte) (s : State) : State :=
  match s.start.wearPlace with
  | some a => s.setSerial (Memory.writeBytes s.serial a (bytes.take 10))
  | none => s

/-- A write ends with its read-back (R37). -/
def readBackTaken (readBack : List Byte) (s : State) : State :=
  match s.wear.write with
  | some w =>
    let s := zoneHolds readBack s
    if readBack = recordBytes w.accumulator w.strikes then writeEnds .ok s else writeFails w s
  | none => s

/-- WRITE_COMPLETION (R37). -/
def execWriteCompletion (readBack : List Byte) (s : State) : Host.Outcome State Fault Refusal :=
  finish (readBackTaken readBack) s

/-- The memory does not answer within 100 ms (R37). -/
def writeTimesOut (held : List Byte) (s : State) : State :=
  match s.wear.write with
  | some w => writeFails w (zoneHolds held s)
  | none => s

/-- WRITE_TIMEOUT (R37). -/
def execWriteTimeout (held : List Byte) (s : State) : Host.Outcome State Fault Refusal := finish (writeTimesOut held) s

end Sys2Proof.Machine
end

