-- ==== Sys2Proof/Machine/Dispatch.lean ====
section
/-! DEFINITION. One arm for each constructor of `Instr`, each one direct call of its meaning. -/

namespace Sys2Proof.Machine

/-- The effect of a command on everything but the queue. -/
def exec (i : Instr) (s : State) : Host.Outcome State Fault Refusal :=
  match i with
  | .powerOn p => Sys2Proof.Machine.execPowerOn p s
  | .secondPass silent => Sys2Proof.Machine.execSecondPass silent s
  | .receiverEnabled => Sys2Proof.Machine.execReceiverEnabled s
  | .sendingAttempt idle => Sys2Proof.Machine.execSendingAttempt idle s
  | .loss => Sys2Proof.Machine.execLoss s
  | .lineFault => Sys2Proof.Machine.execLineFault s
  | .ownEcho => Sys2Proof.Machine.execOwnEcho s
  | .receiveError signals => Sys2Proof.Machine.execReceiveError signals s
  | .requestArrival signals => Sys2Proof.Machine.execRequestArrival signals s
  | .answer signals => Sys2Proof.Machine.execAnswer signals s
  | .groupOn => Sys2Proof.Machine.execGroupOn s
  | .groupOff => Sys2Proof.Machine.execGroupOff s
  | .level => Sys2Proof.Machine.execLevel s
  | .showInput => Sys2Proof.Machine.execShow s
  | .corners => Sys2Proof.Machine.execCorners s
  | .lock => Sys2Proof.Machine.execLock s
  | .unlock => Sys2Proof.Machine.execUnlock s
  | .slotPut => Sys2Proof.Machine.execSlotPut s
  | .slotDrop => Sys2Proof.Machine.execSlotDrop s
  | .clearFault => Sys2Proof.Machine.execClearFault s
  | .lampNew => Sys2Proof.Machine.execLampNew s
  | .restart => Sys2Proof.Machine.execRestart s
  | .queryWear => Sys2Proof.Machine.execQueryWear s
  | .queryLocks => Sys2Proof.Machine.execQueryLocks s
  | .querySlot => Sys2Proof.Machine.execQuerySlot s
  | .queryCorners => Sys2Proof.Machine.execQueryCorners s
  | .beacon signals => Sys2Proof.Machine.execBeacon signals s
  | .confirmWindowExpiry station => Sys2Proof.Machine.execConfirmWindowExpiry station s
  | .presenceTimerExpiry station => Sys2Proof.Machine.execPresenceTimerExpiry station s
  | .freshEnd => Sys2Proof.Machine.execFreshEnd s
  | .duplicateTimerExpiry => Sys2Proof.Machine.execDuplicateTimerExpiry s
  | .beaconTimerExpiry => Sys2Proof.Machine.execBeaconTimerExpiry s
  | .beaconSpacingExpiry => Sys2Proof.Machine.execBeaconSpacingExpiry s
  | .lineQualityMinute => Sys2Proof.Machine.execLineQualityMinute s
  | .claim signals => Sys2Proof.Machine.execClaim signals s
  | .release signals => Sys2Proof.Machine.execRelease signals s
  | .ageTimerExpiry station => Sys2Proof.Machine.execAgeTimerExpiry station s
  | .claimRenewal => Sys2Proof.Machine.execClaimRenewal s
  | .litSense => Sys2Proof.Machine.execLitSense s
  | .dropout => Sys2Proof.Machine.execDropout s
  | .litSenseWaitExpiry => Sys2Proof.Machine.execLitSenseWaitExpiry s
  | .retryGapExpiry => Sys2Proof.Machine.execRetryGapExpiry s
  | .warmUpExpiry => Sys2Proof.Machine.execWarmUpExpiry s
  | .rampStep => Sys2Proof.Machine.execRampStep s
  | .litSecond => Sys2Proof.Machine.execLitSecond s
  | .coolDownExpiry => Sys2Proof.Machine.execCoolDownExpiry s
  | .restrikeGuardExpiry => Sys2Proof.Machine.execRestrikeGuardExpiry s
  | .dropoutWindowExpiry => Sys2Proof.Machine.execDropoutWindowExpiry s
  | .fanStall => Sys2Proof.Machine.execFanStall s
  | .fanTestExpiry => Sys2Proof.Machine.execFanTestExpiry s
  | .tachometerRunning => Sys2Proof.Machine.execTachometerRunning s
  | .tachometerStalled => Sys2Proof.Machine.execTachometerStalled s
  | .supplyLowAsserted => Sys2Proof.Machine.execSupplyLowAsserted s
  | .supplyLowReleased => Sys2Proof.Machine.execSupplyLowReleased s
  | .temperatureSample reading => Sys2Proof.Machine.execTemperatureSample reading s
  | .writeCompletion readBack => Sys2Proof.Machine.execWriteCompletion readBack s
  | .writeTimeout held => Sys2Proof.Machine.execWriteTimeout held s
  | .computationEnd => Sys2Proof.Machine.execComputationEnd s
  | .loadSent => Sys2Proof.Machine.execLoadSent s
  | .loadAcknowledgement identity attempt => Sys2Proof.Machine.execLoadAcknowledgement identity attempt s
  | .loadRefusal identity attempt => Sys2Proof.Machine.execLoadRefusal identity attempt s
  | .loadWaitExpiry => Sys2Proof.Machine.execLoadWaitExpiry s
  | .swapReport identity => Sys2Proof.Machine.execSwapReport identity s
  | .swapRequestRepeat => Sys2Proof.Machine.execSwapRequestRepeat s
  | .swapWaitTimeout => Sys2Proof.Machine.execSwapWaitTimeout s
  | .presenceSample lines => Sys2Proof.Machine.execPresenceSample lines s
  | .lockReport input => Sys2Proof.Machine.execLockReport input s
  | .switchTimerExpiry => Sys2Proof.Machine.execSwitchTimerExpiry s
  | .holdTimerExpiry => Sys2Proof.Machine.execHoldTimerExpiry s
  | .idleTimerExpiry => Sys2Proof.Machine.execIdleTimerExpiry s
  | .keypadPower samples => Sys2Proof.Machine.execKeypadPower samples s
  | .keypadSource samples => Sys2Proof.Machine.execKeypadSource samples s
  | .keypadVPlus samples => Sys2Proof.Machine.execKeypadVPlus samples s
  | .keypadVMinus samples => Sys2Proof.Machine.execKeypadVMinus samples s
  | .keypadClear samples => Sys2Proof.Machine.execKeypadClear samples s
  | .keySwitchSettle samples => Sys2Proof.Machine.execKeySwitchSettle samples s
  | .lockMinuteTimerExpiry station => Sys2Proof.Machine.execLockMinuteTimerExpiry station s
  | .clockSecond => Sys2Proof.Machine.execClockSecond s
  | .minuteChange => Sys2Proof.Machine.execMinuteChange s
  | .time signals => Sys2Proof.Machine.execTime signals s
  | .sureTimerExpiry => Sys2Proof.Machine.execSureTimerExpiry s
  | .slewTimerExpiry => Sys2Proof.Machine.execSlewTimerExpiry s
  | .shortfallTimerExpiry => Sys2Proof.Machine.execShortfallTimerExpiry s
  | .telegramOfUnknownKind signals => Sys2Proof.Machine.execTelegramOfUnknownKind signals s

end Sys2Proof.Machine
end

