-- ==== Sys2Proof/Safety.lean ====
section
/-! DEFINITION. What holds of the machine in every state a run reaches: one predicate for each block, and all together. -/

namespace Sys2Proof.Machine

/-- Nothing is left to settle: each condition that acts "as soon as" it holds has acted (log 9). -/
abbrev Settled (s : State) : Prop :=
  lifeJudge s = s ∧ startTest s = s ∧ strikeTest s = s ∧ judgeGroup s = s ∧ retarget s = s ∧ fanStallJudge s = s ∧
    idleJudge s = s

/-- The lamp claims: WAITING, or STRIKING in either phase (R5). -/
def claiming (l : LampState) : Bool :=
  match l with
  | .waiting => true
  | .striking _ => true
  | .dark => false
  | .warming => false
  | .lit => false
  | .cooling => false
  | .fault => false

/-- The lamp is in STRIKING, in either phase. -/
def inStrike (l : LampState) : Bool := l == .striking .attempt || l == .striking .gap

/-- The start goes in its order (R182): the receiver only after pass two; before it no lamp committed, the clock UNSURE
and no slot held; and the place of zone 6 within the memory (R185). -/
def StartSafe (s : State) : Prop :=
  (s.start.receiver = true → s.start.passTwo = true) ∧
  (s.start.passTwo = false → committedState s.lamp.state = false ∧ s.clock.sure = none ∧
    s.schedule.heldEffective = none ∧ s.schedule.heldOn = none) ∧
  (∀ a ∈ s.start.wearPlace, a + 10 ≤ Config.memorySize) ∧
  1 ≤ s.straps.number ∧ s.straps.number ≤ 31

/-- The personality lies within its ranges (R181). -/
def SettingsSafe (x : Settings) : Prop :=
  1 ≤ x.group ∧ x.group ≤ 15 ∧ 1 ≤ x.circuit ∧ x.circuit ≤ 7 ∧ 1 ≤ x.budget ∧ x.budget ≤ 4 ∧
  10 ≤ x.defaultLevel ∧ x.defaultLevel ≤ 200 ∧ isInterval x.interval = true ∧
  500 ≤ x.life ∧ x.life ≤ 20000 ∧ 30 ≤ x.warmUp ∧ x.warmUp ≤ 120 ∧ 60 ≤ x.coolDown ∧ x.coolDown ≤ 300 ∧
  60 ≤ x.restrike ∧ x.restrike ≤ 300 ∧ 60 ≤ x.pMin ∧ x.pMin ≤ 70 ∧ 60 ≤ x.tWarn ∧ x.tWarn ≤ 110 ∧
  x.tWarn + 5 ≤ x.tShut ∧ x.tShut ≤ 130 ∧ 2 ≤ x.hold ∧ x.hold ≤ 30 ∧ 5 ≤ x.idle ∧ x.idle ≤ 60 ∧
  x.initialList.length ≤ 4 ∧ (x.initialList.map fun e => e.input).Nodup

/-- "While the Lock Set holds a lock covering LAMP, the lamp is in none of WAITING, STRIKING, WARMING or LIT" (R14). -/
def LampHeldOut (s : State) : Prop := lampLocked s.locks = true → committedState s.lamp.state = false

/-- The ballast lines by lamp state (R1's table): the strike line, the power setting, and the actual power, which in
WARMING and LIT equals the setting. -/
def BallastLines (l : Lamp) : Prop :=
  match l.state with
  | .striking .attempt => strikeLine l = true ∧ ballastSetting l = 100 ∧ l.actual = 0
  | .striking .gap => strikeLine l = false ∧ ballastSetting l = 0 ∧ l.actual = 0
  | .warming => strikeLine l = false ∧ ballastSetting l = l.actual
  | .lit => strikeLine l = false ∧ ballastSetting l = l.actual
  | .dark => strikeLine l = false ∧ ballastSetting l = 0 ∧ l.actual = 0
  | .waiting => strikeLine l = false ∧ ballastSetting l = 0 ∧ l.actual = 0
  | .cooling => strikeLine l = false ∧ ballastSetting l = 0 ∧ l.actual = 0
  | .fault => strikeLine l = false ∧ ballastSetting l = 0 ∧ l.actual = 0

/-- The ballast power by lamp state (R1, R9, R10), with the cap, held P and attempt count in their ranges, and no
cool-down running from WAITING to the end of STRIKING (R4). -/
def PowerSafe (s : State) : Prop :=
  (s.lamp.cap = 100 ∨ s.lamp.cap = 70) ∧ 60 ≤ s.lamp.heldP ∧ s.lamp.heldP ≤ 100 ∧ BallastLines s.lamp ∧
  match s.lamp.state with
  | .warming => s.lamp.actual = s.lamp.cap
  | .lit =>
    s.settings.pMin ≤ s.lamp.actual ∧ s.lamp.actual ≤ s.lamp.cap ∧
      s.lamp.target = clamp s.settings.pMin s.lamp.cap s.lamp.heldP
  | .waiting => s.lamp.attempts = 0 ∧ s.lamp.coolDown = none
  | .striking .attempt => 1 ≤ s.lamp.attempts ∧ s.lamp.attempts ≤ 3 ∧ s.lamp.coolDown = none
  | .striking .gap => 1 ≤ s.lamp.attempts ∧ s.lamp.attempts ≤ 2 ∧ s.lamp.coolDown = none
  | .dark => True
  | .cooling => True
  | .fault => anyFault s.lamp.faults = true

/-- The claims: STRIKING only with permission (R6, R92), an own claim only in WAITING or STRIKING (R90, R91), no claim
while FRESH, DUPLICATE or in SERVICE (R5, R97), no claimant twice (R84), the age timer absent in the own entry alone. -/
def ClaimsSafe (s : State) : Prop :=
  (inStrike s.lamp.state = true → permission s = true) ∧
  (ownClaimed s = true → claiming s.lamp.state = true) ∧
  (claiming s.lamp.state = true → isFresh s = false ∧ isDuplicate s = false ∧ inService s = false) ∧
  (s.claims.map fun c => c.claimant).Nodup ∧
  (∀ c ∈ s.claims, 1 ≤ c.claimant ∧ c.claimant ≤ 31 ∧ (c.age = none ↔ c.claimant = s.straps.number))

/-- A lock has the form its holder gives it (R140, R144, R145). -/
def lockFormed (l : Lock) : Bool :=
  match l.holder with
  | .keySwitch => l.scopes == scopesExam && l.minutes.isNone
  | .wear => l.scopes == scopesLamp && l.minutes.isNone
  | .schedule => (l.scopes == scopesExam || l.scopes == scopesClosed) && l.minutes.isNone
  | .station n =>
    decide (1 ≤ n) && decide (n ≤ 31) && l.scopes != .empty && !l.scopes.lamp &&
      (match l.minutes with
        | none => true
        | some m => decide (1 ≤ m) && decide (m ≤ 720))

/-- Two locks held by different stations cover no common scope (R140). -/
def stationsApart (l m : Lock) : Bool :=
  match l.holder, m.holder with
  | .station a, .station b => a == b || !scopesMeet l.scopes m.scopes
  | _, _ => true

/-- The Lock Set (R140, R144, R151): one lock a holder, each formed, station locks apart, and the KEYSWITCH lock exactly
while the key switch is settled in LOCKED. -/
def LocksSafe (s : State) : Prop :=
  (s.locks.map fun l => l.holder).Nodup ∧ (∀ l ∈ s.locks, lockFormed l = true) ∧
  (∀ l ∈ s.locks, ∀ m ∈ s.locks, stationsApart l m = true) ∧
  ((lockOf s.locks .keySwitch).isSome = true ↔ s.panel.switch.settled = some .locked)

/-- The Source Selector (R121, R124, R131, the table of 7.4). -/
def SourcesSafe (x : Source) : Prop :=
  x.list.length ≤ 4 ∧ (x.list.map fun e => e.input).Nodup ∧
  (match x.shown with
    | none => x.list = []
    | some i => ∃ e ∈ x.list, e.input = i) ∧
  match x.state with
  | .showing => x.hold = none ∧ x.switch = none ∧ x.shown.isSome = true
  | .holding => x.hold.isSome = true ∧ x.switch = none
  | .noSignal => x.hold = none ∧ x.switch = none
  | .switching => x.hold = none ∧ x.switch.isSome = true ∧ x.shown.isSome = true

/-- A slot as it is stored (R160). -/
def slotFormed (group : Nat) (x : Slot) : Bool :=
  decide (1 ≤ x.id) && decide (x.id ≤ 255) && x.weekdays != 0 && decide (x.start < x.stop) && decide (x.stop ≤ 1440) &&
  x.groups.getLsbD group && decide (x.lead ≤ 30) &&
  (match x.level with
    | none => true
    | some v => decide (10 ≤ v) && decide (v ≤ 200)) &&
  (match x.kind with
    | .closed => x.source.isNone && x.level.isNone && x.lead == 0
    | .lecture => true
    | .exam => true)

/-- The slot table (R160): at most 64 slots of the own group, in order, no id twice. The held copies (R164) are slots of
the own group, and no ON slot is held with a CLOSED effective slot (R163). -/
def SlotsSafe (s : State) : Prop :=
  s.schedule.slots.length ≤ 64 ∧ (s.schedule.slots.map fun x => x.id).Nodup ∧
  (∀ x ∈ s.schedule.slots, slotFormed s.settings.group x = true) ∧
  (s.schedule.slots.Pairwise fun x y => slotBefore x y = true) ∧
  (∀ x ∈ s.schedule.heldEffective, slotFormed s.settings.group x = true) ∧
  (∀ x ∈ s.schedule.heldOn, slotFormed s.settings.group x = true) ∧
  (isClosed s.schedule.heldEffective = true → s.schedule.heldOn = none)

/-- The clock (R154, R155, R158). -/
def ClockSafe (s : State) : Prop :=
  s.clock.minute < 10080 ∧ s.clock.seconds < 60 ∧ -120 ≤ s.clock.slewLeft ∧ s.clock.slewLeft ≤ 120 ∧
  (s.clock.slew.isSome = true ↔ s.clock.slewLeft ≠ 0) ∧ (s.clock.sure = none → s.clock.slewLeft = 0) ∧
  ∀ n ∈ s.clock.source, 1 ≤ n ∧ n ≤ 31 ∧ n ≠ s.straps.number

/-- The request queue and BUSY (R174), and what is reserved for its head (R175). -/
def RequestsSafe (s : State) : Prop :=
  s.line.requests.length ≤ 8 ∧ (6 ≤ s.line.requests.length → s.line.busy = true) ∧
  (s.line.requests.length ≤ 2 → s.line.busy = false) ∧
  (∀ t ∈ s.line.requests, requestKinds.contains t.kind = true ∧ t.origin.toNat ≤ 31) ∧
  s.line.reserved = (if s.line.headReserved = true then 1 else 0) ∧
  (s.line.headReserved = true → (s.line.requests.head?.any fun t => directed s t) = true)

/-- The send queue (R170, R171): one beacon at most, seven other entries with the reservations, one telegram being sent
exactly while an attempt that is not orphaned runs, and no telegram past its 16th attempt. -/
def SendQueueSafe (l : HallLine) : Prop :=
  (l.queue.filter fun e => isBeacon e.payload).length ≤ 1 ∧ othersFilled l.queue + l.reserved ≤ 7 ∧
  (l.queue.filter fun e => e.sending).length ≤ 1 ∧
  ((l.queue.any fun e => e.sending) = true ↔ (l.attempt.any fun a => !a.orphan) = true) ∧
  ∀ e ∈ l.queue, e.attempts ≤ 16 ∧ (e.sending = false → e.attempts ≤ 15)

/-- An entry of the Peer Table under a miss limit (R64 to R70). -/
def peerFormed (own limit : Nat) (p : Peer) : Bool :=
  decide (1 ≤ p.station) && decide (p.station ≤ 31) && p.station != own && p.timer.isSome && decide (p.misses < limit) &&
  isInterval p.info.interval && decide (256 ≤ p.info.f) && decide (p.info.f ≤ 1024) &&
  (match p.presence with
    | .heard => p.misses == 0
    | .present => p.misses == 0
    | .stale => decide (1 ≤ p.misses))

/-- The Peer Table (R64): no own number, no station twice, misses below the limit (R69, R70). -/
def PeersSafe (s : State) : Prop :=
  (s.peers.map fun p => p.station).Nodup ∧ ∀ p ∈ s.peers, peerFormed s.straps.number (missLimit s) p = true

/-- The Geometry Engine (R45, R54, R55, R58): every set in range, the published F that of the active set, the in-flight
parts present as the engine state says, and the wait for the acknowledgement only once every record has gone. -/
def GeometrySafe (fmt : Fin 4) (g : Geometry) : Prop :=
  inRange fmt g.active = g.active ∧ (∀ c ∈ g.inFlight, inRange fmt c = c) ∧ (∀ c ∈ g.pendingSet, inRange fmt c = c) ∧
  g.f = lightFraction fmt g.active ∧ g.activeId ≤ 255 ∧ g.lastId ≤ 255 ∧
  (∀ n ∈ g.inFlightId, 1 ≤ n ∧ n ≤ 255 ∧ n ≠ g.activeId) ∧
  (-(panelWidth fmt / 4 : Nat) : Int) ≤ g.v ∧ g.v ≤ (panelWidth fmt / 4 : Nat) ∧ g.v % 8 = 0 ∧
  (g.attempt = 1 ∨ g.attempt = 2) ∧
  match g.state with
  | .idle => g.inFlight = none ∧ g.inFlightId = none ∧ g.inFlightF = none ∧ g.inFlightTable = none
  | .computing =>
    g.inFlight.isSome = true ∧ g.inFlightId.isSome = true ∧ g.inFlightF = none ∧ g.inFlightTable = none
  | .loading =>
    g.inFlight.isSome = true ∧ g.inFlightId.isSome = true ∧ g.inFlightF = g.inFlight.map (lightFraction fmt) ∧
      g.inFlightTable = g.inFlight.map (warpTable fmt) ∧ g.linesSent ≤ panelHeight fmt ∧
      (g.loadWait.isSome = true → g.linesSent = panelHeight fmt)
  | .swapWait =>
    g.inFlight.isSome = true ∧ g.inFlightId.isSome = true ∧ g.inFlightF = g.inFlight.map (lightFraction fmt) ∧
      g.inFlightTable = g.inFlight.map (warpTable fmt)

/-- The group's values lie within their ranges (R101). -/
def GroupSafe (g : Group) : Prop :=
  (∀ v ∈ g.levelOverride, 10 ≤ v ∧ v ≤ 200) ∧ (∀ v ∈ g.slotLevel, 10 ≤ v ∧ v ≤ 200) ∧
  60 ≤ g.p ∧ g.p ≤ 100 ∧ g.growth ≤ 30 ∧
  (g.mode = none → g.selection = .unselected)

/-- Everything together: what a run keeps. -/
def Safe (s : State) : Prop :=
  StartSafe s ∧ SettingsSafe s.settings ∧ Settled s ∧ LampHeldOut s ∧ PowerSafe s ∧ ClaimsSafe s ∧ LocksSafe s ∧
  SourcesSafe s.source ∧ SlotsSafe s ∧ ClockSafe s ∧ RequestsSafe s ∧ SendQueueSafe s.line ∧ PeersSafe s ∧
  GeometrySafe s.straps.format s.geometry ∧ GroupSafe s.group ∧ Memory.wf s.serial = true

/-! ### Views used by the statements -/

/-- What the shared operations of the lamp, locks and group and the settling leave as it is: everything but the lamp,
wear, claims, group, locks, the idle timer and the send queue. The reservations are left too: that a release of the claim
reserves nothing is the model's choice (log 46). -/
def outside (s : State) : State :=
  { s with
    lamp := .powerOn, wear := .powerOn, claims := [], group := .powerOn, locks := []
    source := { s.source with idle := none }, line := { s.line with queue := [], dueAgain := false } }

/-- `u` has everything the settling reads as `s` has it. -/
def Quiet (s u : State) : Prop :=
  u.lamp = s.lamp ∧ u.wear = s.wear ∧ u.claims = s.claims ∧ u.group = s.group ∧ u.locks = s.locks ∧
  u.peers = s.peers ∧ u.settings = s.settings ∧ u.straps = s.straps ∧ u.pins.tacho = s.pins.tacho ∧
  u.pins.supplyLow = s.pins.supplyLow ∧ u.geometry.f = s.geometry.f ∧ isFresh u = isFresh s ∧
  isDuplicate u = isDuplicate s ∧ inService u = inService s ∧ u.source.shown = s.source.shown ∧
  u.source.inputs = s.source.inputs ∧ u.source.idle = s.source.idle

/-- The receiver has read the first `k` characters of a telegram and not its last one; with none read it may also have no
telegram in hand (R172). -/
abbrev ReadSoFar (t : Telegram) (k : Nat) (r : LineReading) : Prop :=
  k < t.body.length + 6 ∧ (r = .receiving ((frameOf t).take k) ∨ k = 0 ∧ (r = .idle ∨ r = .skipping))

/-- The rest of a telegram's characters, `signalsFrom k t`, arrives: the receiver is enabled (R182), has read the first
`k` of them, and the body is of at most 24 bytes (R169). -/
abbrev Arrives (t : Telegram) (k : Nat) (s : State) : Prop :=
  s.start.receiver = true ∧ t.body.length ≤ 24 ∧ ReadSoFar t k s.line.reading

/-- A telegram of a kind arrives and reaches its owner: the origin is a station's, the address filter passes (R173). -/
abbrev Received (kind : Byte) (t : Telegram) (k : Nat) (s : State) : Prop :=
  Arrives t k s ∧ t.kind = kind ∧ t.origin.toNat ≤ 31 ∧ passesFilter s t = true

/-- A telegram that R173 disregards and counts: of unknown kind, or of an origin above 31. -/
def isUnknown (t : Telegram) : Bool := !allKinds.contains t.kind || decide (31 < t.origin.toNat)

/-- The state once a telegram is in: the receiver waits for the next (R172), and the idle time begins again (R170). -/
def telegramIn (s : State) : State := s.setLine { s.line with reading := .idle, idle := .notYet }

/-- The line up to which a table's records can have gone when its sending is looked at: while a table is being sent, any
from the one reached, the first being under way at least (the free value of log 26); else the one reached (R55). -/
def RecordsGone (g : Geometry) (n : Nat) : Prop :=
  if sendingTable g = true then
    g.linesSent ≤ n ∧ n ≤ max g.linesSent (tableLength g) ∧ (1 ≤ tableLength g → 1 ≤ n)
  else n = g.linesSent

/-- A select command has been handed over between `s` and `u` (R131): it stands on the link after the records that had
gone by then, and the engine's sending is undisturbed. -/
def SelectSent (input : Option Input) (origin : Option Origin) (s u : State) : Prop :=
  ∃ n, RecordsGone s.geometry n ∧
    u.geometry = { s.geometry with linesSent := n, linkDraws := u.geometry.linkDraws } ∧
    u.scalerLink =
      s.scalerLink ++ recordsBetween s.geometry s.geometry.linesSent n ++ [.select input origin]

/-- The selector has switched to an entry's input (R131): shown at once, the hold stopped, 1.5 s on the switch timer, the
select command handed over; list, top passed and presence as they were. -/
def SwitchTo (e : SourceEntry) (s u : State) : Prop :=
  u.source = { s.source with
    hold := none, shown := some e.input, switch := some 1500, state := .switching, idle := u.source.idle } ∧
  SelectSent (some e.input) (some e.origin) s u

/-- A switch to an entry's input has begun (R131), and lamp, group, locks, wear and claims are as they were. -/
def SwitchBegun (e : SourceEntry) (s u : State) : Prop :=
  SwitchTo e s u ∧
  u.lamp = s.lamp ∧ u.group = s.group ∧ u.locks = s.locks ∧ u.wear = s.wear ∧ u.claims = s.claims

/-- The selector stays as it is in a state of R130, on the shown input; the idle timer may start or stop (R136). -/
def StaysIn (x : SelectorState) (hold : Timer) (s u : State) : Prop :=
  u.source = { s.source with state := x, hold := hold, switch := none, idle := u.source.idle } ∧
  u.scalerLink = s.scalerLink ∧ u.geometry = s.geometry

/-- The entry of the wanted input (R129): the top one while top passed is clear; else the highest that is present or is shown
and protected, and without one the top one again. -/
def wantedEntry (isProtected : Bool) (s : State) : Option SourceEntry :=
  match s.source.list with
  | [] => none
  | top :: rest =>
    if s.source.topPassed = true then
      some (((top :: rest).find? fun e =>
        inputPresent s e.input || isProtected && s.source.shown == some e.input).getD top)
    else some top

/-- The judgement of R130 has been made on a wanted entry: a switch begins to another input; the shown input that is wanted
still is SHOWING if present; if absent, HOLDING while its hold runs; else NO_SIGNAL for the top with top passed set and for
NONE, and for any other a fresh hold. -/
def Judged (wanted : Option SourceEntry) (s u : State) : Prop :=
  (∀ e ∈ wanted, s.source.shown ≠ some e.input → SwitchTo e s u) ∧
  (s.source.shown = wanted.map (fun e => e.input) →
    if shownPresent s = true then StaysIn .showing none s u
    else if s.source.hold.isSome = true then StaysIn .holding s.source.hold s u
    else if s.source.shown = none ∨ s.source.shown = topInput s ∧ s.source.topPassed = true then
      StaysIn .noSignal none s u
    else StaysIn .holding (some (s.settings.hold * 1000)) s u)

/-- One presence line has been debounced (R122, R123): a settled report changes at the third differing sample in a row, and an
UNSETTLED one settles at the third equal sample in a row. -/
def Debounced (x y : InputSense) (level : Bool) : Prop :=
  let sample : Presence := if level = true then .present else .absent
  y.last = level ∧
  (x.presence ≠ .unsettled →
    (x.presence = sample → y.presence = sample ∧ y.run = 0) ∧
    (x.presence ≠ sample → x.run < 2 → y.presence = x.presence ∧ y.run = x.run + 1) ∧
    (x.presence ≠ sample → 2 ≤ x.run → y.presence = sample ∧ y.run = 0)) ∧
  (x.presence = .unsettled →
    (x.run = 0 ∨ x.last ≠ level → y.presence = .unsettled ∧ y.run = 1) ∧
    (x.run = 1 → x.last = level → y.presence = .unsettled ∧ y.run = 2) ∧
    (2 ≤ x.run → x.last = level → y.presence = sample ∧ y.run = 0))

/-- An input has been pushed on top of the source list (R124): an entry of it removed, four kept, top passed cleared, the hold
stopped. The judgement of R130 follows: another input shown, a switch to it begins; the same, it is SHOWING or gets a fresh
hold. While SWITCHING the switch goes on if its target is in the list still, and is superseded if not (R133). -/
def PushedOnTop (i : Input) (o : Origin) (s u : State) : Prop :=
  u.source.list = (⟨i, o⟩ :: s.source.list.filter fun e => e.input != i).take 4 ∧
  u.source.topPassed = false ∧ u.source.inputs = s.source.inputs ∧
  (s.source.state ≠ .switching → s.source.shown ≠ some i →
    u.source.shown = some i ∧ u.source.state = .switching ∧ u.source.switch = some 1500 ∧ u.source.hold = none ∧
      SelectSent (some i) (some o) s u) ∧
  (s.source.state ≠ .switching → s.source.shown = some i →
    u.source.shown = some i ∧ u.scalerLink = s.scalerLink ∧ u.geometry = s.geometry ∧ u.source.switch = none ∧
      (u.source.state = if inputPresent s i = true then .showing else .holding) ∧
      (u.source.hold = if inputPresent s i = true then none else some (s.settings.hold * 1000))) ∧
  ∀ x ∈ s.source.shown, s.source.state = .switching →
    ((u.source.list.any fun e => e.input == x) = true →
      u.source.shown = some x ∧ u.source.state = .switching ∧ u.source.switch = s.source.switch ∧
        u.scalerLink = s.scalerLink ∧ u.geometry = s.geometry) ∧
    ((u.source.list.any fun e => e.input == x) = false →
      u.source.shown = some i ∧ u.source.state = .switching ∧ u.source.switch = some 1500 ∧
        u.source.hold = none ∧ SelectSent (some i) (some o) s u)

/-- No other member of the own group is committed, and the own station has no claim: then no withdrawal (R119) and no
strike come between an event and what it does. -/
abbrev Alone (s : State) : Prop := committedPeers s = [] ∧ ownClaimed s = false

/-- A telegram whose owner does nothing at its echo and its drop: it leaves the queue (R170). -/
def leavesOnly : Payload → Bool
  | .beacon => false
  | .claim => false
  | .release => true
  | .request _ _ => true
  | .answer _ _ restart => !restart

/-- The own beacon is out, sent complete or dropped (R82): the beacon timer (R79) and the spacing of 250 ms (R81) start and
the slot is empty, but for a beacon that fell due meanwhile (log 16). -/
def BeaconOut (s u : State) : Prop :=
  u.listen.spacing = some 250 ∧ u.listen.fresh = s.listen.fresh ∧ u.listen.duplicate = s.listen.duplicate ∧
  (∃ b ∈ u.listen.beacon, s.settings.interval * 1000 ≤ b + 63 ∧ b ≤ s.settings.interval * 1000) ∧
  u.line.attempt = none ∧ u.line.dueAgain = false ∧
  (s.line.dueAgain = false → u.line.queue = notSending s.line.queue) ∧
  (s.line.dueAgain = true → (u.line.queue.any fun e => isBeacon e.payload && !e.sending) = true) ∧
  u.lamp = s.lamp ∧ u.claims = s.claims ∧ u.group = s.group ∧ u.locks = s.locks

/-- The dispatcher may take this request, of a kind and from a station, at the head of the request queue (R175). -/
abbrev AtHead (kind : Byte) (t : Telegram) (rest : List Telegram) (s : State) : Prop :=
  s.line.requests = t :: rest ∧ mayTake s t = true ∧ t.kind = kind ∧ t.origin ≠ 0

/-- The state once the head `t` of the request queue is taken and its ANSWER, if it is directed, handed over, its owner
having changed nothing (R174 to R176). -/
def answered (t : Telegram) (rest : List Telegram) (r : Result) (s : State) : State :=
  if directed s t then giveAnswer t r (takeHead t rest s) else takeHead t rest s

/-- The state once the head `t` of the request queue is taken and disregarded by its rule: nothing is answered, and an entry
reserved for a directed one is freed (R175, R176). -/
def disregarded (t : Telegram) (rest : List Telegram) (s : State) : State :=
  if directed s t then freeReservation (takeHead t rest s) else takeHead t rest s

/-- The ANSWER to `t` has been handed over, if it is directed (R176). -/
def answerQueued (t : Telegram) (r : Result) (s u : State) : Prop :=
  directed s t = true →
    newEntry (.answer t.origin.toNat (answerBody t.kind r) (t.kind == kindRestart && r.code == .taken)) ∈ u.line.queue

/-- The effective slot whose actions a warm reset hands again: found anew while SURE, the held copy while UNSURE (R167). -/
def resetEffective (s : State) : Option Slot :=
  if s.clock.sure.isSome = true then effectiveSlot s.clock.minute s.schedule.slots else s.schedule.heldEffective

/-- The ON slot whose schedule ON a warm reset hands again (R167). -/
def resetOn (s : State) : Option Slot :=
  if s.clock.sure.isSome = true then onSlot s.clock.minute s.schedule.slots else s.schedule.heldOn

/-- The select commands of a warm reset (R138, R139): for the top of the initial list, or for no input; from an empty list
the slot's source is switched to at once (R167). -/
def resetSelects (xs : List SourceEntry) (slotSource : Option Input) : List ScalerMessage :=
  match xs with
  | e :: _ => [.select (some e.input) (some e.origin)]
  | [] =>
    .select none none ::
      match slotSource with
      | some i => [.select (some i) (some .schedule)]
      | none => []

/-- The Group Coordinator after a warm reset (R120): the values of power-on, with the slot level and a schedule ON as the
schedule hands them again (R167). -/
def GroupReset (s u : State) : Prop :=
  u.group.mode = (if (resetOn s).isSome = true then some .schedule else none) ∧ u.group.levelOverride = none ∧
  u.group.slotLevel = slotLevelOf (resetEffective s) ∧ u.group.selection = .unselected ∧ u.group.growth = 0 ∧
  u.group.shortfall = false ∧ u.group.shortTimer = (if groupShort u = true then some 10000 else none)

/-- The Source Selector after a warm reset (R139, R138): the initial list with the source of a slot in progress on top of
it (R167), every input UNSETTLED, the top of the initial list switched to. -/
def SelectorReset (s u : State) : Prop :=
  let xs := s.settings.initialList
  let i := slotSourceOf (resetEffective s)
  u.source.list = (match i with
    | some i => (⟨i, .schedule⟩ :: xs.filter fun e => e.input != i).take 4
    | none => xs) ∧
  u.source.shown = (match xs with
    | e :: _ => some e.input
    | [] => i) ∧
  u.source.state = (if u.source.shown = none then .noSignal else .switching) ∧
  u.source.switch = (if u.source.shown = none then none else some 1500) ∧
  u.source.topPassed = false ∧ u.source.hold = none ∧ u.source.idle = none ∧
  u.source.inputs = ⟨.unsettled, .unsettled, .unsettled, .unsettled, .unsettled, .unsettled⟩ ∧
  ∃ n, RecordsGone s.geometry n ∧ u.scalerLink =
    s.scalerLink ++ recordsBetween s.geometry s.geometry.linesSent n ++ resetSelects xs i

/-- The Lamp Controller after a warm reset (R28): a lamp in STRIKING, WARMING or LIT has gone to COOLING with both its
times, one in WAITING to DARK; DARK, COOLING and FAULT stand with their timers. Cap, faults, dropout window and fan test are
kept in every state, and the held P until the Group Coordinator hands on another P. -/
def LampReset (s u : State) : Prop :=
  u.lamp.relight = false ∧ u.lamp.attempts = 0 ∧ u.lamp.faults = s.lamp.faults ∧ u.lamp.cap = s.lamp.cap ∧
  u.lamp.dropoutWindow = s.lamp.dropoutWindow ∧ u.lamp.fanTest = s.lamp.fanTest ∧
  (u.group.p = s.group.p → u.lamp.heldP = s.lamp.heldP) ∧
  (claiming s.lamp.state = true → u.lamp.renewal = none) ∧
  (litSide s.lamp.state = true →
    u.lamp.state = .cooling ∧ u.lamp.restrike = some (s.settings.restrike * 1000) ∧
      u.lamp.coolDown = some (s.settings.coolDown * 1000) ∧ u.lamp.actual = 0 ∧ u.lamp.litWait = none ∧
      u.lamp.retryGap = none ∧ u.lamp.warmUp = none) ∧
  (s.lamp.state = .waiting → u.lamp.state = .dark) ∧
  (committedState s.lamp.state = false → u.lamp.state = s.lamp.state) ∧
  (litSide s.lamp.state = false → u.lamp.restrike = s.lamp.restrike ∧ u.lamp.coolDown = s.lamp.coolDown)

/-- The Wear Accountant over a warm reset (R29): kept, but for the lit time and the write of a burning lamp's extinction
(R36) and a life hold that becomes the WEAR lock (R39, R40). -/
def WearKept (s u : State) : Prop :=
  u.wear.accumulator = s.wear.accumulator ∧ u.wear.strikes = s.wear.strikes ∧ u.wear.valid = s.wear.valid ∧
  (u.wear.litTime = if burning s.lamp.state = true then 0 else s.wear.litTime) ∧
  (burning s.lamp.state = false →
    u.wear.write = s.wear.write ∧ u.wear.writeAgain = s.wear.writeAgain ∧ u.wear.outcome = s.wear.outcome) ∧
  (lockOf u.locks .wear).isSome = (lifeReached s || s.wear.lifeHold)

/-- What a warm reset leaves (R183 and each block's rule): the send queue with the first beacon of FRESH alone (R74), and
ahead of it the RELEASE of a lamp that was claiming (R28, R178); the request queue, Peer Table, Claim List and station locks
empty, FRESH begun, the engine at work on the active set or awaiting its swap, group, selector and SCHEDULE lock as the
schedule rebuilds them; wear, personality, clock time and the key switch kept, and the sampling of the keys (log 47). -/
def ResetWarm (s u : State) : Prop :=
  GroupReset s u ∧ SelectorReset s u ∧ LampReset s u ∧ WearKept s u ∧
  (lockOf u.locks .schedule).map (fun l => l.scopes) = lockWanted (resetEffective s) ∧
  u.schedule = ⟨s.schedule.slots, resetEffective s, resetOn s⟩ ∧
  u.line.requests = [] ∧ u.line.busy = false ∧ u.line.count = 0 ∧ u.line.poor = false ∧
  u.line.minute = some 60000 ∧ (u.line.attempt.all fun a => a.orphan) = true ∧
  u.line.queue =
    (if claiming s.lamp.state = true then [newEntry .release, newEntry .beacon] else [newEntry .beacon]) ∧
  u.line.reserved = 0 ∧ u.line.headReserved = false ∧ u.line.dueAgain = false ∧
  u.peers = [] ∧ u.claims = [] ∧
  u.geometry = resetEngine { s.geometry with linkDraws := u.geometry.linkDraws } ∧
  u.listen.fresh = some (3 * s.settings.interval * 1000) ∧ u.listen.duplicate = none ∧ u.listen.spacing = none ∧
  (∃ b ∈ u.listen.beacon, s.settings.interval * 1000 ≤ b + 63 ∧ b ≤ s.settings.interval * 1000) ∧
  (∀ l ∈ u.locks, l.holder = .wear ∨ l.holder = .schedule ∨ l.holder = .keySwitch) ∧
  ((lockOf u.locks .keySwitch).isSome = true ↔ s.panel.switch.settled = some .locked) ∧
  u.settings = s.settings ∧ u.straps = s.straps ∧ u.start = s.start ∧ u.serial = s.serial ∧ u.pins = s.pins ∧
  u.panel = s.panel ∧ u.clock = { s.clock with source := none }

/-- An evaluation has been made at a minute-of-week over a slot table (R164, R165): `s` is the state before, with its held
copies and group mode. A changed effective slot sets the slot level and pushes its source (R127); a CLOSED one turns the
mode OFF whatever its cause. A changed ON slot turns it ON by schedule; left for none but a CLOSED slot, it clears the slot
level and turns OFF a mode ON by schedule (R107). -/
def Evaluated (minute : Nat) (slots : List Slot) (s u : State) : Prop :=
  let eff := effectiveSlot minute slots
  let on := onSlot minute slots
  let enters := eff ≠ s.schedule.heldEffective
  let leaves := on ≠ s.schedule.heldOn ∧ on = none ∧ isClosed eff = false
  u.schedule = ⟨slots, eff, on⟩ ∧ (lockOf u.locks .schedule).map (fun l => l.scopes) = lockWanted eff ∧
  u.group.mode =
    (if on ≠ s.schedule.heldOn ∧ on.isSome = true then some .schedule
    else if enters ∧ isClosed eff = true ∨ leaves ∧ s.group.mode = some .schedule then none
    else s.group.mode) ∧
  u.group.slotLevel = (if leaves then none else if enters then slotLevelOf eff else s.group.slotLevel) ∧
  u.group.levelOverride =
    (if s.group.mode.isSome = true ∧ u.group.mode = none then none else s.group.levelOverride) ∧
  (s.group.mode.isSome = true → u.group.mode = none → u.group.selection = .unselected) ∧
  (∀ i ∈ slotSourceOf eff, enters → PushedOnTop i .schedule s u) ∧
  (¬enters ∨ slotSourceOf eff = none →
    u.source = { s.source with idle := u.source.idle } ∧ u.scalerLink = s.scalerLink ∧ u.geometry = s.geometry)

/-- The permission to strike has been judged again (R92, R6): a lamp in WAITING strikes if it has it, with the
tachometer RUNNING and supply-low released; else the lamp and its wear stay as they were. -/
def PermissionJudged (s u : State) : Prop :=
  if s.lamp.state = .waiting ∧ s.pins.tacho = .running ∧ s.pins.supplyLow = false ∧ permission u = true then
    u.lamp.state = .striking .attempt ∧ u.lamp.attempts = s.lamp.attempts + 1
  else u.lamp = s.lamp ∧ u.wear = s.wear

/-- The lamp has entered FAULT from another state (R12, R21, R114): `s` is the state before. -/
def FaultEntered (s u : State) : Prop :=
  u.lamp.state = .fault ∧ u.lamp.coolDown = some (s.settings.coolDown * 1000) ∧ u.lamp.relight = false ∧
  u.lamp.attempts = 0 ∧ u.group.selection = .unselected ∧
  (claiming s.lamp.state = true → ownClaimed u = false ∧ u.lamp.renewal = none) ∧
  (litSide s.lamp.state = true → u.lamp.restrike = some (s.settings.restrike * 1000) ∧ u.lamp.actual = 0 ∧
    u.lamp.litWait = none ∧ u.lamp.retryGap = none ∧ u.lamp.warmUp = none) ∧
  (burning s.lamp.state = true → u.wear.litTime = 0) ∧ u.wear.accumulator = s.wear.accumulator

/-- The lamp has entered the retry gap (R7, R8). -/
def GapEntered (s u : State) : Prop :=
  u.lamp.state = .striking .gap ∧ u.lamp.retryGap = some 10000 ∧ u.lamp.litWait = none ∧
  u.lamp.attempts = s.lamp.attempts ∧ u.lamp.faults = s.lamp.faults ∧ u.claims = s.claims ∧ u.wear = s.wear ∧
  u.group = s.group ∧ u.locks = s.locks

/-- A strike attempt has begun (R7, R31). -/
def StrikeBegun (s u : State) : Prop :=
  u.lamp.state = .striking .attempt ∧ u.lamp.attempts = s.lamp.attempts + 1 ∧ u.lamp.litWait = some 5000 ∧
  u.lamp.retryGap = none ∧ u.lamp.faults = s.lamp.faults ∧ u.claims = s.claims ∧ u.locks = s.locks ∧
  u.group = s.group ∧ u.wear.accumulator = min (s.wear.accumulator + 18000) 1099511627775 ∧
  u.wear.strikes = min (s.wear.strikes + 1) 16777215 ∧ u.wear.litTime = s.wear.litTime

end Sys2Proof.Machine
end

