-- ==== Sys2Proof/WellFormed.lean ====
section
/-! DEFINITION. Which commands are well formed: operands within the ranges of the spec, telegrams of the row's kind. -/

namespace Sys2Proof

/-- The characters of a list of signals from the last one with its marker at 1 on: those read of the telegram it
begins. -/
def lastBegun (signals : List LineSignal) : List Byte :=
  signals.foldl
    (fun got x =>
      match x with
      | .char true b => [b]
      | .char false b => if got.isEmpty then [] else got ++ [b]
      | .badStop => []
      | .lineBreak => []
      | .lineIdle => []) []

/-- The signals of a row of received telegrams: not none, and a telegram they begin last is of the row's kinds and of an
origin of at most 31 (R173). One begun earlier may be of any kind. -/
def arrivalWf (kinds : List Byte) (signals : List LineSignal) : Bool :=
  !signals.isEmpty &&
    match lastBegun signals with
    | [] => true
    | [k] => kinds.contains k
    | k :: o :: _ => kinds.contains k && decide (o.toNat ≤ 31)

/-- The signals of TELEGRAM_OF_UNKNOWN_KIND: not none, and a telegram they begin last is of unknown kind or of an origin
above 31 (R173). -/
def unknownWf (signals : List LineSignal) : Bool :=
  !signals.isEmpty &&
    match lastBegun signals with
    | [] => true
    | [_] => true
    | k :: o :: _ => !Machine.allKinds.contains k || decide (31 < o.toNat)

/-- A station number, 1 to 31 (R64). -/
def stationWf (n : Nat) : Bool := decide (1 ≤ n) && decide (n ≤ 31)

/-- A load of the scaler link: an identity in a byte (R54) and attempt 1 or 2 (R55). -/
def loadWf (identity attempt : Nat) : Bool := decide (identity ≤ 255) && decide (1 ≤ attempt) && decide (attempt ≤ 2)

/-- The command is well formed. The shortest idle time is 12 bit times at 125 kbit/s, 96 µs (R169's table). -/
def Instr.wf : Instr → Bool
  | .powerOn p => p.toolWrites.all fun c => decide (c.1 < Config.memorySize)
  | .secondPass silent => silent.all fun k => decide (k ≤ 6)
  | .receiverEnabled => true
  | .sendingAttempt idle => decide (96 ≤ idle)
  | .loss => true
  | .lineFault => true
  | .ownEcho => true
  | .receiveError signals => !signals.isEmpty
  | .requestArrival signals => arrivalWf Machine.requestKinds signals
  | .answer signals => arrivalWf [Machine.kindAnswer] signals
  | .groupOn => true
  | .groupOff => true
  | .level => true
  | .showInput => true
  | .corners => true
  | .lock => true
  | .unlock => true
  | .slotPut => true
  | .slotDrop => true
  | .clearFault => true
  | .lampNew => true
  | .restart => true
  | .queryWear => true
  | .queryLocks => true
  | .querySlot => true
  | .queryCorners => true
  | .beacon signals => arrivalWf [Machine.kindBeacon] signals
  | .confirmWindowExpiry station => stationWf station
  | .presenceTimerExpiry station => stationWf station
  | .freshEnd => true
  | .duplicateTimerExpiry => true
  | .beaconTimerExpiry => true
  | .beaconSpacingExpiry => true
  | .lineQualityMinute => true
  | .claim signals => arrivalWf [Machine.kindClaim] signals
  | .release signals => arrivalWf [Machine.kindRelease] signals
  | .ageTimerExpiry station => stationWf station
  | .claimRenewal => true
  | .litSense => true
  | .dropout => true
  | .litSenseWaitExpiry => true
  | .retryGapExpiry => true
  | .warmUpExpiry => true
  | .rampStep => true
  | .litSecond => true
  | .coolDownExpiry => true
  | .restrikeGuardExpiry => true
  | .dropoutWindowExpiry => true
  | .fanStall => true
  | .fanTestExpiry => true
  | .tachometerRunning => true
  | .tachometerStalled => true
  | .supplyLowAsserted => true
  | .supplyLowReleased => true
  | .temperatureSample _ => true
  | .writeCompletion readBack => readBack.length == 10
  | .writeTimeout held => held.length == 10
  | .computationEnd => true
  | .loadSent => true
  | .loadAcknowledgement identity attempt => loadWf identity attempt
  | .loadRefusal identity attempt => loadWf identity attempt
  | .loadWaitExpiry => true
  | .swapReport identity => decide (identity ≤ 255)
  | .swapRequestRepeat => true
  | .swapWaitTimeout => true
  | .presenceSample _ => true
  | .lockReport _ => true
  | .switchTimerExpiry => true
  | .holdTimerExpiry => true
  | .idleTimerExpiry => true
  | .keypadPower samples => !samples.isEmpty
  | .keypadSource samples => !samples.isEmpty
  | .keypadVPlus samples => !samples.isEmpty
  | .keypadVMinus samples => !samples.isEmpty
  | .keypadClear samples => !samples.isEmpty
  | .keySwitchSettle samples => !samples.isEmpty
  | .lockMinuteTimerExpiry station => stationWf station
  | .clockSecond => true
  | .minuteChange => true
  | .time signals => arrivalWf [Machine.kindTime] signals
  | .sureTimerExpiry => true
  | .slewTimerExpiry => true
  | .shortfallTimerExpiry => true
  | .telegramOfUnknownKind signals => unknownWf signals

end Sys2Proof
end

