-- ==== Sys2Proof/Certificates/Slice0/Obligations.lean ====
section
/-! DEFINITION. The statements for the provers, one for each point of the spec that says what a command or the block
does. -/

open Sys2Proof Sys2Proof.Machine

/-! ### Steps, power-on, start-up -/

/-- A step carries out the command at the front of the queue on the rest; on an empty queue the block idles. The queue
and the idling are the model's (logs 1, 2). -/
def Obligations.StepRunsTheFrontCommand : Prop :=
  ∀ (s : State) (c : Instr) (rest : List Instr),
    (s.pending = c :: rest → step s = exec c (s.setPending rest)) ∧ (s.pending = [] → step s = .next s)

/-- Every well-formed command completes, and none touches the queue of commands. Which commands are well formed is the
model's cut (log 34; a tool's write beyond the memory, log 21). The queue is the model's too: no command puts anything in
it or takes anything out, and it goes on over POWER_ON (logs 35, 21). -/
def Obligations.WellFormedCommandsComplete : Prop :=
  ∀ (s : State) (c : Instr), c.wf = true → ∃ t, exec c s = .next t ∧ t.pending = s.pending

/-- Power-on (R180, R182): every block at its power-on values, the straps read with a station number of 0 taken as 31 and
a line rate strapped 3 as 62.5 kbit/s, the serial memory kept but for what a tool wrote; a write beyond its 512 bytes
faults. The tool's writes as an operand, and the two counters of free values and the queue that go on, are the model's
(logs 3, 7, 21, 26), and so are some of the values of State.reset that stand here: personality, wear, source list and slots
before pass two (log 5), the times of the two running timers (log 6), the keys (log 22), the load attempt (log 25), the
temperature (log 29), the line's reading and idle time (logs 31, 44) and the first P (log 39). -/
def Obligations.PowerOnStartsEveryBlock : Prop :=
  ∀ (s : State) (p : PowerUp),
    ((p.toolWrites.all fun c => decide (c.1 < 512)) = true →
      exec (.powerOn p) s = .next
        { State.reset with
          straps := ⟨if p.station = 0 then 31 else p.station.val, p.station == 0, p.format,
            if p.rate = 0 then .kbit31 else if p.rate = 2 then .kbit125 else .kbit62, p.memory⟩
          pins := ⟨p.litSense, p.supplyLow, .unjudged⟩
          listen := ⟨none, none, none, none, s.listen.draws⟩
          geometry := { Geometry.powerOn with linkDraws := s.geometry.linkDraws }
          serial := Memory.writeCells s.serial p.toolWrites
          pending := s.pending }) ∧
    ((p.toolWrites.any fun c => decide (512 ≤ c.1)) = true → exec (.powerOn p) s = .fault .noSuchAddress)

/-- What reset leaves in every block: Lamp Controller (R27), Wear Accountant (R29), Geometry Engine (R61), Peer Table and
listening (R73, R78, R79), Group Coordinator (R120), Source Selector (R138, R123), Lock Set and key switch (R150), clock and
schedule (R154, R167), Hall Line (R179), start (R182). The model's values: the times of the two running timers before zone 2
is read (log 6); personality, wear, source list, slots and the place of zone 6 before pass two (log 5); straps and pins (log
3); a byte of the memory that nothing has written (log 4); the keys (log 22), the load attempt (log 25), the temperature
(log 29), P (log 39), the line's idle time and reading (logs 44, 31). -/
def Obligations.ResetValues : Prop :=
  let s := State.reset
  s.lamp.state = .cooling ∧ s.lamp.restrike = some 120000 ∧ s.lamp.coolDown = some 90000 ∧ fanDriven s.lamp = true ∧
  s.lamp.faults = ⟨false, false, false, false, false⟩ ∧ s.lamp.relight = false ∧ s.lamp.attempts = 0 ∧
  s.lamp.cap = 100 ∧ s.lamp.heldP = 100 ∧ s.lamp.target = 0 ∧ s.lamp.actual = 0 ∧ strikeLine s.lamp = false ∧
  ballastSetting s.lamp = 0 ∧
  s.lamp.litWait = none ∧ s.lamp.retryGap = none ∧ s.lamp.warmUp = none ∧ s.lamp.renewal = none ∧
  s.lamp.dropoutWindow = none ∧ s.lamp.fanStall = none ∧ s.lamp.fanTest = none ∧ s.lamp.temperature = 0 ∧
  s.wear.accumulator = 0 ∧ s.wear.strikes = 0 ∧ s.wear.valid = false ∧ s.wear.litTime = 0 ∧ s.wear.lifeHold = false ∧
  s.wear.write = none ∧ s.wear.writeAgain = false ∧ s.wear.outcome = .notWritten ∧
  s.geometry.state = .idle ∧ s.geometry.active = ⟨0, 0, 0, 0, 0, 0⟩ ∧ s.geometry.activeId = 0 ∧ s.geometry.f = 1024 ∧
  s.geometry.inFlight = none ∧ s.geometry.inFlightId = none ∧ s.geometry.inFlightF = none ∧
  s.geometry.inFlightTable = none ∧ s.geometry.pendingSet = none ∧ s.geometry.v = 0 ∧
  s.geometry.refreshDue = false ∧ s.geometry.failure = false ∧ s.geometry.lastId = 0 ∧ s.geometry.attempt = 1 ∧
  s.geometry.linesSent = 0 ∧ s.geometry.loadWait = none ∧ s.geometry.swapRepeat = none ∧ s.geometry.swapTimeout = none ∧
  s.scalerLink = [] ∧ s.listen.fresh = none ∧ s.listen.duplicate = none ∧ s.listen.beacon = none ∧
  s.listen.spacing = none ∧
  s.group.mode = none ∧ s.group.levelOverride = none ∧ s.group.slotLevel = none ∧ s.group.selection = .unselected ∧
  s.group.shortTimer = none ∧ s.group.growth = 0 ∧ s.group.shortfall = false ∧ s.group.p = 100 ∧
  s.group.unclamped = 100 ∧
  s.source.list = [] ∧ s.source.topPassed = false ∧ s.source.shown = none ∧ s.source.state = .noSignal ∧
  s.source.hold = none ∧ s.source.switch = none ∧ s.source.idle = none ∧
  (∀ i ∈ allInputs, (sixGet s.source.inputs i).presence = .unsettled ∧ (sixGet s.source.inputs i).run = 0) ∧
  s.clock.minute = 0 ∧ s.clock.seconds = 0 ∧ s.clock.sure = none ∧ s.clock.source = none ∧ s.clock.slewLeft = 0 ∧
  s.clock.slew = none ∧ s.clock.inserts = 0 ∧
  s.schedule.slots = [] ∧ s.schedule.heldEffective = none ∧ s.schedule.heldOn = none ∧
  s.panel.switch.settled = none ∧ s.panel.switch.run = 0 ∧
  (∀ k ∈ [s.panel.power, s.panel.source, s.panel.vPlus, s.panel.vMinus, s.panel.clear],
    k.down = false ∧ k.foundOpen = false ∧ k.run = 0) ∧
  s.start.receiver = false ∧ s.start.passTwo = false ∧ s.start.defaulted = ⟨false, false, false, false, false⟩ ∧
  s.start.wearPlace = none ∧ s.settings = Settings.defaults ∧ s.straps = ⟨1, false, 0, .kbit31, true⟩ ∧
  s.pins.litSense = false ∧ s.pins.supplyLow = false ∧ s.pins.tacho = .unjudged ∧
  s.serial = [] ∧ (∀ a : Nat, Memory.read s.serial a = 255) ∧
  s.peers = [] ∧ s.claims = [] ∧ s.locks = [] ∧
  s.line.queue = [] ∧ s.line.reserved = 0 ∧ s.line.headReserved = false ∧ s.line.requests = [] ∧
  s.line.busy = false ∧ s.line.count = 0 ∧ s.line.poor = false ∧ s.line.minute = none ∧ s.line.attempt = none ∧
  s.line.dueAgain = false ∧ s.line.reading = .idle ∧ s.line.idle = .notYet ∧ s.line.driven = [] ∧ s.pending = []

/-- The machine after reset has every property that the steps keep. -/
def Obligations.ResetIsSafe : Prop := Safe State.reset

/-- Whatever the serial memory holds, the personality read from it lies within its ranges (R181). -/
def Obligations.PersonalityInRange : Prop :=
  ∀ (silent : List Nat) (s : State), SettingsSafe (settingsRead silent s)

/-- Pass two (R181, R182, R29, R61, R138, R167): each zone's values go to their owners, the selector starts with the
initial list, the lamp state stays as it is. That the cool-down and the restrike guard, already running, count as
started for the personality's times is the model's reading (log 6), and so are the place of zone 6 (log 19) and a
silence of the memory on some zones alone (log 42), a slot of zone 5 for other groups that takes away the slot of its
id read before (log 41), and an entry of zone 3 that is skipped without counting as read (log 37). With the memory
absent or silent every zone is loaded with its defaults, wear is UNKNOWN, and with the memory absent zone 6 has no
place. -/
def Obligations.SecondPassLoadsTheZones : Prop :=
  ∀ (s : State) (silent : List Nat),
    StartSafe s → s.start.passTwo = false →
      ∃ t, exec (.secondPass silent) s = .next t ∧
        t.settings = settingsRead silent s ∧
        t.start = ⟨true, s.start.receiver, zonesRead silent s, wearPlaceOf silent s⟩ ∧
        t.wear = wearRead (wearData silent s) ∧
        SelectSent (topInput t) (t.source.list.head?.map fun e => e.origin)
          (s.setGeometry (offerEdit (cornersRead s.straps.format (zoneData silent s 4)) s.geometry)) t ∧
        t.schedule = { s.schedule with slots := slotsRead t.settings.group (zoneData silent s 5) } ∧
        t.source.list = t.settings.initialList ∧ t.source.shown = topInput t ∧ t.source.inputs = s.source.inputs ∧
        t.lamp.state = s.lamp.state ∧
        t.lamp.coolDown = s.lamp.coolDown.map (fun _ => t.settings.coolDown * 1000) ∧
        t.lamp.restrike = s.lamp.restrike.map (fun _ => t.settings.restrike * 1000) ∧
        (lifeReached t = true → (lockOf t.locks .wear).isSome = true) ∧
        t.serial = s.serial ∧ t.peers = s.peers ∧ t.claims = s.claims ∧ t.clock = s.clock ∧ t.panel = s.panel ∧
        ((∀ k ∈ ([1, 2, 3, 4, 5] : List Nat), k ∈ silent) →
          t.settings = Settings.defaults ∧ t.start.defaulted = ⟨true, true, true, true, true⟩ ∧
            t.wear.valid = false ∧ t.wear.accumulator = 0 ∧ t.schedule.slots = [] ∧ t.source.list = []) ∧
        (s.straps.memory = false →
          t.settings = Settings.defaults ∧ t.start.defaulted = ⟨true, true, true, true, true⟩ ∧
            t.start.wearPlace = none ∧ t.wear.valid = false ∧ t.wear.accumulator = 0 ∧ t.schedule.slots = [] ∧
            t.source.list = [])

/-- The receiver is enabled once pass two has ended and the key switch has settled (R182): the line quality minute and
the FRESH period of three intervals start (R74, R179), the first beacon falls due and the beacon timer runs one
interval less at most 63 ms (R79). -/
def Obligations.ReceiverEnabledBeginsFresh : Prop :=
  ∀ (s : State),
    Settled s → s.start.passTwo = true → s.panel.switch.settled.isSome = true → s.start.receiver = false →
      ∃ t, exec .receiverEnabled s = .next t ∧
        t.start = { s.start with receiver := true } ∧ t.line.minute = some 60000 ∧ t.line.reading = .skipping ∧
        t.listen.fresh = some (3 * s.settings.interval * 1000) ∧ freshFlag t = true ∧
        (∃ b ∈ t.listen.beacon, s.settings.interval * 1000 ≤ b + 63 ∧ b ≤ s.settings.interval * 1000) ∧
        t.listen.duplicate = s.listen.duplicate ∧ t.listen.spacing = s.listen.spacing ∧
        (t.line.queue.any fun e => isBeacon e.payload) = true ∧ t.line.requests = s.line.requests ∧
        t.lamp = s.lamp ∧ t.wear = s.wear ∧ t.claims = s.claims ∧ t.group = s.group ∧ t.locks = s.locks ∧
        t.peers = s.peers ∧ t.geometry = s.geometry ∧ t.source = s.source ∧ t.clock = s.clock ∧
        t.schedule = s.schedule ∧ t.serial = s.serial ∧ t.settings = s.settings

/-! ### The hall line -/

/-- A sending attempt (R170, R171): on a line idle for 12 bit times of the strapped rate, and for the deferral if it
applies, the chosen telegram is sent; coordination telegrams go ahead of requests and answers, each class in its order, a
beacon held back by the spacing left out. The deferral applies when the telegram that was chosen at the end of the idle time
had failed an attempt, whatever has come into the queue or left it since; that the first of an idle line and a sending attempt
stands for that end is the model's reading (log 44). A telegram in hand at the receiver is discarded by the idle line (R172).
What is sent is laid out as R169 and 12.1 give it, the own beacon by 12.2: read back, it gives the own values (R65). -/
def Obligations.SendingTakesTheFirstOfItsClass : Prop :=
  ∀ (s : State) (idle : Nat) (before after : List QueueEntry) (e : QueueEntry) (p : Payload) (n : Nat) (k : Byte)
      (body : List Byte),
    let bit := match s.straps.rate with
      | .kbit31 => 32
      | .kbit62 => 16
      | .kbit125 => 8
    let count := if inHand s.line.reading = true then s.line.count + 1 else s.line.count
    let deferred := match s.line.idle, chosen s with
      | .over d, _ => d
      | .notYet, some (_, x, _) => x.attempts != 0
      | .notYet, none => false
    let needed := if deferred = true then 12 * bit + 11 * bit * (1 + s.straps.number % 8) else 12 * bit
    let idled := { s.line with reading := .idle, count := count, idle := .over deferred }
    let own := byteOf s.straps.number
    let t := telegramOf p s
    let head := [t.kind, t.origin, t.dest, byteOf t.body.length] ++ t.body
    (Settled s → idle < 12 * bit → exec (.sendingAttempt idle) s = .next s) ∧
    (Settled s → s.start.receiver = true → exec (.receiveError [.lineIdle]) s = .next (s.setLine idled)) ∧
    (Settled s → s.start.receiver = true → s.line.attempt = none → 12 * bit ≤ idle →
        chosen s = none ∨ idle < needed → exec (.sendingAttempt idle) s = .next (s.setLine idled)) ∧
    (Settled s → s.start.receiver = true → s.line.attempt = none → chosen s = some (before, e, after) →
        (needed ≤ idle → exec (.sendingAttempt idle) s = .next
          (s.setLine
            { idled with
              queue := before ++ { e with attempts := e.attempts + 1, sending := true } :: after
              attempt := some ⟨frameOf (telegramOf e.payload s), false⟩, idle := .notYet })) ∧
        s.line.queue = before ++ e :: after ∧ eligible s e = true ∧
        (∀ x ∈ before, eligible s x = true → isCoordination x.payload = false ∧ isCoordination e.payload = true) ∧
        (∀ x ∈ s.line.queue, isCoordination x.payload = true → eligible s x = true → isCoordination e.payload = true)) ∧
    frameOf t = head ++ [byteOf ((crc head).toNat / 256), byteOf ((crc head).toNat % 256)] ∧
    telegramOf .beacon s = ⟨1, own, 0, beaconBody s⟩ ∧
    telegramOf .claim s = ⟨2, own, byteOf (128 + s.settings.circuit), []⟩ ∧
    telegramOf .release s = ⟨3, own, byteOf (128 + s.settings.circuit), []⟩ ∧
    telegramOf (.request k body) s = ⟨k, own, byteOf (64 + s.settings.group), body⟩ ∧
    telegramOf (.answer n body true) s = ⟨32, own, byteOf n, body⟩ ∧
    telegramOf (.answer n body false) s = ⟨32, own, byteOf n, body⟩ ∧
    (SettingsSafe s.settings → 256 ≤ s.geometry.f → s.geometry.f ≤ 1024 → s.lamp.actual ≤ 100 → s.group.p ≤ 100 →
      beaconOf (beaconBody s) = some
        { kind := .projector, group := s.settings.group, circuit := s.settings.circuit, interval := s.settings.interval
          lamp := s.lamp.state, actual := s.lamp.actual, f := s.geometry.f
          hours := if s.wear.valid = true ∧ s.wear.accumulator / 360000 < 65535 then some (s.wear.accumulator / 360000)
            else none
          band := reportedBand s.wear, shown := s.source.shown, mode := s.group.mode, summary := lockSummary s.locks
          flags := ownFlags s } ∧
      ((beaconBody s).getD 6 0).toNat = s.group.p)

/-- An attempt that ends by loss or line fault leaves its telegram in place until its 16th (R170), and at a loss the winner's
telegram is in hand, its characters the signals that follow (log 31); a line fault is counted; a withdrawn CLAIM leaves (R5);
after the 16th a CLAIM, RELEASE, request or ANSWER is dropped, and a BEACON too, whose drop starts the beacon timer and
the 250 ms spacing (R82). An attempt orphaned by a warm reset ends and nothing else follows (R178). That a beacon due
again while one is sent merges into it when its attempt fails, and fills the slot when it is dropped, is the model's
reading (log 16). -/
def Obligations.FailedAttemptsKeepTheTelegram : Prop :=
  ∀ (s : State) (a : Attempt) (e : QueueEntry),
    Settled s → s.line.attempt = some a →
      let lost := { s.line with
        attempt := none, driven := s.line.driven ++ [.lost a.frame], reading := .receiving [], idle := .notYet }
      let faulted := { s.line with
        attempt := none, driven := s.line.driven ++ [.lost a.frame, .lineBreak], reading := .idle, idle := .notYet
        count := s.line.count + 1 }
      (a.orphan = true →
        exec .loss s = .next (s.setLine lost) ∧ exec .lineFault s = .next (s.setLine faulted)) ∧
      (a.orphan = false → inSending s.line.queue = some e →
        (e.withdrawn = false → e.attempts < 16 →
          exec .loss s = .next
            (s.setLine
              { lost with
                queue := s.line.queue.map fun x => { x with sending := false }
                dueAgain := if isBeacon e.payload then false else s.line.dueAgain }) ∧
          exec .lineFault s = .next
            (s.setLine
              { faulted with
                queue := s.line.queue.map fun x => { x with sending := false }
                dueAgain := if isBeacon e.payload then false else s.line.dueAgain })) ∧
        (e.withdrawn = true ∨
            16 ≤ e.attempts ∧ (e.payload = .claim ∨ leavesOnly e.payload = true) →
          (∃ t, exec .loss s = .next t ∧
            t.line.queue = notSending s.line.queue ∧ t.line.attempt = none ∧ t.line.count = s.line.count ∧
            t.line.reading = .receiving [] ∧
            t.lamp = s.lamp ∧ t.claims = s.claims ∧ t.group = s.group ∧ t.locks = s.locks ∧ t.listen = s.listen) ∧
          ∃ t, exec .lineFault s = .next t ∧
            t.line.queue = notSending s.line.queue ∧ t.line.attempt = none ∧ t.line.count = s.line.count + 1 ∧
            t.lamp = s.lamp ∧ t.claims = s.claims ∧ t.group = s.group ∧ t.locks = s.locks ∧ t.listen = s.listen) ∧
        (e.withdrawn = false → 16 ≤ e.attempts → e.payload = .beacon →
          (∃ t, exec .loss s = .next t ∧ BeaconOut s t ∧ t.line.reading = .receiving [] ∧
            t.line.count = s.line.count) ∧
          ∃ t, exec .lineFault s = .next t ∧ BeaconOut s t ∧ t.line.count = s.line.count + 1))

/-- An own telegram sent complete leaves the queue and its owner is told (R170): a CLAIM puts the own claim at the end
of the Claim List while the lamp claims (R90); a BEACON starts the beacon timer and the spacing of 250 ms (R79, R81,
R82); a RELEASE, a request or an ANSWER that starts no restart leaves only. A beacon due again while one was sent fills the
slot anew (log 16, the model's reading). An attempt orphaned by a warm reset gives no echo (R178). -/
def Obligations.OwnEchoTellsTheOwner : Prop :=
  ∀ (s : State) (a : Attempt) (e : QueueEntry),
    (Settled s → s.line.attempt = some a → a.orphan = true → exec .ownEcho s = .next
      (s.setLine
        { s.line with
          attempt := none, driven := s.line.driven ++ [.sent a.frame], reading := .idle, idle := .notYet })) ∧
    (Settled s → s.line.attempt = some a → a.orphan = false → inSending s.line.queue = some e →
      (e.payload = .claim → ∃ t, exec .ownEcho s = .next t ∧
        t.claims = (if claiming s.lamp.state = true ∧ ownClaimed s = false then s.claims ++ [⟨s.straps.number, none⟩]
          else s.claims) ∧
        (∀ x ∈ t.line.queue, x.sending = false) ∧ t.line.attempt = none ∧
        t.line.driven = s.line.driven ++ [.sent a.frame] ∧ t.locks = s.locks ∧ t.group = s.group ∧
        t.listen = s.listen ∧ t.peers = s.peers) ∧
      (e.payload = .beacon → ∃ t, exec .ownEcho s = .next t ∧ BeaconOut s t ∧
        t.line.driven = s.line.driven ++ [.sent a.frame]) ∧
      (leavesOnly e.payload = true →
        ∃ t, exec .ownEcho s = .next t ∧
          t.line.queue = notSending s.line.queue ∧ t.line.attempt = none ∧
          t.line.driven = s.line.driven ++ [.sent a.frame] ∧ t.line.requests = s.line.requests ∧
          t.lamp = s.lamp ∧ t.claims = s.claims ∧ t.group = s.group ∧ t.locks = s.locks ∧ t.listen = s.listen))

/-- A request that passes joins the request queue; with 8 in it the request is discarded and counted. BUSY is set at a
fill of 6 and cleared at a fill of 2, and a change of it makes a beacon due (R174, R80). A telegram of unknown kind or of an
origin above 31 is disregarded and counted, whatever its destination, which is the model's choice (log 15); a received
ANSWER, and a telegram that does not pass the filter, are disregarded (R173). The receiver assembles telegrams character by
character (R172): a telegram in hand is discarded and counted at a break, an idle line, a bad stop bit (log 45 for what
stands in that character), an early marker, a length above 24 and a check that does not match; with none in hand nothing
is counted. That a winner's telegram which a warm reset has discarded (R178) is passed over from its first, marked character
on is the model's choice: after a loss the winner's characters are the signals that follow (log 31). -/
def Obligations.RequestsJoinAndOthersAreDisregarded : Prop :=
  ∀ (s : State) (t : Telegram) (k : Nat) (got : List Byte) (b x y : Byte),
    Settled s →
      (Received t.kind t k s → requestKinds.contains t.kind = true →
        (s.line.requests.length < 8 →
          exec (.requestArrival (signalsFrom k t)) s = .next
            (beaconJudge s
              (s.setLine
                { s.line with
                  reading := .idle, idle := .notYet, requests := s.line.requests ++ [t]
                  busy := if 6 ≤ s.line.requests.length + 1 then true
                    else if s.line.requests.length + 1 ≤ 2 then false else s.line.busy }))) ∧
        (8 ≤ s.line.requests.length →
          exec (.requestArrival (signalsFrom k t)) s = .next
            (s.setLine { s.line with reading := .idle, idle := .notYet, count := s.line.count + 1 }))) ∧
      (Arrives t k s → isUnknown t = true → exec (.telegramOfUnknownKind (signalsFrom k t)) s = .next
        (s.setLine { s.line with count := s.line.count + 1, reading := .idle, idle := .notYet })) ∧
      (Arrives t k s → t.kind = kindAnswer → t.origin.toNat ≤ 31 →
        exec (.answer (signalsFrom k t)) s = .next (telegramIn s)) ∧
      (Arrives t k s → isUnknown t = false → passesFilter s t = false →
        exec (.requestArrival (signalsFrom k t)) s = .next (telegramIn s)) ∧
      (s.start.receiver = true → s.line.reading = .receiving got →
        let counted := { s.line with count := s.line.count + 1, idle := .notYet }
        exec (.receiveError [.lineBreak]) s = .next (s.setLine { counted with reading := .idle }) ∧
        exec (.receiveError [.lineIdle]) s = .next
          (s.setLine { counted with reading := .idle, idle := idleOver s }) ∧
        exec (.receiveError [.badStop]) s = .next (s.setLine { counted with reading := .skipping }) ∧
        (got ≠ [] → exec (.receiveError [.char true b]) s = .next
          (s.setLine { counted with reading := .receiving [b] })) ∧
        (got.length = 3 → 24 < b.toNat → exec (.receiveError [.char false b]) s = .next
          (s.setLine { counted with reading := .skipping })) ∧
        (t.body.length ≤ 24 → got ++ [y] = (frameOf t).take (t.body.length + 4) ++ [x, y] → got ++ [y] ≠ frameOf t →
          exec (.receiveError [.char false y]) s = .next (s.setLine { counted with reading := .idle }))) ∧
      (s.start.receiver = true → s.line.reading = .idle ∨ s.line.reading = .skipping →
        exec (.receiveError [.lineBreak]) s = .next (s.setLine { s.line with reading := .idle, idle := .notYet }) ∧
        exec (.receiveError [.char false b]) s = .next
          (s.setLine { s.line with reading := .skipping, idle := .notYet })) ∧
      (s.start.receiver = true → s.line.reading = .passing → exec (.requestArrival (signalsFrom 0 t)) s = .next
        (s.setLine { s.line with reading := .skipping, idle := .notYet })) ∧
      (s.start.receiver = false → exec (.receiveError [.char true b, .lineBreak]) s = .next s)

/-! ### Requests -/

/-- A request refused by the lock check is answered LOCKED, one of the wrong form MALFORMED, if directed, by its length or by
its values: an input of SHOW, LOCK with no scope or LAMP alone, UNLOCK of 0 or above 31, the fields of a slot, SLOT_DROP of
id 0. A LOCK or UNLOCK of the own number as origin is disregarded. None changes anything but the request queue and the send
queue (R104, R108, R125, R47, R145, R148, R161, R162, R41, R178, R176, R184). That the form is judged before the lock
check, and of LOCK and UNLOCK before the own number as origin, but LAMP alone after it, is the model's order (log 28). -/
def Obligations.RefusedRequestsChangeNothing : Prop :=
  ∀ (s : State) (t : Telegram) (rest : List Telegram),
    Settled s → s.line.requests = t :: rest → mayTake s t = true → t.origin ≠ 0 →
      (t.kind = kindGroupOn → t.body = [] →
        passesCheck s.locks (.station t.origin.toNat) ⟨true, true, false, false, false⟩ = false →
          exec .groupOn s = .next (beaconJudge s (answered t rest (.of .locked) s))) ∧
      (t.kind = kindGroupOff → t.body = [] →
        passesCheck s.locks (.station t.origin.toNat) ⟨false, true, false, false, false⟩ = false →
          exec .groupOff s = .next (beaconJudge s (answered t rest (.of .locked) s))) ∧
      (t.kind = kindLevel → t.body.length = 1 →
        passesCheck s.locks (.station t.origin.toNat) ⟨false, true, false, false, false⟩ = false →
          exec .level s = .next (beaconJudge s (answered t rest (.of .locked) s))) ∧
      (t.kind = kindShow → (∃ i ∈ allInputs, t.body = [byteOf (inputCode i)]) →
        passesCheck s.locks (.station t.origin.toNat) ⟨false, false, true, false, false⟩ = false →
          exec .showInput s = .next (beaconJudge s (answered t rest (.of .locked) s))) ∧
      (t.kind = kindCorners → t.body.length = 12 →
        passesCheck s.locks (.station t.origin.toNat) ⟨false, false, false, true, false⟩ = false →
          exec .corners s = .next (beaconJudge s (answered t rest (.of .locked) s))) ∧
      (t.kind = kindUnlock → t.body.length = 1 → (∀ v ∈ t.body, 1 ≤ v.toNat ∧ v.toNat ≤ 31 ∧ v ≠ t.origin) →
        t.origin.toNat ≠ s.straps.number →
          exec .unlock s = .next (beaconJudge s (answered t rest (.of .locked) s))) ∧
      (t.kind = kindGroupOn → t.body ≠ [] →
        exec .groupOn s = .next (beaconJudge s (answered t rest (.of .malformed) s))) ∧
      (t.kind = kindGroupOff → t.body ≠ [] →
        exec .groupOff s = .next (beaconJudge s (answered t rest (.of .malformed) s))) ∧
      (t.kind = kindLevel → t.body.length ≠ 1 →
        exec .level s = .next (beaconJudge s (answered t rest (.of .malformed) s))) ∧
      (t.kind = kindShow → (∀ i ∈ allInputs, t.body ≠ [byteOf (inputCode i)]) →
        exec .showInput s = .next (beaconJudge s (answered t rest (.of .malformed) s))) ∧
      (t.kind = kindCorners → t.body.length ≠ 12 →
        exec .corners s = .next (beaconJudge s (answered t rest (.of .malformed) s))) ∧
      (t.kind = kindLock → t.body.length ≠ 3 →
        exec .lock s = .next (beaconJudge s (answered t rest (.of .malformed) s))) ∧
      (∀ b m1 m0 : Byte, t.kind = kindLock → t.body = [b, m1, m0] →
        ((b &&& 0x1F = 0 ∨ b &&& 0x1F = 1 ∧ t.origin.toNat ≠ s.straps.number) →
          exec .lock s = .next (beaconJudge s (answered t rest (.of .malformed) s))) ∧
        (b &&& 0x1F ≠ 0 → t.origin.toNat = s.straps.number →
          exec .lock s = .next (beaconJudge s (disregarded t rest s)))) ∧
      (∀ v : Byte, t.kind = kindUnlock → t.body = [v] →
        (v.toNat = 0 ∨ 31 < v.toNat →
          exec .unlock s = .next (beaconJudge s (answered t rest (.of .malformed) s))) ∧
        (1 ≤ v.toNat → v.toNat ≤ 31 → t.origin.toNat = s.straps.number →
          exec .unlock s = .next (beaconJudge s (disregarded t rest s)))) ∧
      (t.kind = kindUnlock → t.body.length ≠ 1 →
        exec .unlock s = .next (beaconJudge s (answered t rest (.of .malformed) s))) ∧
      (t.kind = kindSlotPut → t.body.length ≠ 12 →
        exec .slotPut s = .next (beaconJudge s (answered t rest (.of .malformed) s))) ∧
      (∀ id wd s1 s0 e1 e0 k g1 g0 src lvl lead : Byte, t.kind = kindSlotPut →
        t.body = [id, wd, s1, s0, e1, e0, k, g1, g0, src, lvl, lead] →
          id = 0 ∨ wd &&& 0x7F = 0 ∨ g1 = 0 ∧ g0 &&& 0xFE = 0 ∨ 1439 < beNat [s1, s0] ∨
              beNat [e1, e0] ≤ beNat [s1, s0] ∨ 1440 < beNat [e1, e0] ∨ k = 0 ∨ 3 < k.toNat ∨ 6 < src.toNat →
            exec .slotPut s = .next (beaconJudge s (answered t rest (.of .malformed) s))) ∧
      (t.kind = kindSlotDrop → t.body = [0] →
        exec .slotDrop s = .next (beaconJudge s (answered t rest (.of .malformed) s))) ∧
      (t.kind = kindSlotDrop → t.body.length ≠ 1 →
        exec .slotDrop s = .next (beaconJudge s (answered t rest (.of .malformed) s))) ∧
      (t.kind = kindClearFault → t.body ≠ [] →
        exec .clearFault s = .next (beaconJudge s (answered t rest (.of .malformed) s))) ∧
      (t.kind = kindLampNew → directed s t = true → t.body ≠ [] →
        exec .lampNew s = .next (beaconJudge s (answered t rest (.of .malformed) s))) ∧
      (t.kind = kindRestart → t.body ≠ [] →
        exec .restart s = .next (beaconJudge s (answered t rest (.of .malformed) s)))

/-- GROUP_ON (R102 to R104): from OFF the mode is ON with cause REQUEST and the election is run; with the lamp in DARK,
the start conditions met by it and the own station elected, the lamp enters WAITING and hands over a CLAIM (R4, R5).
With the mode ON already nothing changes but the queues. It is answered TAKEN. -/
def Obligations.GroupOnTurnsTheGroupOn : Prop :=
  ∀ (s : State) (t : Telegram) (rest : List Telegram),
    Settled s → AtHead kindGroupOn t rest s → t.body = [] →
      passesCheck s.locks (.station t.origin.toNat) ⟨true, true, false, false, false⟩ = true →
        (s.group.mode = none → ∃ u, exec .groupOn s = .next u ∧
          u.group.mode = some .request ∧ u.group.levelOverride = s.group.levelOverride ∧
          u.group.slotLevel = s.group.slotLevel ∧ u.locks = s.locks ∧ answerQueued t (.of .taken) s u ∧
          outside u = outside (answered t rest (.of .taken) s) ∧
          (Alone s → ownAvailable s = true → electionTakesOwn s = true → s.lamp.state = .dark →
            anyFault s.lamp.faults = false → s.pins.supplyLow = false →
              u.group.selection = .elected ∧ u.lamp.state = .waiting ∧ u.lamp.attempts = 0 ∧
                u.lamp.relight = false ∧ u.lamp.coolDown = none ∧ u.lamp.renewal = some 4000 ∧
                (othersFilled s.line.queue + s.line.reserved < 6 → newEntry .claim ∈ u.line.queue)) ∧
          (ownAvailable s = false ∨ electionTakesOwn s = false → s.group.selection = .unselected →
            u.group.selection = .unselected ∧ u.lamp.state = s.lamp.state)) ∧
        (s.group.mode.isSome = true →
          exec .groupOn s = .next (beaconJudge s (answered t rest (.of .taken) s)))

/-- GROUP_OFF (R102 to R104, R13): the mode is OFF, the override cleared, the selection NONE, the growth reset; a lamp
that was wanted, the key switch not in SERVICE, is put out: LIT, WARMING and STRIKING to COOLING with both timers
started, WAITING to DARK without its claim. With the mode OFF already nothing changes but the queues. That a release
of the claim reserves no entry for a waiting head is the model's choice (log 46). -/
def Obligations.GroupOffTurnsTheGroupOff : Prop :=
  ∀ (s : State) (t : Telegram) (rest : List Telegram),
    Settled s → AtHead kindGroupOff t rest s → t.body = [] →
      passesCheck s.locks (.station t.origin.toNat) ⟨false, true, false, false, false⟩ = true →
        (s.group.mode.isSome = true → ∃ u, exec .groupOff s = .next u ∧
          u.group.mode = none ∧ u.group.levelOverride = none ∧ u.group.selection = .unselected ∧
          u.group.shortTimer = none ∧ u.group.growth = 0 ∧ u.group.slotLevel = s.group.slotLevel ∧
          answerQueued t (.of .taken) s u ∧ outside u = outside (answered t rest (.of .taken) s) ∧
          (inService s = false → wanted s = true →
            committedState u.lamp.state = false ∧
            (s.lamp.state = .waiting → u.lamp.state = .dark ∧ ownClaimed u = false) ∧
            (litSide s.lamp.state = true → u.lamp.state = .cooling ∧ u.lamp.relight = false ∧ u.lamp.actual = 0 ∧
              u.lamp.restrike = some (s.settings.restrike * 1000) ∧
              u.lamp.coolDown = some (s.settings.coolDown * 1000)))) ∧
        (s.group.mode = none →
          exec .groupOff s = .next (beaconJudge s (answered t rest (.of .taken) s)))

/-- LEVEL (R108, R109, R115): the override is the value brought into 10 to 200, the ANSWER is marked CLAMPED if that
changed it, and P is the ceiling of the level times 1024 over the committed sum, within P_min and the cap. -/
def Obligations.LevelSetsTheOverrideAndThePower : Prop :=
  ∀ (s : State) (t : Telegram) (rest : List Telegram) (v : Byte),
    Settled s → AtHead kindLevel t rest s → t.body = [v] →
      passesCheck s.locks (.station t.origin.toNat) ⟨false, true, false, false, false⟩ = true →
        ∃ u, exec .level s = .next u ∧
          u.group.levelOverride = some (max 10 (min 200 v.toNat)) ∧ u.group.mode = s.group.mode ∧
          u.group.slotLevel = s.group.slotLevel ∧
          u.group.unclamped =
            (max 10 (min 200 v.toNat) * 1024 + (sumF (committedPeers s) + s.geometry.f) - 1) /
              (sumF (committedPeers s) + s.geometry.f) ∧
          u.group.p = max s.settings.pMin (min s.lamp.cap u.group.unclamped) ∧
          answerQueued t ⟨.taken, decide (v.toNat < 10 ∨ 200 < v.toNat), []⟩ s u ∧
          outside u = outside (answered t rest (.of .taken) s) ∧ u.locks = s.locks

/-- SHOW (R124, R125, R130, R131, R133): the input is put on top of the source list, an entry of the same input removed,
four kept; while the selector is not SWITCHING and shows another input, a switch to it begins. While SWITCHING a push that
leaves the target in the list changes the list alone, and one that removes the target begins a new switch at once. Where a
select command stands among the records of a table being sent is the free value of log 26. -/
def Obligations.ShowPutsTheInputOnTop : Prop :=
  ∀ (s : State) (t : Telegram) (rest : List Telegram) (i : Input),
    Settled s → AtHead kindShow t rest s → t.body = [byteOf (inputCode i)] →
      passesCheck s.locks (.station t.origin.toNat) ⟨false, false, true, false, false⟩ = true →
        ∃ u, exec .showInput s = .next u ∧ PushedOnTop i (.station t.origin.toNat) s u ∧
          answerQueued t (.of .taken) s u ∧
          u.lamp = s.lamp ∧ u.wear = s.wear ∧ u.claims = s.claims ∧ u.group = s.group ∧ u.locks = s.locks ∧
          u.peers = s.peers ∧ u.clock = s.clock ∧ u.schedule = s.schedule

/-- CORNERS (R46, R47, R49, R54): the set is brought into range, the keystone value is 0, and the set is offered as an
edit: equal to the newest set it is discarded; with the engine IDLE computing starts under the next identity; else it
becomes the pending set. -/
def Obligations.CornersAreOfferedAsAnEdit : Prop :=
  ∀ (s : State) (t : Telegram) (rest : List Telegram) (c : CornerSet),
    Settled s → AtHead kindCorners t rest s → cornersOf t.body = some c →
      passesCheck s.locks (.station t.origin.toNat) ⟨false, false, false, true, false⟩ = true →
        let x := inRange s.straps.format c
        let g := { s.geometry with v := 0 }
        let r : Result := ⟨.taken, x != c, []⟩
        (x = newestSet s.geometry →
          exec .corners s = .next (beaconJudge s ((answered t rest r s).setGeometry g))) ∧
        (x ≠ newestSet s.geometry → s.geometry.state ≠ .idle →
          exec .corners s = .next
            (beaconJudge s ((answered t rest r s).setGeometry { g with pendingSet := some x }))) ∧
        (x ≠ newestSet s.geometry → s.geometry.state = .idle →
          exec .corners s = .next
            (beaconJudge s ((answered t rest r s).setGeometry
              { g with
                state := .computing, pendingSet := none, inFlight := some x, inFlightF := none
                inFlightId := some (nextIdentity s.geometry.lastId s.geometry.activeId)
                lastId := nextIdentity s.geometry.lastId s.geometry.activeId
                inFlightTable := none, linesSent := 0, loadWait := none, swapRepeat := none
                swapTimeout := none })))

/-- LOCK (R145, R146): from another station, scopes left after LAMP is taken out and none of them covered by a lock of
another holder: the lock replaces the origin's, with at most 720 minutes; else LOCKED and nothing changes. That it
stands last in the Lock Set, which R140 holds without order, is the model's choice (log 32). -/
def Obligations.LockIsAdded : Prop :=
  ∀ (s : State) (t : Telegram) (rest : List Telegram) (b m1 m0 : Byte),
    Settled s → LocksSafe s → AtHead kindLock t rest s → t.body = [b, m1, m0] →
      t.origin.toNat ≠ s.straps.number →
        let n := t.origin.toNat
        let m := beNat [m1, m0]
        let x : Scopes := ⟨false, b.getLsbD 1, b.getLsbD 2, b.getLsbD 3, b.getLsbD 4⟩
        let l : Lock := ⟨.station n, x, if m = 0 then none else some (min m 720)⟩
        let r : Result := ⟨.taken, b.getLsbD 0 || decide (720 < m), []⟩
        x ≠ .empty →
          ((s.locks.any fun k => k.holder != .station n && scopesMeet k.scopes x) = true →
            exec .lock s = .next (beaconJudge s (answered t rest (.of .locked) s))) ∧
          ((s.locks.any fun k => k.holder != .station n && scopesMeet k.scopes x) = false →
            (l ∈ s.locks → exec .lock s = .next (beaconJudge s (answered t rest r s))) ∧
            (l ∉ s.locks → exec .lock s = .next
              (beaconJudge s ((answered t rest r s).setLocks
                ((s.locks.filter fun k => k.holder != .station n) ++ [l])))))

/-- UNLOCK (R148), case by case: of the wrong length or value MALFORMED; from origin 0 or the own number disregarded;
naming another than its origin LOCKED; naming its origin it removes that station's lock, or is answered NO_ENTRY if there
is none. A timed lock loses a minute at each expiry of its minute timer, which runs on, and is removed at 0 (R147). -/
def Obligations.UnlockAndMinutesRemoveALock : Prop :=
  ∀ (s : State) (t : Telegram) (rest : List Telegram) (v : Byte) (n m : Nat) (l : Lock),
    Settled s → LocksSafe s →
      (s.line.requests = t :: rest → mayTake s t = true → t.kind = kindUnlock →
        (t.origin ≠ 0 → t.origin.toNat ≠ s.straps.number →
          (t.body.length ≠ 1 → exec .unlock s = .next (beaconJudge s (answered t rest (.of .malformed) s))) ∧
          (t.body = [v] → v.toNat = 0 ∨ 31 < v.toNat →
            exec .unlock s = .next (beaconJudge s (answered t rest (.of .malformed) s))) ∧
          (t.body = [v] → 1 ≤ v.toNat → v.toNat ≤ 31 → v ≠ t.origin →
            exec .unlock s = .next (beaconJudge s (answered t rest (.of .locked) s))) ∧
          (t.body = [v] → 1 ≤ v.toNat → v.toNat ≤ 31 → v = t.origin →
            ((lockOf s.locks (.station v.toNat)).isSome = true →
              exec .unlock s = .next
                (beaconJudge s ((answered t rest (.of .taken) s).setLocks
                  (s.locks.filter fun k => k.holder != .station v.toNat)))) ∧
            (lockOf s.locks (.station v.toNat) = none →
              exec .unlock s = .next (beaconJudge s (answered t rest (.of .noEntry) s))))) ∧
        (t.origin = 0 ∨ t.origin.toNat = s.straps.number → t.body = [v] → 1 ≤ v.toNat → v.toNat ≤ 31 →
          exec .unlock s = .next (beaconJudge s (disregarded t rest s)))) ∧
      (lockOf s.locks (.station n) = some l → l.minutes = some m →
        (m = 1 → exec (.lockMinuteTimerExpiry n) s = .next
          (beaconJudge s (s.setLocks (s.locks.filter fun k => k.holder != .station n)))) ∧
        (2 ≤ m → exec (.lockMinuteTimerExpiry n) s = .next
          (s.setLocks (s.locks.map fun k =>
            if k.holder = .station n then { k with minutes := some (m - 1) } else k))))

/-- SLOT_PUT and SLOT_DROP (R161, R162, R164, R165): a slot without the own group takes away the slot of its id (NO_ENTRY);
a 65th is refused (FULL); else it stands in its place in the order. While the clock is UNSURE the table alone changes; while
SURE a changed table is evaluated at once, and mode, slot level, SCHEDULE lock and source list follow (R107, R127; a select
command's place among the records of a table being sent is the free value of log 26); a table left as it was changes
nothing. -/
def Obligations.SlotsAreStored : Prop :=
  ∀ (s : State) (t : Telegram) (rest : List Telegram) (x : Slot) (id : Byte),
    Settled s → LocksSafe s → (isClosed s.schedule.heldEffective = true → s.schedule.heldOn = none) →
      (AtHead kindSlotPut t rest s → slotOf t.body = some x →
        let y := slotInRange x
        let kept := s.schedule.slots.filter fun z => z.id != y.id
        let put : List Slot × ResultCode :=
          if y.groups.getLsbD s.settings.group = false then (kept, .noEntry)
          else if (s.schedule.slots.any fun z => z.id == y.id) = true ∨ s.schedule.slots.length < 64 then
            (insertSlot y kept, .taken)
          else (s.schedule.slots, .full)
        let r : Result := ⟨put.2, put.2 == .taken && y != x, []⟩
        (s.clock.sure = none ∨ put.1 = s.schedule.slots → exec .slotPut s = .next
          (beaconJudge s ((answered t rest r s).setSchedule { s.schedule with slots := put.1 }))) ∧
        (s.clock.sure.isSome = true → put.1 ≠ s.schedule.slots → ∃ u, exec .slotPut s = .next u ∧
          Evaluated s.clock.minute put.1 s u ∧ answerQueued t r s u ∧ u.clock = s.clock)) ∧
      (AtHead kindSlotDrop t rest s → t.body = [id] → id ≠ 0 →
        let kept := s.schedule.slots.filter fun z => z.id != id.toNat
        ((s.schedule.slots.any fun z => z.id == id.toNat) = true →
          (s.clock.sure = none → exec .slotDrop s = .next
            (beaconJudge s ((answered t rest (.of .taken) s).setSchedule { s.schedule with slots := kept }))) ∧
          (s.clock.sure.isSome = true → ∃ u, exec .slotDrop s = .next u ∧
            Evaluated s.clock.minute kept s u ∧ answerQueued t (.of .taken) s u ∧ u.clock = s.clock)) ∧
        ((s.schedule.slots.any fun z => z.id == id.toNat) = false →
          exec .slotDrop s = .next (beaconJudge s (answered t rest (.of .noEntry) s))))

/-- CLEAR_FAULT (R23, R24): without a fault TAKEN and nothing changes; with every fault's condition gone the faults are
cleared and the lamp leaves FAULT, for COOLING while the restrike guard runs, and with the group OFF for COOLING while
the cool-down runs, else for DARK; with a condition left NOT_NOW, and for FAN with the fan off a fan test of 10 s
begins. -/
def Obligations.ClearFaultClears : Prop :=
  ∀ (s : State) (t : Telegram) (rest : List Telegram),
    Settled s → AtHead kindClearFault t rest s → t.body = [] →
      (anyFault s.lamp.faults = false →
        exec .clearFault s = .next (beaconJudge s (answered t rest (.of .taken) s))) ∧
      (s.lamp.state = .fault → anyFault s.lamp.faults = true → conditionsGone s = true → ∃ u,
        exec .clearFault s = .next u ∧ anyFault u.lamp.faults = false ∧
        outside u = outside (answered t rest (.of .taken) s) ∧ answerQueued t (.of .taken) s u ∧
        (s.lamp.faults.dropout = true → u.lamp.dropoutWindow = none) ∧
        (s.lamp.restrike.isSome = true → u.lamp.state = .cooling) ∧
        (s.lamp.restrike = none → s.group.mode = none →
          u.lamp.state = if s.lamp.coolDown.isSome = true then .cooling else .dark)) ∧
      (anyFault s.lamp.faults = true → conditionsGone s = false →
        (s.lamp.faults.fan = true → fanDriven s.lamp = false → ∃ u, exec .clearFault s = .next u ∧
          u.lamp.fanTest = some 10000 ∧ u.lamp.state = s.lamp.state ∧ u.lamp.faults = s.lamp.faults ∧
          outside u = outside (answered t rest (.of .notNow) s) ∧ answerQueued t (.of .notNow) s u) ∧
        ((s.lamp.faults.fan = false ∨ fanDriven s.lamp = true) →
          exec .clearFault s = .next (beaconJudge s (answered t rest (.of .notNow) s))))

/-- LAMP_NEW (R41, R42): addressed to the own number, with the key switch in SERVICE and the lamp in DARK, wear restarts
at 0 and is VALID, the WEAR lock goes and a write is requested; in another state NOT_NOW; otherwise addressed it is
disregarded. -/
def Obligations.LampNewRestartsWear : Prop :=
  ∀ (s : State) (t : Telegram) (rest : List Telegram),
    Settled s → SettingsSafe s.settings → AtHead kindLampNew t rest s →
      (directed s t = true → t.body = [] → inService s = true → s.lamp.state = .dark → ∃ u,
        exec .lampNew s = .next u ∧
        u.wear.accumulator = 0 ∧ u.wear.strikes = 0 ∧ u.wear.litTime = 0 ∧ u.wear.valid = true ∧
        u.wear.lifeHold = false ∧ u.locks = (s.locks.filter fun l => l.holder != .wear) ∧
        (s.wear.write = none → s.straps.memory = true → s.start.wearPlace.isSome = true →
          u.wear.write = some ⟨0, 0, 1⟩) ∧
        (s.wear.write.isSome = true → u.wear.write = s.wear.write ∧ u.wear.writeAgain = true) ∧
        u.lamp = s.lamp ∧ u.group = s.group ∧ u.claims = s.claims ∧ answerQueued t (.of .taken) s u ∧
        outside u = outside (answered t rest (.of .taken) s)) ∧
      (directed s t = true → t.body = [] → inService s = false ∨ s.lamp.state ≠ .dark →
        exec .lampNew s = .next (beaconJudge s (answered t rest (.of .notNow) s))) ∧
      (directed s t = false → exec .lampNew s = .next (beaconJudge s (takeHead t rest s)))

/-- RESTART (R178, R183): a directed one is answered TAKEN and its dispatch does nothing else; while its ANSWER waits
no further request is dispatched; undirected, and when the ANSWER to a directed one has been sent or dropped, the warm
reset is made. It leaves what the rules of the Hall Line (R178), Lamp (R28), Geometry (R62), Peer Table (R73), locks
(R153), Group Coordinator (R120), Source Selector (R139) and schedule (R167) say, as `ResetWarm` lists it. A telegram
being received is discarded; at a loss that is the winner's, from its first character on (log 31). A deferral of the
line runs on (log 44). How many records of a table had gone when its load is abandoned is the free value of log 26,
and the order of the blocks is the model's (log 38), and so is it that the sampling of the keypad keys is kept (log 47). -/
def Obligations.RestartResetsWarm : Prop :=
  ∀ (s : State) (t : Telegram) (rest : List Telegram) (a : Attempt) (e : QueueEntry) (n : Nat) (body : List Byte),
    Settled s →
      (restartWaits s.line = true → mayTake s t = false) ∧
      (AtHead kindRestart t rest s → t.body = [] → directed s t = true →
        exec .restart s = .next (beaconJudge s (answered t rest (.of .taken) s))) ∧
      (AtHead kindRestart t rest s → t.body = [] → directed s t = false →
        ∃ u, exec .restart s = .next u ∧ ResetWarm s u ∧ u.line.reading = discarded s.line.reading ∧
          u.line.idle = s.line.idle) ∧
      (s.line.attempt = some a → a.orphan = false → inSending s.line.queue = some e →
        e.payload = .answer n body true →
          (∃ u, exec .ownEcho s = .next u ∧ ResetWarm s u) ∧
          (e.withdrawn = false → 16 ≤ e.attempts →
            (∃ u, exec .loss s = .next u ∧ ResetWarm s u ∧ u.line.reading = .passing) ∧
            ∃ u, exec .lineFault s = .next u ∧ ResetWarm s u))

/-- QUERY (R43, R63, R152, R168, R177): addressed to the own number it is answered with the record of its selector,
NO_ENTRY for a slot not stored, MALFORMED without a selector, for another selector or for a wrong length; otherwise
addressed it is disregarded. Nothing changes but the queues. That a QUERY of no or of another selector is taken by any of
the four rows is the model's choice (log 13), and so is the order of the station locks in the LOCKS record (log 32). -/
def Obligations.QueriesAnswerTheRecord : Prop :=
  ∀ (s : State) (t : Telegram) (rest : List Telegram) (id v : Byte) (b : List Byte),
    Settled s → AtHead kindQuery t rest s →
      let other := t.body = [] ∨ t.body = v :: b ∧ v ≠ 1 ∧ v ≠ 2 ∧ v ≠ 3 ∧ v ≠ 4
      (directed s t = false →
        (t.body = 1 :: b ∨ other → exec .queryWear s = .next (beaconJudge s (takeHead t rest s))) ∧
        (t.body = 2 :: b ∨ other → exec .queryLocks s = .next (beaconJudge s (takeHead t rest s))) ∧
        (t.body = 3 :: b ∨ other → exec .querySlot s = .next (beaconJudge s (takeHead t rest s))) ∧
        (t.body = 4 :: b ∨ other → exec .queryCorners s = .next (beaconJudge s (takeHead t rest s)))) ∧
      (directed s t = true →
        (t.body = 1 :: b ∧ b ≠ [] ∨ other →
          exec .queryWear s = .next (beaconJudge s (answered t rest (.of .malformed) s))) ∧
        (t.body = 2 :: b ∧ b ≠ [] ∨ other →
          exec .queryLocks s = .next (beaconJudge s (answered t rest (.of .malformed) s))) ∧
        (t.body = 3 :: b ∧ b.length ≠ 1 ∨ other →
          exec .querySlot s = .next (beaconJudge s (answered t rest (.of .malformed) s))) ∧
        (t.body = 4 :: b ∧ b.length ≠ 1 ∨ t.body = [4, id] ∧ 2 < id.toNat ∨ other →
          exec .queryCorners s = .next (beaconJudge s (answered t rest (.of .malformed) s))) ∧
        (t.body = [1] → exec .queryWear s = .next
          (beaconJudge s (answered t rest ⟨.taken, false, wearRecord s⟩ s))) ∧
        (t.body = [2] → exec .queryLocks s = .next
          (beaconJudge s (answered t rest ⟨.taken, false, locksRecord s⟩ s))) ∧
        (t.body = [3, 0] → exec .querySlot s = .next
          (beaconJudge s (answered t rest ⟨.taken, false, byteOf 0 :: clockBytes s⟩ s))) ∧
        (t.body = [3, id] → id ≠ 0 → (s.schedule.slots.find? fun x => x.id == id.toNat) = none →
          exec .querySlot s = .next (beaconJudge s (answered t rest (.of .noEntry) s))) ∧
        (t.body = [3, id] → id ≠ 0 → (s.schedule.slots.find? fun x => x.id == id.toNat).isSome = true →
          exec .querySlot s = .next (beaconJudge s (answered t rest (slotAnswer id.toNat s) s)) ∧
            (slotAnswer id.toNat s).code = .taken) ∧
        (t.body = [4, id] → id.toNat ≤ 2 → exec .queryCorners s = .next
          (beaconJudge s (answered t rest ⟨.taken, false, cornersRecord id.toNat s⟩ s))))

/-! ### Peer View -/

/-- A beacon of another station that reads by 12.2 (R65 to R68): the first creates an entry HEARD with a confirm
window of 2.5 intervals, a later one makes the entry PRESENT with a presence timer of 1.5 intervals and no misses;
another body is disregarded. A beacon of the own number from elsewhere sets DUPLICATE for three intervals, or restarts
its timer (R76, R77): set, the lamp acts as for a withdrawn decision (R14) and the selection becomes NONE (R114). That
a release of the claim reserves no entry for a waiting head is the model's choice (log 46). -/
def Obligations.BeaconsAreReadOrSetDuplicate : Prop :=
  ∀ (s : State) (t : Telegram) (k : Nat) (info : PeerInfo),
    Settled s → Received kindBeacon t k s →
      (t.origin = 0 → exec (.beacon (signalsFrom k t)) s = .next (telegramIn s)) ∧
      (t.origin ≠ 0 → t.origin.toNat ≠ s.straps.number →
        (beaconOf t.body = some info → ∃ u, exec (.beacon (signalsFrom k t)) s = .next u ∧
          ((s.peers.any fun p => p.station == t.origin.toNat) = true →
            u.peers = s.peers.map fun p => if p.station = t.origin.toNat then
              ⟨p.station, info, .present, 0, some (1500 * info.interval)⟩ else p) ∧
          ((s.peers.any fun p => p.station == t.origin.toNat) = false →
            u.peers = s.peers ++ [⟨t.origin.toNat, info, .heard, 0, some (2500 * info.interval)⟩] ∧
              u.lamp = s.lamp ∧ u.group = s.group ∧ u.claims = s.claims) ∧
          outside u = outside ((telegramIn s).setPeers u.peers) ∧ u.locks = s.locks ∧ u.wear = s.wear ∧
          u.group.mode = s.group.mode ∧ u.group.levelOverride = s.group.levelOverride ∧
          u.lamp.faults = s.lamp.faults ∧ (burning s.lamp.state = true → u.lamp.state = s.lamp.state)) ∧
        (beaconOf t.body = none → exec (.beacon (signalsFrom k t)) s = .next (telegramIn s))) ∧
      (t.origin ≠ 0 → t.origin.toNat = s.straps.number →
        (isDuplicate s = false → ∃ u, exec (.beacon (signalsFrom k t)) s = .next u ∧
          u.listen = { s.listen with duplicate := some (3 * s.settings.interval * 1000) } ∧ u.peers = s.peers ∧
          u.group.selection = .unselected ∧ committedState u.lamp.state = false ∧
          (litSide s.lamp.state = true → u.lamp.state = .cooling ∧ u.lamp.relight = false) ∧
          (s.lamp.state = .waiting → u.lamp.state = .dark ∧ ownClaimed u = false) ∧
          u.lamp.faults = s.lamp.faults ∧ outside u = outside ((telegramIn s).setListen u.listen)) ∧
        (isDuplicate s = true → exec (.beacon (signalsFrom k t)) s = .next
          ((telegramIn s).setListen { s.listen with duplicate := some (3 * s.settings.interval * 1000) })))

/-- The expiry of a confirm window, and of a presence timer that reaches the miss limit, make a station LOST (R67, R69 to
R71): its entry, its lock (R149), its claim (R89) and its clock role (R159) go. Below the limit one miss is counted:
STALE, and the timer runs one interval. The line quality minute (R179) sets LINE_POOR at 20 or more troubles and clears
it below 5; when it clears, the miss limit falls back to 3 and the stations at 3 or more misses are LOST (R70). -/
def Obligations.MissesMakeAStationLost : Prop :=
  ∀ (s : State) (n : Nat) (p : Peer),
    Settled s → PeersSafe s →
      (peerOf n s.peers = some p → p.timer.isSome = true →
        (p.presence = .heard → ∃ u, exec (.confirmWindowExpiry n) s = .next u ∧
          u.peers = (s.peers.filter fun q => q.station != n) ∧ lockOf u.locks (.station n) = none ∧
          (∀ c ∈ u.claims, c.claimant ≠ n) ∧ u.clock.source ≠ some n ∧
          outside u = outside ((s.setPeers u.peers).setClock u.clock)) ∧
        (p.presence ≠ .heard → missLimit s ≤ p.misses + 1 → ∃ u, exec (.presenceTimerExpiry n) s = .next u ∧
          u.peers = (s.peers.filter fun q => q.station != n) ∧ lockOf u.locks (.station n) = none ∧
          (∀ c ∈ u.claims, c.claimant ≠ n) ∧ u.clock.source ≠ some n ∧
          outside u = outside ((s.setPeers u.peers).setClock u.clock)) ∧
        (p.presence ≠ .heard → p.misses + 1 < missLimit s → exec (.presenceTimerExpiry n) s = .next
          (s.setPeers (s.peers.map fun q => if q.station = n then
            ⟨q.station, q.info, .stale, q.misses + 1, some (1000 * q.info.interval)⟩ else q)))) ∧
      (s.line.minute.isSome = true →
        ∃ u, exec .lineQualityMinute s = .next u ∧
          u.line.poor = (if 20 ≤ s.line.count then true else if s.line.count < 5 then false else s.line.poor) ∧
          u.line.count = 0 ∧ u.line.minute = some 60000 ∧ u.line.requests = s.line.requests ∧
          (∀ p ∈ s.peers, p.presence = .heard ∨ p.misses < 3 → p ∈ u.peers) ∧
          (∀ p ∈ u.peers, p ∈ s.peers) ∧
          (u.line.poor = false → ∀ p ∈ u.peers, p.presence = .heard ∨ p.misses < 3) ∧
          (s.line.poor = false ∨ u.line.poor = true → u.peers = s.peers ∧ u.locks = s.locks ∧ u.claims = s.claims ∧
            u.lamp = s.lamp ∧ u.group = s.group ∧ u.clock = s.clock))

/-- FRESH and DUPLICATE end with their timers (R75, R78): the start is tested, and with the group ON the election runs
if the own station becomes available by it (R113). That the expiry of a stopped timer changes nothing is the model's choice
(log 1). -/
def Obligations.FreshAndDuplicateEnd : Prop :=
  ∀ (s : State),
    Settled s → Alone s →
      (s.listen.fresh.isSome = true →
        let v := s.setListen { s.listen with fresh := none }
        ∃ u, exec .freshEnd s = .next u ∧ outside u = outside v ∧ freshFlag u = false ∧ u.locks = s.locks ∧
          (s.lamp.state = .dark → startConditions v = true → u.lamp.state = .waiting ∧ u.lamp.renewal = some 4000 ∧
            (hasFree s.line = true → newEntry .claim ∈ u.line.queue)) ∧
          (s.group.mode.isSome = true → ownAvailable v = true → electionTakesOwn v = true →
            u.group.selection = .elected)) ∧
      (s.listen.duplicate.isSome = true →
        let v := s.setListen { s.listen with duplicate := none }
        ∃ u, exec .duplicateTimerExpiry s = .next u ∧ outside u = outside v ∧ isDuplicate u = false ∧
          u.locks = s.locks ∧
          (s.lamp.state = .dark → startConditions v = true → u.lamp.state = .waiting ∧ u.lamp.renewal = some 4000 ∧
            (hasFree s.line = true → newEntry .claim ∈ u.line.queue)) ∧
          (s.group.mode.isSome = true → ownAvailable v = true → electionTakesOwn v = true →
            u.group.selection = .elected)) ∧
      (s.listen.fresh = none → exec .freshEnd s = .next s) ∧
      (s.listen.duplicate = none → exec .duplicateTimerExpiry s = .next s)

/-- The beacon timer makes a beacon due (R79); the spacing's end releases a held beacon (R81); the claim renewal hands
over another CLAIM in WAITING and STRIKING, unless one still waits (R5). That a beacon falling due while one is sent stands
as due again (log 16), and that a CLAIM being sent is not one still waiting (log 17), is the model's reading. -/
def Obligations.BeaconAndClaimTimers : Prop :=
  ∀ (s : State),
    Settled s →
      (s.listen.beacon.isSome = true → exec .beaconTimerExpiry s = .next
        ((s.setListen { s.listen with beacon := none }).setLine
          (if (s.line.queue.any fun e => isBeacon e.payload) = true then
            { s.line with
              dueAgain := s.line.dueAgain || s.line.queue.any fun e => isBeacon e.payload && e.sending }
          else { s.line with queue := s.line.queue ++ [newEntry .beacon] }))) ∧
      exec .beaconSpacingExpiry s = .next (s.setListen { s.listen with spacing := none }) ∧
      (s.lamp.renewal.isSome = true → claiming s.lamp.state = true → exec .claimRenewal s = .next
        ((s.setLamp { s.lamp with renewal := some 4000 }).setLine
          (if (s.line.queue.any fun e => e.payload == .claim && !e.sending) = true ∨ hasFree s.line = false then s.line
          else { s.line with queue := s.line.queue ++ [newEntry .claim] })))

/-- A change of the lamp state, F, P, the power class, the shown input, the group mode, the lock summary or a flag makes
a beacon due (R80): after the step one stands in the send queue unsent, or is due again once the one being sent is out. -/
def Obligations.ChangesMakeABeaconDue : Prop :=
  ∀ (s t : State) (c : Instr),
    (∀ p, c ≠ .powerOn p) → exec c s = .next t → beaconCauses t ≠ beaconCauses s →
      (t.line.queue.any fun e => isBeacon e.payload && !e.sending) = true ∨
        t.line.dueAgain = true ∧ (t.line.queue.any fun e => isBeacon e.payload) = true

/-! ### Power circuits and strike claims -/

/-- The Claim List (R84 to R88): a CLAIM of another station on the own circuit joins at the end or is renewed in place;
a RELEASE, and the expiry of the age timer, take an entry away, after which the permission is judged again (R92): a lamp
in WAITING with permission strikes if nothing else holds it back (R6). A RELEASE that finds no entry is disregarded, and so
are a CLAIM and a RELEASE of another circuit, of the own number, of origin 0 or with a body (R85). That the expiry of an age
timer that does not run changes nothing is the model's choice (log 1). -/
def Obligations.ClaimListFollowsTheCircuit : Prop :=
  ∀ (s : State) (t : Telegram) (k n : Nat),
    Settled s →
      (Received kindClaim t k s →
          t.dest ≠ byteOf (128 + s.settings.circuit) ∨ t.body ≠ [] ∨ t.origin = 0 ∨ t.origin.toNat = s.straps.number →
        exec (.claim (signalsFrom k t)) s = .next (telegramIn s)) ∧
      (Received kindRelease t k s →
          t.dest ≠ byteOf (128 + s.settings.circuit) ∨ t.body ≠ [] ∨ t.origin = 0 ∨ t.origin.toNat = s.straps.number →
        exec (.release (signalsFrom k t)) s = .next (telegramIn s)) ∧
      (Received kindClaim t k s → claimTelegram s t = true → exec (.claim (signalsFrom k t)) s = .next
        ((telegramIn s).setClaims
          (if (s.claims.any fun c => c.claimant == t.origin.toNat) = true then
            s.claims.map fun c => if c.claimant = t.origin.toNat then ⟨c.claimant, some 12000⟩ else c
          else s.claims ++ [⟨t.origin.toNat, some 12000⟩]))) ∧
      (Received kindRelease t k s → claimTelegram s t = true → ∃ u, exec (.release (signalsFrom k t)) s = .next u ∧
        u.claims = (s.claims.filter fun c => c.claimant != t.origin.toNat) ∧
        outside u = outside (telegramIn s) ∧ u.locks = s.locks ∧ u.group = s.group ∧ PermissionJudged s u ∧
        ((s.claims.any fun c => c.claimant == t.origin.toNat) = false → u = telegramIn s)) ∧
      ((s.claims.any fun c => c.claimant == n && c.age.isSome) = true → ∃ u, exec (.ageTimerExpiry n) s = .next u ∧
        u.claims = (s.claims.filter fun c => c.claimant != n) ∧ outside u = outside s ∧
        u.locks = s.locks ∧ u.group = s.group ∧ PermissionJudged s u) ∧
      ((s.claims.any fun c => c.claimant == n && c.age.isSome) = false → exec (.ageTimerExpiry n) s = .next s)

/-! ### Lamp Control -/

/-- Lit sense in STRIKING (R7 to R9): the wait and the gap stop, the claim is released, and the lamp enters WARMING
with the warm-up timer and the ballast at the power cap. In another state it has no effect but the pin. That a release
reserves no entry for a waiting head is the model's choice (log 46). -/
def Obligations.LitSenseEntersWarming : Prop :=
  ∀ (s : State),
    Settled s →
      (inStrike s.lamp.state = true → exec .litSense s = .next
        (beaconJudge s
          ((((s.setPins { s.pins with litSense := true }).setClaims
              (s.claims.filter fun c => c.claimant != s.straps.number)).setLamp
            { s.lamp with
              state := .warming, litWait := none, retryGap := none, renewal := none, actual := s.lamp.cap
              warmUp := some (s.settings.warmUp * 1000) }).setLine
            (handOver .release (withdrawClaims s.line))))) ∧
      (inStrike s.lamp.state = false → exec .litSense s = .next (s.setPins { s.pins with litSense := true }))

/-- Loss of lit sense in WARMING or LIT (R12, R16): the first dropout puts the lamp to COOLING with relight-pending and a
window of 10 minutes, one within the window latches DROPOUT; lit time ends. In another state it has no effect. -/
def Obligations.DropoutsRelightOnce : Prop :=
  ∀ (s : State),
    Settled s →
      (burning s.lamp.state = true → s.lamp.dropoutWindow = none → ∃ u, exec .dropout s = .next u ∧
        u.lamp.state = .cooling ∧ u.lamp.dropoutWindow = some 600000 ∧ u.lamp.actual = 0 ∧ u.lamp.warmUp = none ∧
        u.lamp.restrike = some (s.settings.restrike * 1000) ∧ u.lamp.coolDown = some (s.settings.coolDown * 1000) ∧
        (Alone s → s.wear.lifeHold = false → u.lamp.relight = true) ∧
        u.lamp.faults = s.lamp.faults ∧ u.wear.litTime = 0 ∧ u.wear.accumulator = s.wear.accumulator ∧
        outside u = outside (s.setPins { s.pins with litSense := false })) ∧
      (burning s.lamp.state = true → s.lamp.dropoutWindow.isSome = true → ∃ u, exec .dropout s = .next u ∧
        u.lamp.state = .fault ∧ u.lamp.faults = { s.lamp.faults with dropout := true } ∧ u.lamp.actual = 0 ∧
        u.lamp.relight = false ∧ u.lamp.attempts = 0 ∧ u.group.selection = .unselected ∧
        u.lamp.restrike = some (s.settings.restrike * 1000) ∧ u.lamp.coolDown = some (s.settings.coolDown * 1000) ∧
        u.wear.litTime = 0 ∧ outside u = outside (s.setPins { s.pins with litSense := false })) ∧
      (burning s.lamp.state = false → exec .dropout s = .next (s.setPins { s.pins with litSense := false }))

/-- A fault latched (R17 to R21): a fan stall, supply-low in STRIKING, WARMING or LIT, a sample at or above T_shut: the
lamp enters FAULT with the cool-down at its full time, relight-pending and the attempt count cleared, the selection
NONE, an own claim released, and from STRIKING, WARMING or LIT an extinction. In FAULT already, the fault is added and
the cool-down starts again; a fan stall with FAN latched changes nothing (R20): the fan stall timer, of 5 s where it runs,
then runs again while its conditions hold, which is the model's reading (log 27). That a release of the claim
reserves no entry for a waiting head is the model's choice (log 46). -/
def Obligations.FaultsPutTheLampOut : Prop :=
  ∀ (s : State) (reading : Sensor),
    Settled s →
      (s.lamp.fanStall.isSome = true → s.lamp.faults.fan = false → ∃ u, exec .fanStall s = .next u ∧
        u.lamp.faults = { s.lamp.faults with fan := true } ∧ outside u = outside s ∧ u.lamp.state = .fault ∧
        u.lamp.coolDown = some (s.settings.coolDown * 1000) ∧ (s.lamp.state ≠ .fault → FaultEntered s u)) ∧
      (s.lamp.faults.fan = true → (∀ n ∈ s.lamp.fanStall, n = 5000) → exec .fanStall s = .next s) ∧
      (litSide s.lamp.state = true → ∃ u, exec .supplyLowAsserted s = .next u ∧
        u.lamp.faults = { s.lamp.faults with supply := true } ∧ FaultEntered s u ∧
        outside u = outside (s.setPins { s.pins with supplyLow := true })) ∧
      (litSide s.lamp.state = false → exec .supplyLowAsserted s = .next
        (s.setPins { s.pins with supplyLow := true })) ∧
      (s.settings.tShut ≤ sampleOf reading → ∃ u, exec (.temperatureSample reading) s = .next u ∧
        u.lamp.faults = { s.lamp.faults with thermal := true } ∧ outside u = outside s ∧ u.lamp.state = .fault ∧
        u.lamp.coolDown = some (s.settings.coolDown * 1000) ∧ (s.lamp.state ≠ .fault → FaultEntered s u) ∧
        u.lamp.temperature = sampleOf reading)

/-- A strike attempt begins (R6 to R8): from WAITING when permission, a RUNNING tachometer and released supply-low
come together, from the retry gap at its end or as soon after as the tachometer is RUNNING: counted, reported to the
Wear Accountant as 18,000 units and one strike (R31), with a lit-sense wait of 5 s. It fails (R7) at the end of that
wait, or at once when the tachometer stalls: before the third the retry gap of 10 s with the claim kept, at the third
NO_STRIKE, which enters FAULT (R21). That the expiry of a stopped lit-sense wait changes nothing is the model's choice
(log 1). That a release of the claim reserves no entry for a waiting head is the model's choice (log 46). -/
def Obligations.StrikeAttemptsBeginAndFail : Prop :=
  ∀ (s : State),
    Settled s →
      (s.lamp.state = .waiting → permission s = true → s.pins.supplyLow = false →
        ∃ u, exec .tachometerRunning s = .next u ∧ StrikeBegun s u ∧
          outside u = outside (s.setPins { s.pins with tacho := .running })) ∧
      (s.lamp.state = .waiting → permission s = true → s.pins.tacho = .running →
        ∃ u, exec .supplyLowReleased s = .next u ∧ StrikeBegun s u ∧
          outside u = outside (s.setPins { s.pins with supplyLow := false })) ∧
      (s.lamp.state = .striking .gap → s.pins.tacho = .running → s.lamp.retryGap.isSome = true →
        ∃ u, exec .retryGapExpiry s = .next u ∧ StrikeBegun s u ∧ outside u = outside s) ∧
      (s.lamp.state = .striking .gap → s.pins.tacho ≠ .running →
        exec .retryGapExpiry s = .next (s.setLamp { s.lamp with retryGap := none })) ∧
      (s.lamp.state = .striking .gap → s.lamp.retryGap = none →
        ∃ u, exec .tachometerRunning s = .next u ∧ StrikeBegun s u ∧
          outside u = outside (s.setPins { s.pins with tacho := .running })) ∧
      (s.lamp.state = .striking .attempt →
        (s.lamp.litWait.isSome = true →
          (s.lamp.attempts < 3 → ∃ u, exec .litSenseWaitExpiry s = .next u ∧ GapEntered s u ∧
            outside u = outside s) ∧
          (3 ≤ s.lamp.attempts → ∃ u, exec .litSenseWaitExpiry s = .next u ∧ FaultEntered s u ∧
            u.lamp.faults = { s.lamp.faults with noStrike := true } ∧ outside u = outside s)) ∧
        (s.lamp.litWait = none → exec .litSenseWaitExpiry s = .next s) ∧
        (s.lamp.attempts < 3 → ∃ u, exec .tachometerStalled s = .next u ∧ GapEntered s u ∧
          outside u = outside (s.setPins { s.pins with tacho := .stalled })) ∧
        (3 ≤ s.lamp.attempts → ∃ u, exec .tachometerStalled s = .next u ∧ FaultEntered s u ∧
          u.lamp.faults = { s.lamp.faults with noStrike := true } ∧
          outside u = outside (s.setPins { s.pins with tacho := .stalled })))

/-- The end of warm-up enters LIT with the target set (R9, R10); a ramp step in LIT moves the power by one point toward
the target (R10); the dropout window ends with its timer (R16); the fan test ends and the fan follows R2 again (R23). That
WARM_UP_EXPIRY changes nothing with the timer stopped is the model's choice (log 1). -/
def Obligations.WarmUpRampAndWindows : Prop :=
  ∀ (s : State),
    Settled s →
      (s.lamp.state = .warming → s.lamp.warmUp.isSome = true → exec .warmUpExpiry s = .next
        (beaconJudge s (s.setLamp
          { s.lamp with
            state := .lit, warmUp := none, target := max s.settings.pMin (min s.lamp.cap s.lamp.heldP) }))) ∧
      (s.lamp.state ≠ .warming ∨ s.lamp.warmUp = none → exec .warmUpExpiry s = .next s) ∧
      (s.lamp.state = .lit → exec .rampStep s = .next
        (beaconJudge s (s.setLamp
          { s.lamp with
            actual := if s.lamp.actual < s.lamp.target then s.lamp.actual + 1
              else if s.lamp.target < s.lamp.actual then s.lamp.actual - 1 else s.lamp.actual }))) ∧
      (s.lamp.state ≠ .lit → exec .rampStep s = .next s) ∧
      exec .dropoutWindowExpiry s = .next (s.setLamp { s.lamp with dropoutWindow := none }) ∧
      (∃ u, exec .fanTestExpiry s = .next u ∧
        u = s.setLamp { s.lamp with fanTest := none, fanStall := u.lamp.fanStall } ∧
        (fanDriven u.lamp = true → u.lamp.fanStall = s.lamp.fanStall) ∧
        (fanDriven u.lamp = false → u.lamp.fanStall = none))

/-- A whole second in WARMING or LIT (R11, R30): the accumulator grows by the actual power and saturates; the 360th
requests a write of the record and the lit time starts again (R36); the life hold is set when the life limit is reached
(R39). In other states nothing changes. -/
def Obligations.LitSecondsWearTheLamp : Prop :=
  ∀ (s : State),
    Settled s →
      let a := min (s.wear.accumulator + s.lamp.actual) 1099511627775
      (burning s.lamp.state = true → ∃ u, exec .litSecond s = .next u ∧
        u.wear.accumulator = a ∧ u.wear.strikes = s.wear.strikes ∧ u.wear.valid = s.wear.valid ∧
        u.wear.litTime = (if s.wear.litTime + 1 < 360 then s.wear.litTime + 1 else 0) ∧
        u.wear.lifeHold = (s.wear.lifeHold || s.wear.valid && decide (s.settings.life ≤ a / 360000)) ∧
        (s.wear.litTime + 1 < 360 → u.wear.write = s.wear.write ∧ u.wear.writeAgain = s.wear.writeAgain) ∧
        (360 ≤ s.wear.litTime + 1 → s.wear.valid = true → s.wear.write = none → canWrite s = true →
          u.wear.write = some ⟨a, s.wear.strikes, 1⟩) ∧
        (360 ≤ s.wear.litTime + 1 → s.wear.valid = true → s.wear.write.isSome = true →
          u.wear.write = s.wear.write ∧ u.wear.writeAgain = true) ∧
        u.lamp = s.lamp ∧ u.group = s.group ∧ u.locks = s.locks ∧ u.claims = s.claims ∧ outside u = outside s) ∧
      (burning s.lamp.state = false → exec .litSecond s = .next s)

/-- The ends of the cool-down and of the restrike guard (R15, R22). In COOLING with both ended the lamp enters DARK, where
the start is tested; the guard's end with relight-pending and the start conditions met enters WAITING, else it clears
relight-pending. In FAULT and DARK a timer only stops. That the expiry of a stopped timer changes nothing is the model's
choice (log 1). -/
def Obligations.CoolDownAndGuardEnd : Prop :=
  ∀ (s : State),
    Settled s →
      (s.lamp.coolDown.isSome = true → ∃ u, exec .coolDownExpiry s = .next u ∧ u.lamp.coolDown = none ∧
        u.lamp.restrike = s.lamp.restrike ∧ u.lamp.faults = s.lamp.faults ∧ outside u = outside s ∧
        (s.lamp.state = .cooling → s.lamp.restrike = none → startConditions s = false → u.lamp.state = .dark) ∧
        (s.lamp.state = .cooling → s.lamp.restrike = none → startConditions s = true → Alone s →
          u.lamp.state = .waiting) ∧
        (s.lamp.state ≠ .cooling ∨ s.lamp.restrike.isSome = true → u.lamp.state = s.lamp.state)) ∧
      (s.lamp.coolDown = none → exec .coolDownExpiry s = .next s) ∧
      (s.lamp.restrike.isSome = true → ∃ u, exec .restrikeGuardExpiry s = .next u ∧ u.lamp.restrike = none ∧
        u.lamp.faults = s.lamp.faults ∧ outside u = outside s ∧
        (s.lamp.state = .cooling → s.lamp.relight = true → startConditions s = true → Alone s →
          u.lamp.state = .waiting ∧ u.lamp.relight = false ∧ u.lamp.coolDown = none ∧
            u.lamp.renewal = some 4000) ∧
        (s.lamp.state = .cooling → s.lamp.relight = false ∨ startConditions s = false →
          u.lamp.relight = false ∧
            (s.lamp.coolDown.isSome = true → u.lamp.state = .cooling ∧ u.lamp.coolDown = s.lamp.coolDown) ∧
            (s.lamp.coolDown = none → startConditions s = false → u.lamp.state = .dark)) ∧
        (s.lamp.state = .fault ∨ s.lamp.state = .dark → u.lamp.state = s.lamp.state)) ∧
      (s.lamp.restrike = none → exec .restrikeGuardExpiry s = .next s)

/-- A temperature sample below T_shut (R17): the cap is 70 from T_warn on, 100 again at 5 below it, else as it stands;
in WARMING the power follows the cap, in LIT a reduction acts at once (R9, R10); a broken sensor reads 150. -/
def Obligations.SamplesSetThePowerCap : Prop :=
  ∀ (s : State) (d : Int),
    Settled s → SettingsSafe s.settings →
      let x := min 150 d.toNat
      let cap := if s.settings.tWarn ≤ x then 70 else if x + 5 ≤ s.settings.tWarn then 100 else s.lamp.cap
      (x < s.settings.tShut → ∃ u, exec (.temperatureSample (.celsius d)) s = .next u ∧
        u.lamp.temperature = x ∧ u.lamp.cap = cap ∧ u.lamp.faults = s.lamp.faults ∧
        (s.lamp.state = .warming → u.lamp.state = .warming ∧
          u.lamp.actual = if cap = s.lamp.cap then s.lamp.actual else cap) ∧
        (s.lamp.state = .lit → u.lamp.state = .lit ∧
          u.lamp.actual = if cap = s.lamp.cap then s.lamp.actual else min s.lamp.actual cap) ∧
        (cap = s.lamp.cap → u = s.setLamp { s.lamp with temperature := x }) ∧
        u.group.p = max s.settings.pMin (min cap u.group.unclamped) ∧
        outside u = outside s ∧ u.locks = s.locks ∧ u.wear = s.wear) ∧
      exec (.temperatureSample .openCircuit) s = exec (.temperatureSample (.celsius 150)) s ∧
      exec (.temperatureSample .shorted) s = exec (.temperatureSample (.celsius 150)) s

/-! ### Lamp Wear -/

/-- A write of the record (R37, R38): a read-back equal to the record written ends it OK; a different one, or no answer
in 100 ms, fails the attempt: the second starts with the values of the moment, after it the outcome is FAILED. Write
again starts the next at once. Zone 6 holds what was read back, no other byte changes (log 20). -/
def Obligations.WritesOfTheWearRecord : Prop :=
  ∀ (s : State) (w : RecordWrite) (a : Nat) (bytes : List Byte),
    Settled s → s.wear.write = some w → s.start.wearPlace = some a → s.straps.memory = true → bytes.length = 10 →
      Memory.wf s.serial = true → a + 10 ≤ 512 →
        let serial := Memory.writeBytes s.serial a bytes
        let next : Option RecordWrite :=
          if s.wear.writeAgain = true then some ⟨s.wear.accumulator, s.wear.strikes, 1⟩ else none
        (bytes = recordBytes w.accumulator w.strikes → exec (.writeCompletion bytes) s = .next
          ((s.setSerial serial).setWear { s.wear with write := next, writeAgain := false, outcome := .ok })) ∧
        (bytes ≠ recordBytes w.accumulator w.strikes → w.attempt = 1 →
          exec (.writeCompletion bytes) s = .next ((s.setSerial serial).setWear
            { s.wear with write := some ⟨s.wear.accumulator, s.wear.strikes, 2⟩ })) ∧
        (bytes ≠ recordBytes w.accumulator w.strikes → w.attempt ≠ 1 →
          exec (.writeCompletion bytes) s = .next ((s.setSerial serial).setWear
            { s.wear with write := next, writeAgain := false, outcome := .failed })) ∧
        (w.attempt = 1 → exec (.writeTimeout bytes) s = .next ((s.setSerial serial).setWear
          { s.wear with write := some ⟨s.wear.accumulator, s.wear.strikes, 2⟩ })) ∧
        (w.attempt ≠ 1 → exec (.writeTimeout bytes) s = .next ((s.setSerial serial).setWear
          { s.wear with write := next, writeAgain := false, outcome := .failed })) ∧
        (∀ k : Fin 512, k.val < a ∨ a + 10 ≤ k.val → Memory.read serial k.val = Memory.read s.serial k.val) ∧
        (∀ k : Fin 10, Memory.read serial (a + k.val) = bytes.getD k.val 0)

/-! ### Geometry Engine -/

/-- Loading a table (R54 to R57, R59): the computation's end starts attempt 1, the records go on the link in order from
line 0 with the identity and the attempt, the last one sent starts the wait of 100 ms, the acknowledgement of this identity
and attempt requests the swap with its repeat and its timeout. A refusal or the end of the wait sends the table again from
line 0 once; the second time the load has failed and the set waits as the pending set. Reports of another identity or
attempt are disregarded. How many records have gone when a report comes before the last is sent is the free value of log
26; that such a report is taken all the same, and that LOAD_SENT again changes nothing, is the model's reading (log 25). -/
def Obligations.TablesAreLoaded : Prop :=
  ∀ (s : State) (c : CornerSet) (id i n : Nat),
    Settled s → s.geometry.inFlight = some c → s.geometry.inFlightId = some id →
      let g := s.geometry
      let sent (m : Nat) := recordsBetween g g.linesSent m
      let failed := { g with
        state := .idle, pendingSet := if g.pendingSet.isSome then g.pendingSet else some c, inFlight := none
        inFlightId := none, inFlightF := none, inFlightTable := none, linesSent := 0, failure := true, loadWait := none }
      (g.state = .computing → exec .computationEnd s = .next
        (s.setGeometry
          { g with
            state := .loading, attempt := 1, loadWait := none, linesSent := 0
            inFlightTable := some (warpTable s.straps.format c)
            inFlightF := some (lightFraction s.straps.format c) })) ∧
      (∀ table, g.inFlightTable = some table →
        recordsBetween g 0 (tableLength g) = recordMessages id g.attempt 0 table ∧
        (∀ y : Nat, (recordMessages id g.attempt 0 table)[y]? =
          table[y]?.map fun r => .record id g.attempt y r) ∧
        ∀ a b : Nat, a ≤ b → recordsBetween g 0 a ++ recordsBetween g a b = recordsBetween g 0 b) ∧
      (g.state = .loading → g.loadWait = none → g.linesSent ≤ tableLength g →
        exec .loadSent s = .next
          ((s.setGeometry { g with loadWait := some 100, linesSent := tableLength g }).setScalerLink
            (s.scalerLink ++ sent (tableLength g)))) ∧
      (g.state ≠ .loading ∨ g.loadWait.isSome = true → exec .loadSent s = .next s) ∧
      (g.state = .loading → ∃ m k, RecordsGone g m ∧ exec (.loadAcknowledgement id g.attempt) s = .next
        ((s.setGeometry
          { g with
            state := .swapWait, loadWait := none, swapRepeat := some 100, swapTimeout := some 1000
            linesSent := m, linkDraws := k }).setScalerLink
          (s.scalerLink ++ sent m ++ [.swapRequest id]))) ∧
      (g.state = .loading → g.attempt = 1 →
        (∃ m k, RecordsGone g m ∧ exec (.loadRefusal id 1) s = .next
          ((s.setGeometry { g with attempt := 2, linesSent := 0, loadWait := none, linkDraws := k }).setScalerLink
            (s.scalerLink ++ sent m))) ∧
        (g.loadWait.isSome = true → exec .loadWaitExpiry s = .next
          (s.setGeometry { g with attempt := 2, linesSent := 0, loadWait := none }))) ∧
      (g.state = .loading → g.attempt = 2 →
        (∃ m k, RecordsGone g m ∧ exec (.loadRefusal id 2) s = .next
          (beaconJudge s ((s.setGeometry { failed with linkDraws := k }).setScalerLink (s.scalerLink ++ sent m)))) ∧
        (g.loadWait.isSome = true → exec .loadWaitExpiry s = .next (beaconJudge s (s.setGeometry failed)))) ∧
      (g.state ≠ .loading ∨ i ≠ id ∨ n ≠ g.attempt →
        exec (.loadAcknowledgement i n) s = .next s ∧ exec (.loadRefusal i n) s = .next s)

/-- The swap (R57 to R59): the report of the in-flight identity makes its set active, its F the published F, and clears
geometry failure; a pending set is computed next. Without a report the request is repeated each 100 ms, and after 1 s
geometry failure is set. A report of another identity is disregarded. -/
def Obligations.SwapsTakeTheTableIntoUse : Prop :=
  ∀ (s : State) (c : CornerSet) (id f i : Nat),
    Settled s → s.geometry.state = .swapWait → s.geometry.inFlight = some c → s.geometry.inFlightId = some id →
      s.geometry.inFlightF = some f →
        let done := { s.geometry with
          state := .idle, active := c, activeId := id, f := f, inFlight := none, inFlightId := none
          inFlightF := none, inFlightTable := none, linesSent := 0, failure := false, refreshDue := false
          swapRepeat := none, swapTimeout := none }
        (∃ u, exec (.swapReport id) s = .next u ∧
          (s.geometry.pendingSet = none → u.geometry = done) ∧
          (∀ x ∈ s.geometry.pendingSet, u.geometry =
            { done with
              state := .computing, pendingSet := none, inFlight := some x
              inFlightId := some (nextIdentity s.geometry.lastId id), lastId := nextIdentity s.geometry.lastId id
              loadWait := none }) ∧
          outside u = outside (s.setGeometry u.geometry) ∧ u.locks = s.locks ∧ u.wear = s.wear ∧
          u.group.mode = s.group.mode ∧
          u.group.unclamped = (targetLevel s * 1024 + (sumF (committedPeers s) + f) - 1) /
            (sumF (committedPeers s) + f)) ∧
        (i ≠ id → exec (.swapReport i) s = .next s) ∧
        (s.geometry.swapRepeat.isSome = true → exec .swapRequestRepeat s = .next
          ((s.setGeometry { s.geometry with swapRepeat := some 100 }).setScalerLink
            (s.scalerLink ++ [.swapRequest id]))) ∧
        (s.geometry.swapTimeout.isSome = true → exec .swapWaitTimeout s = .next
          (beaconJudge s (s.setGeometry { s.geometry with failure := true, swapTimeout := none })))

/-- The warp table and the light fraction (R50 to R53). A quotient is rounded to the nearest whole number, halves away from
zero. For a set in range the table has one record for each output line: blank and of zeros above the first and below the last
picture line; else the edges, the source line and the step by their formulas, within their bounds, from the top pulls to
the bottom pulls, mirrored for mirrored pulls. The area is the sum of the picture lines' widths, F the whole part of its
share of the panel in 1024ths, from 256 to 1024, and 1024 for the plain set alone. The end of a computation keeps both for
the set in flight, and the published F stays. -/
def Obligations.LightFractionRange : Prop :=
  (∀ (num : Int) (den : Nat), 0 < den →
    roundQuot (-num) den = -roundQuot num den ∧
    (0 ≤ num → 2 * roundQuot num den * den ≤ 2 * num + den ∧
      2 * num + den < 2 * roundQuot num den * den + 2 * den)) ∧
  (∀ (fmt : Fin 4) (c : CornerSet), inRange fmt c = c →
    let w : Int := panelWidth fmt
    let h : Int := panelHeight fmt
    let n : Int := h - 1 - c.bot - c.top
    (∀ y : Nat, y < panelHeight fmt → ∃ r ∈ (warpTable fmt c)[y]?,
      (y < c.top ∨ h - 1 - c.bot < y → r = ⟨true, 0, 0, 0, 0⟩) ∧
      (c.top ≤ y → y ≤ h - 1 - c.bot →
        let t : Int := y - c.top
        r.blank = false ∧ r.xl = c.lt + roundQuot ((c.lb - c.lt) * t) n.toNat ∧
        r.xr = (w - 1 - c.rt) + roundQuot ((c.rt - c.rb) * t) n.toNat ∧ r.source = roundQuot (t * (h - 1)) n.toNat ∧
        r.step = roundQuot (4096 * (w - 1)) (r.xr - r.xl).toNat ∧
        0 ≤ r.xl ∧ r.xl ≤ w / 4 ∧ w - 1 - w / 4 ≤ r.xr ∧ r.xr ≤ w - 1 ∧ w / 2 - 1 ≤ r.xr - r.xl ∧
        0 ≤ r.source ∧ r.source ≤ h - 1 ∧ 4096 ≤ r.step ∧ r.step ≤ 8198 ∧
        (y = c.top → r.xl = c.lt ∧ r.xr = w - 1 - c.rt ∧ r.source = 0) ∧
        (y = h - 1 - c.bot → r.xl = c.lb ∧ r.xr = w - 1 - c.rb ∧ r.source = h - 1) ∧
        (c.top = 0 → c.bot = 0 → r.source = y) ∧ (c.lt = c.rt → c.lb = c.rb → r.xr = w - 1 - r.xl))) ∧
    (warpTable fmt c).length = panelHeight fmt ∧
    let area : Int := ((warpTable fmt c).map fun r => if r.blank = true then 0 else r.xr - r.xl + 1).sum
    w * h ≤ 4 * area ∧ area ≤ w * h ∧ (lightFraction fmt c : Int) = 1024 * area / (w * h) ∧
      256 ≤ lightFraction fmt c ∧ lightFraction fmt c ≤ 1024 ∧
      (lightFraction fmt c = 1024 ↔ c = ⟨0, 0, 0, 0, 0, 0⟩)) ∧
  (∀ (s : State) (c : CornerSet), Settled s → s.geometry.state = .computing → s.geometry.inFlight = some c →
    ∃ u, exec .computationEnd s = .next u ∧ u.geometry.inFlightTable = some (warpTable s.straps.format c) ∧
      u.geometry.inFlightF = some (lightFraction s.straps.format c) ∧ u.geometry.f = s.geometry.f)

/-! ### Source Selection -/

/-- A sample of the presence lines (R122, R123, R128 to R131, R137): each input is debounced over three samples. The top
entry's gain, or its settling to PRESENT, clears top passed. After a change the wanted input is judged anew while the
selector is not SWITCHING: the shown input's loss starts the hold, its gain ends HOLDING and NO_SIGNAL in SHOWING; a higher
entry that gains is switched to, and with top passed set so is a lower one that is shown at NO_SIGNAL's end. While SWITCHING
the switch goes on (R132). A lower shown entry that loses its presence in SHOWING with the top passed is judged by R129 and
R130, so that a switch may begin where table 7.11 has a hold started: that the rules go before the table is the model's
reading (log 24). Without a change nothing else happens. With signal wake, a gain of a listed input while the group
is OFF, passing the lock check, turns the group ON with cause SIGNAL and tells the group. That all six are debounced before
any is handed on is the model's reading (log 23); where a select command stands among the records of a table being sent is
the free value of log 26. -/
def Obligations.PresenceIsDebounced : Prop :=
  ∀ (s : State) (lines : Six Bool),
    Settled s →
      let new := sixZip senseSample s.source.inputs lines
      let changed := allInputs.any fun i => (sixGet s.source.inputs i).presence != (sixGet new i).presence
      let topRises := (topInput s).any fun i =>
        (sixGet s.source.inputs i).presence != .present && (sixGet new i).presence == .present
      let v := s.setSource { s.source with inputs := new, topPassed := s.source.topPassed && !topRises }
      (∀ i ∈ allInputs, Debounced (sixGet s.source.inputs i) (sixGet new i) (sixGet lines i)) ∧
      (∃ u, exec (.presenceSample lines) s = .next u ∧ u.source.inputs = new ∧ u.source.list = s.source.list ∧
        u.source.topPassed = v.source.topPassed ∧ u.locks = s.locks ∧
        (changed = true → s.source.state ≠ .switching → Judged (wantedEntry v.source.hold.isSome v) v u) ∧
        (s.source.state = .switching → u.source = { v.source with idle := u.source.idle } ∧
          u.scalerLink = s.scalerLink ∧ u.geometry = s.geometry) ∧
        (s.source.state = .showing → s.source.topPassed = false → s.source.shown = topInput s →
          s.source.hold = none → s.source.shown ≠ none → shownPresent s = true → shownPresent u = false →
            u.source.state = .holding ∧ u.source.hold = some (s.settings.hold * 1000) ∧
              u.source.shown = s.source.shown) ∧
        (s.settings.signalWake = true → s.group.mode = none →
          (s.source.list.any fun e => gained (sixGet s.source.inputs e.input) (sixGet new e.input)) = true →
          passesCheck s.locks .signal ⟨true, true, false, false, false⟩ = true →
            u.group.mode = some .signal ∧
              (othersFilled s.line.queue + s.line.reserved < 6 →
                newEntry (.request kindGroupOn []) ∈ u.line.queue))) ∧
      (changed = false → exec (.presenceSample lines) s = .next (s.setSource { s.source with inputs := new }))

/-- The end of a switch (R132): a lock report of the target, or the switch timer, with the target the wanted input:
SHOWING if it is present, else HOLDING with the hold timer; another lock report is disregarded. With the wanted input
changed during the switch, a switch to it begins at once. The hold timer's end on the absent top input (R129, R134): the top
is passed; the first present entry is switched to, and with none present the top stays in NO_SIGNAL. Its end on a lower
entry, no longer protected: the first present entry is switched to, or the top, and top passed stays. With the top passed, a
switch to it that ends on no signal has the same two outcomes: that R128 goes before the protection of 7.4 there is the
model's reading (log 43). Where a select command stands among the records of a table being sent is the free value of log
26. -/
def Obligations.SwitchesAndHoldsEnd : Prop :=
  ∀ (s : State) (i j : Input),
    Settled s →
      (s.source.state = .switching → s.source.shown = some i → s.source.hold = none →
        topInput s = some i → s.source.topPassed = false →
          let done := s.setSource
            (if inputPresent s i = true then { s.source with hold := none, switch := none, state := .showing }
            else { s.source with hold := some (s.settings.hold * 1000), switch := none, state := .holding })
          exec (.lockReport i) s = .next done ∧
          (s.source.switch.isSome = true → exec .switchTimerExpiry s = .next done) ∧
          (j ≠ i → exec (.lockReport j) s = .next s)) ∧
      (∀ e rest, s.source.state = .switching → s.source.shown = some i → s.source.topPassed = false →
        s.source.list = e :: rest → e.input ≠ i →
          (∃ u, exec (.lockReport i) s = .next u ∧ SwitchBegun e s u) ∧
          (s.source.switch.isSome = true → ∃ u, exec .switchTimerExpiry s = .next u ∧ SwitchBegun e s u)) ∧
      (s.source.state = .switching → s.source.shown = some i → s.source.hold = none → topInput s = some i →
        s.source.topPassed = true → inputPresent s i = false →
          (∀ e ∈ s.source.list.find? fun e => inputPresent s e.input,
            (∃ u, exec (.lockReport i) s = .next u ∧ SwitchBegun e s u) ∧
            (s.source.switch.isSome = true → ∃ u, exec .switchTimerExpiry s = .next u ∧ SwitchBegun e s u)) ∧
          ((s.source.list.find? fun e => inputPresent s e.input) = none →
            let dark := s.setSource { s.source with switch := none, state := .noSignal }
            exec (.lockReport i) s = .next dark ∧
              (s.source.switch.isSome = true → exec .switchTimerExpiry s = .next dark))) ∧
      (∀ e rest, s.source.state = .switching → s.source.shown = some i → s.source.hold = none →
        s.source.topPassed = true → s.source.list = e :: rest → e.input ≠ i →
          ∀ x ∈ s.source.list.find? fun x => inputPresent s x.input || x.input == i,
            let done := s.setSource
              (if inputPresent s i = true then { s.source with switch := none, state := .showing }
              else { s.source with hold := some (s.settings.hold * 1000), switch := none, state := .holding })
            (x.input ≠ i → (∃ u, exec (.lockReport i) s = .next u ∧ SwitchBegun x s u) ∧
              (s.source.switch.isSome = true → ∃ u, exec .switchTimerExpiry s = .next u ∧ SwitchBegun x s u)) ∧
            (x.input = i → exec (.lockReport i) s = .next done ∧
              (s.source.switch.isSome = true → exec .switchTimerExpiry s = .next done))) ∧
      (∀ e rest, s.source.state = .holding → s.source.hold.isSome = true → s.source.shown = some i →
        s.source.list = e :: rest → e.input ≠ i → inputPresent s i = false →
          let next := if s.source.topPassed = true then
              (s.source.list.find? fun x => inputPresent s x.input).getD e
            else e
          ∃ u, exec .holdTimerExpiry s = .next u ∧ SwitchBegun next s u) ∧
      (s.source.state = .holding → s.source.hold.isSome = true → s.source.shown ≠ none →
        s.source.shown = topInput s → shownPresent s = false →
          ∃ u, exec .holdTimerExpiry s = .next u ∧
            u.source.topPassed = true ∧ u.source.hold = none ∧ u.source.list = s.source.list ∧
            u.source.inputs = s.source.inputs ∧
            ((s.source.list.find? fun e => inputPresent s e.input) = none →
              u.source.state = .noSignal ∧ u.source.shown = s.source.shown ∧ u.scalerLink = s.scalerLink) ∧
            (∀ e ∈ s.source.list.find? fun e => inputPresent s e.input,
              u.source.state = .switching ∧ u.source.shown = some e.input ∧ u.source.switch = some 1500 ∧
                SelectSent (some e.input) (some e.origin) s u) ∧
            u.lamp = s.lamp ∧ u.group = s.group ∧ u.locks = s.locks ∧ u.wear = s.wear ∧ u.claims = s.claims)

/-- The idle timer's end (R106, R136): the group goes OFF and is told with a GROUP_OFF, if POWER is not locked; if it
is, the mode stays and the timer starts again. That a release of the claim reserves no entry for a waiting head is the
model's choice (log 46). -/
def Obligations.IdleTurnsTheGroupOff : Prop :=
  ∀ (s : State),
    Settled s → s.source.idle.isSome = true →
      (passesCheck s.locks .signal ⟨false, true, false, false, false⟩ = true → ∃ u,
        exec .idleTimerExpiry s = .next u ∧ u.group.mode = none ∧ u.group.levelOverride = none ∧
        u.group.selection = .unselected ∧ u.source.idle = none ∧
        outside u = outside s ∧
        (inService s = false → wanted s = true → committedState u.lamp.state = false) ∧
        (othersFilled s.line.queue + s.line.reserved < 6 →
          newEntry (.request kindGroupOff []) ∈ u.line.queue)) ∧
      (passesCheck s.locks .signal ⟨false, true, false, false, false⟩ = false →
        exec .idleTimerExpiry s = .next
          (s.setSource { s.source with idle := some (s.settings.idle * 60000) }))

/-! ### Locks: keys and key switch -/

/-- A key found open and then closed in three samples is pressed once (R142). POWER toggles the group (R105), SOURCE
puts the next input on top (R126; within a switch too the one after the shown input, which is the model's choice, log
40), V+ and V− step the keystone by 8 in SERVICE (R48), CLEAR clears the faults (R23). Where a select command stands
among the records of a table being sent is the free value of log 26. -/
def Obligations.KeysAct : Prop :=
  ∀ (s : State),
    Settled s → s.panel.switch.settled.isSome = true →
      let open_ : Key := ⟨false, true, 0⟩
      let down : Key := ⟨true, false, 0⟩
      (s.panel.power = open_ → inService s = false → s.group.mode = none →
        passesCheck s.locks .keypad ⟨true, true, false, false, true⟩ = true → ∃ u,
          exec (.keypadPower [true, true, true]) s = .next u ∧ u.panel = { s.panel with power := down } ∧
          u.group.mode = some .keypad ∧
          (othersFilled s.line.queue + s.line.reserved < 6 →
            newEntry (.request kindGroupOn []) ∈ u.line.queue)) ∧
      (s.panel.power = open_ → inService s = false → s.group.mode.isSome = true →
        passesCheck s.locks .keypad ⟨false, true, false, false, true⟩ = true → ∃ u,
          exec (.keypadPower [true, true, true]) s = .next u ∧ u.panel = { s.panel with power := down } ∧
          u.group.mode = none ∧ u.group.levelOverride = none ∧
          (othersFilled s.line.queue + s.line.reserved < 6 →
            newEntry (.request kindGroupOff []) ∈ u.line.queue)) ∧
      (s.panel.power = open_ → inService s = true → burning s.lamp.state = true →
        passesCheck s.locks .keypad ⟨false, true, false, false, true⟩ = true → ∃ u,
          exec (.keypadPower [true, true, true]) s = .next u ∧ u.lamp.state = .cooling ∧
          u.group.mode = s.group.mode ∧ u.panel = { s.panel with power := down }) ∧
      (s.panel.source = open_ → passesCheck s.locks .keypad ⟨false, false, true, false, true⟩ = true → ∃ u,
        exec (.keypadSource [true, true, true]) s = .next u ∧ u.panel = { s.panel with source := down } ∧
        PushedOnTop (match s.source.shown with | some i => nextInput i | none => .in1) .keypad s u ∧
        (hasFree s.line = true → newEntry (.request kindShow
          [byteOf (inputCode (match s.source.shown with | some i => nextInput i | none => .in1))]) ∈ u.line.queue) ∧
        u.lamp = s.lamp ∧ u.group = s.group ∧ u.locks = s.locks) ∧
      (s.panel.vPlus = open_ → inService s = true →
        passesCheck s.locks .keypad ⟨false, false, false, true, true⟩ = true →
          exec (.keypadVPlus [true, true, true]) s = .next
            ((stepKeystone 8 s).setPanel { s.panel with vPlus := down })) ∧
      (s.panel.vMinus = open_ → inService s = true →
        passesCheck s.locks .keypad ⟨false, false, false, true, true⟩ = true →
          exec (.keypadVMinus [true, true, true]) s = .next
            ((stepKeystone (-8) s).setPanel { s.panel with vMinus := down })) ∧
      (s.panel.clear = open_ → passesCheck s.locks .keypad ⟨false, false, false, false, true⟩ = true →
        s.lamp.state = .fault → anyFault s.lamp.faults = true → conditionsGone s = true → ∃ u,
          exec (.keypadClear [true, true, true]) s = .next u ∧ anyFault u.lamp.faults = false ∧
          u.panel = { s.panel with clear := down } ∧ (s.lamp.restrike.isSome = true → u.lamp.state = .cooling))

/-- A press that the lock check refuses in any of the key's scopes, V+ and V− outside SERVICE, POWER in SERVICE with the lamp
in DARK, WAITING, STRIKING or FAULT, a press before the key switch has settled, and samples that make no press change the
sampling of the key and nothing else (R141, R142, R150, R105, R126, R48, R26, R23). -/
def Obligations.RefusedKeysDoNothing : Prop :=
  ∀ (s : State),
    Settled s →
      let open_ : Key := ⟨false, true, 0⟩
      let down : Key := ⟨true, false, 0⟩
      (s.panel.power = open_ → (s.locks.any fun l => l.scopes.keys) = true →
        exec (.keypadPower [true, true, true]) s = .next (s.setPanel { s.panel with power := down })) ∧
      (s.panel.power = open_ → (s.locks.any fun l => l.scopes.power) = true →
        exec (.keypadPower [true, true, true]) s = .next (s.setPanel { s.panel with power := down })) ∧
      (s.panel.power = open_ → inService s = false → s.group.mode = none → lampLocked s.locks = true →
        exec (.keypadPower [true, true, true]) s = .next (s.setPanel { s.panel with power := down })) ∧
      (s.panel.power = open_ → inService s = true →
        s.lamp.state = .dark ∨ claiming s.lamp.state = true ∨ s.lamp.state = .fault →
          exec (.keypadPower [true, true, true]) s = .next (s.setPanel { s.panel with power := down })) ∧
      (s.panel.source = open_ → (s.locks.any fun l => l.scopes.keys || l.scopes.source) = true →
        exec (.keypadSource [true, true, true]) s = .next (s.setPanel { s.panel with source := down })) ∧
      (s.panel.vPlus = open_ →
        inService s = false ∨ (s.locks.any fun l => l.scopes.keys || l.scopes.geometry) = true →
        exec (.keypadVPlus [true, true, true]) s = .next (s.setPanel { s.panel with vPlus := down })) ∧
      (s.panel.vMinus = open_ →
        inService s = false ∨ (s.locks.any fun l => l.scopes.keys || l.scopes.geometry) = true →
        exec (.keypadVMinus [true, true, true]) s = .next (s.setPanel { s.panel with vMinus := down })) ∧
      (s.panel.clear = open_ → (s.locks.any fun l => l.scopes.keys) = true →
        exec (.keypadClear [true, true, true]) s = .next (s.setPanel { s.panel with clear := down })) ∧
      (s.panel.switch.settled = none →
        (s.panel.power = open_ →
          exec (.keypadPower [true, true, true]) s = .next (s.setPanel { s.panel with power := down })) ∧
        (s.panel.source = open_ →
          exec (.keypadSource [true, true, true]) s = .next (s.setPanel { s.panel with source := down })) ∧
        (s.panel.clear = open_ →
          exec (.keypadClear [true, true, true]) s = .next (s.setPanel { s.panel with clear := down }))) ∧
      (s.panel.power = open_ →
        exec (.keypadPower [true, true]) s = .next (s.setPanel { s.panel with power := ⟨false, true, 2⟩ }) ∧
        exec (.keypadPower [true, true, false]) s = .next (s.setPanel { s.panel with power := open_ })) ∧
      (s.panel.power = ⟨false, false, 0⟩ → exec (.keypadPower [true, true, true]) s = .next s)

/-- The key switch settles on three equal samples in a row (R150, R151), for the first time after power-on or anew: entering
LOCKED adds the KEYSWITCH lock, leaving it removes the lock; entering SERVICE clears the selection and puts a claiming lamp
out (R26). At leaving SERVICE the Group Coordinator acts first (R114): with the group ON the election runs, and then the
decision applies as if just made (R26): a lamp not wanted goes out, a wanted one in DARK starts, in COOLING it waits to
relight. Fewer samples, and a reading between positions, settle nothing. That the KEYSWITCH lock stands last in the Lock
Set, which R140 holds without order, is the model's choice (log 32). -/
def Obligations.KeySwitchSettles : Prop :=
  ∀ (s : State),
    Settled s → LocksSafe s →
      (s.panel.switch.settled = some .normal → ∃ u, exec (.keySwitchSettle [.locked, .locked, .locked]) s = .next u ∧
        u.panel.switch = ⟨some .locked, .locked, 3⟩ ∧
        u.locks = s.locks ++ [⟨.keySwitch, ⟨false, true, true, true, true⟩, none⟩] ∧
        u.lamp = s.lamp ∧ u.group = s.group ∧ u.claims = s.claims) ∧
      (s.panel.switch.settled = some .locked → s.panel.switch.reading = .locked →
        ∃ u, exec (.keySwitchSettle [.normal, .normal, .normal]) s = .next u ∧
          u.panel.switch = ⟨some .normal, .normal, 3⟩ ∧ u.locks = (s.locks.filter fun l => l.holder != .keySwitch) ∧
          u.lamp = s.lamp ∧ u.group = s.group ∧ u.claims = s.claims) ∧
      (s.panel.switch.settled = some .normal → s.panel.switch.reading = .normal →
        ∃ u, exec (.keySwitchSettle [.service, .service, .service]) s = .next u ∧
          u.panel.switch = ⟨some .service, .service, 3⟩ ∧ inService u = true ∧ u.group.selection = .unselected ∧
          u.group.mode = s.group.mode ∧ u.lamp.relight = false ∧ claiming u.lamp.state = false ∧
          (s.lamp.state = .waiting → u.lamp.state = .dark ∧ ownClaimed u = false) ∧
          (inStrike s.lamp.state = true → u.lamp.state = .cooling ∧ ownClaimed u = false) ∧
          (claiming s.lamp.state = false → u.lamp.state = s.lamp.state)) ∧
      (s.panel.switch.settled = some .locked → s.panel.switch.reading = .locked →
        ∃ u, exec (.keySwitchSettle [.service, .service, .service]) s = .next u ∧
          u.panel.switch = ⟨some .service, .service, 3⟩ ∧ lockOf u.locks .keySwitch = none ∧
          (∀ l ∈ s.locks, l.holder ≠ .keySwitch → l ∈ u.locks) ∧
          u.group.selection = .unselected ∧ claiming u.lamp.state = false ∧ u.lamp.relight = false) ∧
      (s.panel.switch.settled = some .service → s.panel.switch.reading = .service → s.group.selection = .unselected →
        let v := s.setPanel { s.panel with switch := ⟨some .normal, .normal, 3⟩ }
        ∃ u, exec (.keySwitchSettle [.normal, .normal, .normal]) s = .next u ∧
          u.panel.switch = ⟨some .normal, .normal, 3⟩ ∧ inService u = false ∧ u.group.mode = s.group.mode ∧
          (s.group.mode = none ∨ ownAvailable v = false ∨ electionTakesOwn v = false →
            u.group.selection = .unselected ∧ committedState u.lamp.state = false ∧
            (burning s.lamp.state = true → u.lamp.state = .cooling ∧ u.lamp.relight = false ∧ u.lamp.actual = 0)) ∧
          (s.group.mode.isSome = true → ownAvailable v = true → electionTakesOwn v = true → Alone s →
            u.group.selection = .elected ∧
            (burning s.lamp.state = true → u.lamp.state = s.lamp.state) ∧
            (s.lamp.state = .dark → anyFault s.lamp.faults = false → s.pins.supplyLow = false →
              u.lamp.state = .waiting ∧ u.lamp.renewal = some 4000) ∧
            (s.lamp.state = .cooling → s.lamp.restrike.isSome = true →
              u.lamp.state = .cooling ∧ u.lamp.relight = true))) ∧
      (s.panel.switch.settled = none → s.panel.switch.reading = .between →
        exec (.keySwitchSettle [.normal, .normal, .normal]) s = .next
          (s.setPanel { s.panel with switch := ⟨some .normal, .normal, 3⟩ }) ∧
        (∃ u, exec (.keySwitchSettle [.locked, .locked, .locked]) s = .next u ∧
          u.panel.switch = ⟨some .locked, .locked, 3⟩ ∧
          u.locks = s.locks ++ [⟨.keySwitch, ⟨false, true, true, true, true⟩, none⟩]) ∧
        ∃ u, exec (.keySwitchSettle [.service, .service, .service]) s = .next u ∧
          u.panel.switch = ⟨some .service, .service, 3⟩ ∧ inService u = true ∧ u.group.selection = .unselected ∧
          claiming u.lamp.state = false) ∧
      (s.panel.switch.settled = some .normal → s.panel.switch.reading = .normal →
        exec (.keySwitchSettle [.locked, .locked]) s = .next
          (s.setPanel { s.panel with switch := ⟨some .normal, .locked, 2⟩ }) ∧
        exec (.keySwitchSettle [.between]) s = .next
          (s.setPanel { s.panel with switch := ⟨some .normal, .between, 0⟩ }))

/-! ### Clock and Room Schedule -/

/-- A second of the clock (R154, R158, R164, R165): counted unless it is an inserted one; the one that passes 59 is the
minute change. While UNSURE the schedule is frozen; while SURE the minute change evaluates it: the held copies are the
effective and the ON slot of the new minute, the SCHEDULE lock is that of the effective slot, and mode, slot level and source
list follow (R107, R127). Where a select command stands among the records of a table being sent is the free value of log 26.
That MINUTE_CHANGE is the second that passes 59 and nothing at other seconds is the model's reading of the two rows
(log 11), and so is the counter of inserted seconds (log 12). -/
def Obligations.SecondsAndMinutes : Prop :=
  ∀ (s : State),
    Settled s → ClockSafe s → LocksSafe s → (isClosed s.schedule.heldEffective = true → s.schedule.heldOn = none) →
      (0 < s.clock.inserts → exec .clockSecond s = .next
        (s.setClock { s.clock with inserts := s.clock.inserts - 1 })) ∧
      (s.clock.inserts = 0 → s.clock.seconds < 59 →
        exec .clockSecond s = .next (s.setClock { s.clock with seconds := s.clock.seconds + 1 }) ∧
        exec .minuteChange s = .next s) ∧
      (s.clock.inserts = 0 → s.clock.seconds = 59 → exec .minuteChange s = exec .clockSecond s ∧
        let c := { s.clock with seconds := 0, minute := (s.clock.minute + 1) % 10080 }
        (s.clock.sure = none → exec .minuteChange s = .next (s.setClock c)) ∧
        (s.clock.sure.isSome = true → ∃ u, exec .minuteChange s = .next u ∧ u.clock = c ∧
          Evaluated c.minute s.schedule.slots s u))

/-- A TIME of another station that is adopted (R155 to R158): UNSURE, or more than 120 s away, the clock is stepped
and the schedule evaluated; within 120 s the difference is slewed, a second each 10 s. Either way the clock is SURE
for 6 hours. A TIME from another source while the source is heard is disregarded, and so is one of the wrong length or
values, of origin 0 or of the own number. The sure timer's end makes the clock UNSURE and ends a slew; a slew step
lowers what is left, and inserts a second while the clock is ahead, or passes one more while it is behind: past 59
that is a minute change, which evaluates while SURE. An evaluation is that of R164 and R165, with R107 and R127 (a
select command's place among the records of a table being sent is the free value of log 26). The counter of inserted
seconds, and that an adopted TIME clears it, are the model's (log 12); so is that the expiry of a stopped timer
changes nothing (log 1). -/
def Obligations.TimesAreAdoptedAndSlewed : Prop :=
  ∀ (s : State) (t : Telegram) (k : Nat) (m1 m0 sec : Byte),
    Settled s →
      (Received kindTime t k s → t.body.length ≠ 3 ∨ t.origin = 0 ∨ t.origin.toNat = s.straps.number →
        exec (.time (signalsFrom k t)) s = .next (telegramIn s)) ∧
      (Received kindTime t k s → t.body = [m1, m0, sec] → 10079 < beNat [m1, m0] ∨ 59 < sec.toNat →
        exec (.time (signalsFrom k t)) s = .next (telegramIn s)) ∧
      (ClockSafe s → Received kindTime t k s → t.body = [m1, m0, sec] → beNat [m1, m0] ≤ 10079 →
        sec.toNat ≤ 59 → t.origin ≠ 0 → t.origin.toNat ≠ s.straps.number →
          let d := clockDifference (beNat [m1, m0]) sec.toNat s.clock
          (adopts s t.origin.toNat = true →
            (s.clock.sure = none ∨ d < -120 ∨ 120 < d → LocksSafe s →
              (isClosed s.schedule.heldEffective = true → s.schedule.heldOn = none) →
                ∃ u, exec (.time (signalsFrom k t)) s = .next u ∧
                  u.clock = ⟨beNat [m1, m0], sec.toNat, some 21600000, some t.origin.toNat, 0, none, 0⟩ ∧
                  Evaluated (beNat [m1, m0]) s.schedule.slots s u) ∧
            (s.clock.sure.isSome = true → -120 ≤ d → d ≤ 120 → exec (.time (signalsFrom k t)) s = .next
              ((telegramIn s).setClock
                { s.clock with
                  source := some t.origin.toNat, slewLeft := d, slew := if d = 0 then none else some 10000
                  inserts := 0, sure := some 21600000 }))) ∧
          (adopts s t.origin.toNat = false → exec (.time (signalsFrom k t)) s = .next (telegramIn s)) ∧
          -302400 ≤ d ∧ d < 302400 ∧
            (d - ((60 * beNat [m1, m0] + sec.toNat : Nat) - (60 * s.clock.minute + s.clock.seconds : Nat) : Int)) %
              604800 = 0) ∧
      (s.clock.sure.isSome = true → exec .sureTimerExpiry s = .next
        (beaconJudge s (s.setClock { s.clock with sure := none, slewLeft := 0, slew := none }))) ∧
      (s.clock.sure = none → exec .sureTimerExpiry s = .next s) ∧
      (s.clock.slew.isSome = true → s.clock.slewLeft < 0 → exec .slewTimerExpiry s = .next
        (s.setClock
          { s.clock with
            slewLeft := s.clock.slewLeft + 1, inserts := s.clock.inserts + 1
            slew := if s.clock.slewLeft = -1 then none else some 10000 })) ∧
      (s.clock.slew.isSome = true → 0 < s.clock.slewLeft → s.clock.seconds < 59 → exec .slewTimerExpiry s = .next
        (s.setClock
          { s.clock with
            slewLeft := s.clock.slewLeft - 1, seconds := s.clock.seconds + 1
            slew := if s.clock.slewLeft = 1 then none else some 10000 })) ∧
      (s.clock.slew.isSome = true → 0 < s.clock.slewLeft → s.clock.seconds = 59 →
        let c := { s.clock with
          slewLeft := s.clock.slewLeft - 1, seconds := 0, minute := (s.clock.minute + 1) % 10080
          slew := if s.clock.slewLeft = 1 then none else some 10000 }
        (s.clock.sure = none → exec .slewTimerExpiry s = .next (s.setClock c)) ∧
        (s.clock.sure.isSome = true → LocksSafe s →
          (isClosed s.schedule.heldEffective = true → s.schedule.heldOn = none) →
            ∃ u, exec .slewTimerExpiry s = .next u ∧ u.clock = c ∧ Evaluated c.minute s.schedule.slots s u)) ∧
      (s.clock.slew = none → exec .slewTimerExpiry s = .next s)

/-! ### Screen groups -/

/-- A growth step (R118): the count rises, up to 30; an own station that is not selected and stands among the first that
many candidates becomes GROWN, and a lamp in DARK with its start conditions met enters WAITING. While the group is still
short the timer runs again. That the expiry of a stopped timer changes nothing is the model's choice (log 1). -/
def Obligations.GrowthSteps : Prop :=
  ∀ (s : State),
    Settled s →
      (s.group.shortTimer.isSome = true → ∃ u, exec .shortfallTimerExpiry s = .next u ∧
        u.group.growth = (if groupShort u = true then min 30 (s.group.growth + 1) else 0) ∧
        u.group.shortTimer = (if groupShort u = true then some 10000 else none) ∧
        u.group.mode = s.group.mode ∧ outside u = outside s ∧ u.locks = s.locks ∧
        (amongFirst (min 30 (s.group.growth + 1)) s = true → s.group.selection = .unselected →
          u.group.selection = .grown ∧
          (ownClaimed s = false → s.lamp.state = .dark → startConditions (s.setGroup u.group) = true →
            u.lamp.state = .waiting)) ∧
        (amongFirst (min 30 (s.group.growth + 1)) s = false ∨ s.group.selection ≠ .unselected →
          u.group.selection = s.group.selection ∧ u.lamp = s.lamp)) ∧
      (s.group.shortTimer = none → exec .shortfallTimerExpiry s = .next s)

/-! ### What every step keeps -/

/-- "While the Lock Set holds a lock covering LAMP, the lamp is in none of WAITING, STRIKING, WARMING or LIT" (R14). -/
def Obligations.LampLocksKeepTheLampOut : Prop :=
  ∀ (s t : State), Safe s → step s = .next t → LampHeldOut t

/-- A lamp in STRIKING has permission, an own claim stands only in WAITING and STRIKING, and no lamp claims while FRESH,
DUPLICATE or in SERVICE (R3, R5, R6, R84, R90 to R92). -/
def Obligations.StrikesHavePermission : Prop :=
  ∀ (s t : State), Safe s → step s = .next t → ClaimsSafe t

/-- The strike line, the power setting and the ballast power follow the lamp state as R1's table gives them (R1, R7 to R10,
R17): the strike line in an attempt alone, the setting 100 there; the cap in WARMING, P_min to the cap in LIT, 0 else; a fault
stands latched in FAULT, no more than three attempts are made, and no cool-down runs from WAITING to the end of STRIKING
(R4). -/
def Obligations.PowerFollowsTheLampState : Prop :=
  ∀ (s t : State), Safe s → step s = .next t → PowerSafe t

/-- Every step ends with nothing left to settle: what acts "as soon as" its condition holds has acted (R4, R6, R39, R115
to R117, R136, R2; log 9). -/
def Obligations.StepsEndSettled : Prop :=
  ∀ (s t : State), Safe s → step s = .next t → Settled t

/-- One lock a holder, of the form its holder gives it, station locks without a common scope, and the KEYSWITCH lock
exactly while the key switch is settled in LOCKED (R140, R144 to R146, R151). -/
def Obligations.LockSetKeepsItsForm : Prop :=
  ∀ (s t : State), Safe s → step s = .next t → LocksSafe t

/-- At most 8 requests wait, BUSY agrees with their number, one entry at most is reserved for the head (R174, R175); one
beacon and seven other telegrams at most wait to be sent, one being sent, none past its 16th attempt (R170, R171). -/
def Obligations.QueuesKeepTheirBounds : Prop :=
  ∀ (s t : State), Safe s → step s = .next t → RequestsSafe t ∧ SendQueueSafe t.line

/-- At most four sources, no input twice, the shown input one of them; the hold timer runs exactly in HOLDING, the switch
timer exactly in SWITCHING (R121, R124, R131, 7.4). Corner sets stay in range, F is that of the active set, and the table
and F in flight are those of the set in flight (R45, R46, R51 to R55, R58). -/
def Obligations.SourcesAndGeometryStayInForm : Prop :=
  ∀ (s t : State), Safe s → step s = .next t → SourcesSafe t.source ∧ GeometrySafe t.straps.format t.geometry

/-- At most 64 slots of the own group in their order, and the held copies slots of that form (R160, R161, R163), the
clock within the week, its slew within 120 s (R154, R157, R158); peers without the own number, each station once,
misses below the limit (R64, R69, R70); the serial memory in its canonical form below address 512 (12.6). -/
def Obligations.TablesClockAndMemoryStayInForm : Prop :=
  ∀ (s t : State), Safe s → step s = .next t →
    SlotsSafe t ∧ ClockSafe t ∧ PeersSafe t ∧ Memory.wf t.serial = true ∧ StartSafe t ∧ SettingsSafe t.settings ∧
      GroupSafe t.group
end

