-- ==== Sys2Proof/Laws/State.lean ====
section
/-! SUPPORT. The updates of `State`. `@[simps]` on each in Machine/State.lean gives its lemma for every field, true by
`rfl`; here stand the lemmas of an update on an update, and of one that puts back what stood. -/

namespace Sys2Proof.Machine

@[simp] theorem State.setStart_setStart (s : State) (x y : StartUp) : (s.setStart x).setStart y = s.setStart y := rfl
@[simp] theorem State.setStart_self (s : State) : s.setStart s.start = s := rfl
@[simp] theorem State.setSettings_setSettings (s : State) (x y : Settings) : (s.setSettings x).setSettings y = s.setSettings y := rfl
@[simp] theorem State.setSettings_self (s : State) : s.setSettings s.settings = s := rfl
@[simp] theorem State.setPins_setPins (s : State) (x y : Pins) : (s.setPins x).setPins y = s.setPins y := rfl
@[simp] theorem State.setPins_self (s : State) : s.setPins s.pins = s := rfl
@[simp] theorem State.setLamp_setLamp (s : State) (x y : Lamp) : (s.setLamp x).setLamp y = s.setLamp y := rfl
@[simp] theorem State.setLamp_self (s : State) : s.setLamp s.lamp = s := rfl
@[simp] theorem State.setWear_setWear (s : State) (x y : Wear) : (s.setWear x).setWear y = s.setWear y := rfl
@[simp] theorem State.setWear_self (s : State) : s.setWear s.wear = s := rfl
@[simp] theorem State.setGeometry_setGeometry (s : State) (x y : Geometry) : (s.setGeometry x).setGeometry y = s.setGeometry y := rfl
@[simp] theorem State.setGeometry_self (s : State) : s.setGeometry s.geometry = s := rfl
@[simp] theorem State.setPeers_setPeers (s : State) (x y : List Peer) : (s.setPeers x).setPeers y = s.setPeers y := rfl
@[simp] theorem State.setPeers_self (s : State) : s.setPeers s.peers = s := rfl
@[simp] theorem State.setListen_setListen (s : State) (x y : Listen) : (s.setListen x).setListen y = s.setListen y := rfl
@[simp] theorem State.setListen_self (s : State) : s.setListen s.listen = s := rfl
@[simp] theorem State.setClaims_setClaims (s : State) (x y : List ClaimEntry) : (s.setClaims x).setClaims y = s.setClaims y := rfl
@[simp] theorem State.setClaims_self (s : State) : s.setClaims s.claims = s := rfl
@[simp] theorem State.setGroup_setGroup (s : State) (x y : Group) : (s.setGroup x).setGroup y = s.setGroup y := rfl
@[simp] theorem State.setGroup_self (s : State) : s.setGroup s.group = s := rfl
@[simp] theorem State.setSource_setSource (s : State) (x y : Source) : (s.setSource x).setSource y = s.setSource y := rfl
@[simp] theorem State.setSource_self (s : State) : s.setSource s.source = s := rfl
@[simp] theorem State.setLocks_setLocks (s : State) (x y : List Lock) : (s.setLocks x).setLocks y = s.setLocks y := rfl
@[simp] theorem State.setLocks_self (s : State) : s.setLocks s.locks = s := rfl
@[simp] theorem State.setPanel_setPanel (s : State) (x y : Panel) : (s.setPanel x).setPanel y = s.setPanel y := rfl
@[simp] theorem State.setPanel_self (s : State) : s.setPanel s.panel = s := rfl
@[simp] theorem State.setClock_setClock (s : State) (x y : Clock) : (s.setClock x).setClock y = s.setClock y := rfl
@[simp] theorem State.setClock_self (s : State) : s.setClock s.clock = s := rfl
@[simp] theorem State.setSchedule_setSchedule (s : State) (x y : Schedule) : (s.setSchedule x).setSchedule y = s.setSchedule y := rfl
@[simp] theorem State.setSchedule_self (s : State) : s.setSchedule s.schedule = s := rfl
@[simp] theorem State.setLine_setLine (s : State) (x y : HallLine) : (s.setLine x).setLine y = s.setLine y := rfl
@[simp] theorem State.setLine_self (s : State) : s.setLine s.line = s := rfl
@[simp] theorem State.setSerial_setSerial (s : State) (x y : List Host.Cell) : (s.setSerial x).setSerial y = s.setSerial y := rfl
@[simp] theorem State.setSerial_self (s : State) : s.setSerial s.serial = s := rfl
@[simp] theorem State.setScalerLink_setScalerLink (s : State) (x y : List ScalerMessage) : (s.setScalerLink x).setScalerLink y = s.setScalerLink y := rfl
@[simp] theorem State.setScalerLink_self (s : State) : s.setScalerLink s.scalerLink = s := rfl
@[simp] theorem State.setPending_setPending (s : State) (x y : List Instr) : (s.setPending x).setPending y = s.setPending y := rfl
@[simp] theorem State.setPending_self (s : State) : s.setPending s.pending = s := rfl

end Sys2Proof.Machine
end

