-- ==== Sys2Proof/Laws/Lamp.lean ====
section
/-! SUPPORT. The lamp's operations and the locks, group, wear and claims: what each leaves, and what it makes of the
lamp state. -/

namespace Sys2Proof.Machine

/-! ### Operations that leave the locks and the group -/

@[simp] theorem send_locks (p : Payload) (s : State) : (send p s).locks = s.locks := rfl
@[simp] theorem send_group (p : Payload) (s : State) : (send p s).group = s.group := rfl
@[simp] theorem send_lamp (p : Payload) (s : State) : (send p s).lamp = s.lamp := rfl
@[simp] theorem send_claims (p : Payload) (s : State) : (send p s).claims = s.claims := rfl
@[simp] theorem send_wear (p : Payload) (s : State) : (send p s).wear = s.wear := rfl
@[simp] theorem releaseClaim_locks (s : State) : (releaseClaim s).locks = s.locks := rfl
@[simp] theorem releaseClaim_group (s : State) : (releaseClaim s).group = s.group := rfl
@[simp] theorem releaseClaim_wear (s : State) : (releaseClaim s).wear = s.wear := rfl
@[simp] theorem releaseClaim_lamp (s : State) : (releaseClaim s).lamp = { s.lamp with renewal := none } := rfl

@[simp] theorem releaseClaim_settings (s : State) : (releaseClaim s).settings = s.settings := rfl

/-- A release removes the own claim (R5, R91). -/
@[simp] theorem releaseClaim_claims (s : State) :
    (releaseClaim s).claims = s.claims.filter fun c => c.claimant != s.straps.number := rfl

@[simp] theorem startWrite_locks (s : State) : (startWrite s).locks = s.locks := by unfold startWrite; split <;> rfl
@[simp] theorem startWrite_group (s : State) : (startWrite s).group = s.group := by unfold startWrite; split <;> rfl
@[simp] theorem startWrite_lamp (s : State) : (startWrite s).lamp = s.lamp := by unfold startWrite; split <;> rfl
@[simp] theorem startWrite_claims (s : State) : (startWrite s).claims = s.claims := by unfold startWrite; split <;> rfl

@[simp] theorem requestWrite_locks (s : State) : (requestWrite s).locks = s.locks := by
  unfold requestWrite; (repeat' split) <;> simp
@[simp] theorem requestWrite_group (s : State) : (requestWrite s).group = s.group := by
  unfold requestWrite; (repeat' split) <;> simp
@[simp] theorem requestWrite_lamp (s : State) : (requestWrite s).lamp = s.lamp := by
  unfold requestWrite; (repeat' split) <;> simp
@[simp] theorem requestWrite_claims (s : State) : (requestWrite s).claims = s.claims := by
  unfold requestWrite; (repeat' split) <;> simp

@[simp] theorem reportExtinction_locks (s : State) : (reportExtinction s).locks = s.locks := by simp [reportExtinction]
@[simp] theorem reportExtinction_group (s : State) : (reportExtinction s).group = s.group := by simp [reportExtinction]
@[simp] theorem reportExtinction_lamp (s : State) : (reportExtinction s).lamp = s.lamp := by simp [reportExtinction]
@[simp] theorem reportExtinction_claims (s : State) : (reportExtinction s).claims = s.claims := by
  simp [reportExtinction]

@[simp] theorem enterWaiting_locks (s : State) : (enterWaiting s).locks = s.locks := rfl
@[simp] theorem enterWaiting_group (s : State) : (enterWaiting s).group = s.group := rfl
@[simp] theorem enterWaiting_wear (s : State) : (enterWaiting s).wear = s.wear := rfl
@[simp] theorem enterWaiting_claims (s : State) : (enterWaiting s).claims = s.claims := rfl

/-- The lamp as it stands in WAITING (R4, R5). -/
@[simp] theorem enterWaiting_lamp (s : State) : (enterWaiting s).lamp =
    { s.lamp with state := .waiting, attempts := 0, relight := false, coolDown := none, renewal := some 4000 } := rfl

@[simp] theorem extinguish_locks (n : LampState) (s : State) : (extinguish n s).locks = s.locks := by
  unfold extinguish; cases s.lamp.state <;> simp [burning]
@[simp] theorem extinguish_group (n : LampState) (s : State) : (extinguish n s).group = s.group := by
  unfold extinguish; cases s.lamp.state <;> simp [burning]

/-- The lamp after an extinction (R12); from STRIKING the claim is released, which stops the renewal. -/
theorem extinguish_lamp (n : LampState) (s : State) : (extinguish n s).lamp =
    { darkened s n with
      renewal := if litSide s.lamp.state && !burning s.lamp.state then none else s.lamp.renewal } := by
  unfold extinguish; cases h : s.lamp.state <;> simp [burning, litSide, darkened]

@[simp] theorem extinguish_state (n : LampState) (s : State) : (extinguish n s).lamp.state = n := by
  rw [extinguish_lamp]; rfl

@[simp] theorem setRelight_locks (b : Bool) (s : State) : (setRelight b s).locks = s.locks := rfl
@[simp] theorem setRelight_group (b : Bool) (s : State) : (setRelight b s).group = s.group := rfl
@[simp] theorem setRelight_state (b : Bool) (s : State) : (setRelight b s).lamp.state = s.lamp.state := rfl

@[simp] theorem unwanted_locks (s : State) : (unwanted s).locks = s.locks := by
  unfold unwanted; cases s.lamp.state <;> simp
@[simp] theorem unwanted_group (s : State) : (unwanted s).group = s.group := by
  unfold unwanted; cases s.lamp.state <;> simp

/-- A lamp that is not wanted is not committed (R13). -/
theorem unwanted_state (s : State) : (unwanted s).lamp.state =
    match s.lamp.state with
    | .dark => .dark
    | .waiting => .dark
    | .fault => .fault
    | .striking _ => .cooling
    | .warming => .cooling
    | .lit => .cooling
    | .cooling => .cooling := by
  unfold unwanted; cases h : s.lamp.state <;> simp [h]

/-- After a withdrawn decision, a LAMP lock or DUPLICATE no lamp is committed (R13, R14). -/
theorem unwanted_not_committed (s : State) : committedState (unwanted s).lamp.state = false := by
  rw [unwanted_state]; cases s.lamp.state <;> rfl

@[simp] theorem startTest_locks (s : State) : (startTest s).locks = s.locks := by unfold startTest; split <;> simp
@[simp] theorem startTest_group (s : State) : (startTest s).group = s.group := by unfold startTest; split <;> simp

@[simp] theorem nowWanted_locks (s : State) : (nowWanted s).locks = s.locks := by
  unfold nowWanted; (repeat' split) <;> simp
@[simp] theorem nowWanted_group (s : State) : (nowWanted s).group = s.group := by
  unfold nowWanted; (repeat' split) <;> simp

@[simp] theorem onDecision_locks (b : Bool) (s : State) : (onDecision b s).locks = s.locks := by
  unfold onDecision; (repeat' split) <;> simp
@[simp] theorem onDecision_group (b : Bool) (s : State) : (onDecision b s).group = s.group := by
  unfold onDecision; (repeat' split) <;> simp

@[simp] theorem beginAttempt_locks (s : State) : (beginAttempt s).locks = s.locks := rfl
@[simp] theorem beginAttempt_group (s : State) : (beginAttempt s).group = s.group := rfl
@[simp] theorem beginAttempt_claims (s : State) : (beginAttempt s).claims = s.claims := rfl

@[simp] theorem strikeTest_locks (s : State) : (strikeTest s).locks = s.locks := by
  unfold strikeTest; (repeat' split) <;> simp
@[simp] theorem strikeTest_group (s : State) : (strikeTest s).group = s.group := by
  unfold strikeTest; (repeat' split) <;> simp
@[simp] theorem strikeTest_claims (s : State) : (strikeTest s).claims = s.claims := by
  unfold strikeTest; (repeat' split) <;> simp

/-! ### Operations of the group that leave the locks -/

@[simp] theorem clearSelection_locks (s : State) : (clearSelection s).locks = s.locks := rfl
@[simp] theorem clearSelection_lamp (s : State) : (clearSelection s).lamp = s.lamp := rfl
@[simp] theorem elect_locks (s : State) : (elect s).locks = s.locks := by unfold elect; split <;> simp
@[simp] theorem electIfAvailable_locks (b s : State) : (electIfAvailable b s).locks = s.locks := by
  unfold electIfAvailable; split <;> simp
@[simp] theorem groupOn_locks (c : OnCause) (s : State) : (groupOn c s).locks = s.locks := by
  unfold groupOn; split <;> [(simp only; split); split] <;> simp
@[simp] theorem groupOff_locks (s : State) : (groupOff s).locks = s.locks := by unfold groupOff; split <;> simp
@[simp] theorem lampUncovered_locks (b s : State) : (lampUncovered b s).locks = s.locks := by
  unfold lampUncovered; split <;> simp

/-- A removal takes away the lock of its holder and no other (R143). -/
@[simp] theorem removeLock_locks (h : Holder) (s : State) : (removeLock h s).locks = withoutHolder h s.locks := by
  simp [removeLock]

/-- An addition puts its lock in the place of its holder's; an equal one changes nothing (R144). -/
theorem addLock_locks (l : Lock) (s : State) :
    (addLock l s).locks = if s.locks.contains l then s.locks else withoutHolder l.holder s.locks ++ [l] := by
  unfold addLock; split <;> [rfl; (simp only; split <;> simp)]

/-! ### Operations of the group: the mode and the selection -/

/-- An election leaves the mode and the levels (R113). -/
theorem elect_group (s : State) : (elect s).group =
    if electionTakesOwn s then { s.group with selection := .elected } else s.group := by
  unfold elect; split <;> simp

/-- Turning the group on sets the cause from OFF, and replaces it only by SCHEDULE (R102). -/
theorem groupOn_mode (c : OnCause) (s : State) : (groupOn c s).group.mode =
    if s.group.mode = none ∨ c = .schedule then some c else s.group.mode := by
  unfold groupOn
  split
  · next h => simp only [h, true_or, if_true]; split <;> [(rw [elect_group]; split <;> rfl); rfl]
  · next h => cases c <;> simp [h]

/-- Turning the group off (R103). -/
theorem groupOff_mode (s : State) : (groupOff s).group.mode = none := by
  unfold groupOff; split <;> simp [*]

end Sys2Proof.Machine
end

