-- ==== Sys2Proof/Laws/Link.lean ====
section
/-! SUPPORT. The scaler link: what the operations that send on it can do. -/

namespace Sys2Proof.Machine

variable {s : State}

/-- While no table is being sent, none of its records goes (R55). -/
theorem linkProgress_still (h : sendingTable s.geometry = false) : linkProgress s = s := by
  unfold linkProgress; rw [h]; rfl

/-- The records that go by the progress of the link: a number `n` of lines is reached, and nothing but the link and the
engine's two counters changes (R55, log 26). -/
theorem linkProgress_eq (s : State) : ∃ n, RecordsGone s.geometry n ∧
    linkProgress s =
      (s.setScalerLink (s.scalerLink ++ recordsBetween s.geometry s.geometry.linesSent n)).setGeometry
        { s.geometry with linesSent := n, linkDraws := (linkProgress s).geometry.linkDraws } := by
  by_cases h : sendingTable s.geometry = true
  · refine ⟨(linkProgress s).geometry.linesSent, ?_, ?_⟩
    · unfold RecordsGone linkProgress sendRecords
      simp only [h, if_true, State.setGeometry_geometry, tableLength]
      omega
    · unfold linkProgress sendRecords
      simp only [h, if_true]
      rfl
  · rw [Bool.not_eq_true] at h
    refine ⟨s.geometry.linesSent, ?_, ?_⟩
    · unfold RecordsGone; rw [h]; rfl
    · rw [linkProgress_still h]
      have : recordsBetween s.geometry s.geometry.linesSent s.geometry.linesSent = [] := by
        unfold recordsBetween
        split
        · rw [List.drop_eq_nil_of_le (by simp)]; rfl
        · rfl
      rw [this, List.append_nil]
      rfl

/-- A select command stands on the link after the records that had gone by then (R131). -/
theorem sendSelect_sent (i : Option Input) (o : Option Origin) (s : State) : SelectSent i o s (sendSelect i o s) := by
  obtain ⟨n, h1, h2⟩ := linkProgress_eq s
  refine ⟨n, h1, ?_, ?_⟩
  · unfold sendSelect tellScaler
    rw [State.setScalerLink_geometry]
    conv_lhs => rw [h2]
    rfl
  · unfold sendSelect tellScaler
    rw [State.setScalerLink_scalerLink]
    conv_lhs => rw [h2]
    rfl

/-- A select command changes the link and the engine's two counters alone. -/
theorem sendSelect_eq (i : Option Input) (o : Option Origin) (s : State) :
    sendSelect i o s = (s.setScalerLink (sendSelect i o s).scalerLink).setGeometry (sendSelect i o s).geometry := by
  unfold sendSelect tellScaler linkProgress sendRecords
  split <;> rfl

end Sys2Proof.Machine
end

