-- ==== Sys2Proof/Laws/Memory.lean ====
section
/-! SUPPORT. The serial memory: every operation keeps the canonical form, and a read gives what was written last. -/

namespace Sys2Proof.Machine

/-- A memory in form from an address is in form from any lower one. -/
theorem Memory.wfFrom_mono {lo lo' : Nat} {m : List Host.Cell} (h : lo' ≤ lo) (hm : Memory.wfFrom lo m = true) :
    Memory.wfFrom lo' m = true := by
  cases m with
  | nil => rfl
  | cons c rest =>
    simp only [Memory.wfFrom, Bool.and_eq_true, decide_eq_true_eq] at hm ⊢
    exact ⟨⟨⟨h.trans hm.1.1.1, hm.1.1.2⟩, hm.1.2⟩, hm.2⟩

/-- A write within the memory keeps the canonical form. -/
theorem Memory.wfFrom_write {a : Nat} (v : Byte) (ha : a < Config.memorySize) (m : List Host.Cell) (lo : Nat)
    (hlo : lo ≤ a) (hm : Memory.wfFrom lo m = true) : Memory.wfFrom lo (Memory.write m a v) = true := by
  induction m generalizing lo with
  | nil => by_cases hv : v = Config.unlistedByte <;> simp [Memory.write, Memory.wfFrom, hv, hlo, ha]
  | cons c rest ih =>
    obtain ⟨k, w⟩ := c
    simp only [Memory.wfFrom, Bool.and_eq_true, decide_eq_true_eq, bne_iff_ne, ne_eq] at hm
    obtain ⟨⟨⟨h1, h2⟩, h3⟩, h4⟩ := hm
    simp only [Memory.write]
    split
    · split
      · simp [Memory.wfFrom, h1, h2, h3, h4]
      · next hak hv =>
        have : a + 1 ≤ k := hak
        simp [Memory.wfFrom, hlo, ha, hv, this, h2, h3, h4]
    · split
      · next hak =>
        subst hak
        split
        · exact Memory.wfFrom_mono (by omega) h4
        · next hv => simp [Memory.wfFrom, hlo, ha, hv, h4]
      · next hlt hne => simp [Memory.wfFrom, h1, h2, h3, ih (k + 1) (by omega) h4]

/-- A write of one byte keeps the canonical form. -/
theorem Memory.wf_write {m : List Host.Cell} {a : Nat} (v : Byte) (ha : a < Config.memorySize) (hm : Memory.wf m = true) :
    Memory.wf (Memory.write m a v) = true := Memory.wfFrom_write v ha m 0 (Nat.zero_le a) hm

/-- Writing bytes within the memory keeps the canonical form. -/
theorem Memory.wf_writeBytes (bs : List Byte) (m : List Host.Cell) (a : Nat) (ha : a + bs.length ≤ Config.memorySize)
    (hm : Memory.wf m = true) : Memory.wf (Memory.writeBytes m a bs) = true := by
  induction bs generalizing m a with
  | nil => exact hm
  | cons b rest ih =>
    rw [List.length_cons] at ha
    exact ih _ _ (by omega) (Memory.wf_write b (by omega) hm)

/-- Writing cells within the memory keeps the canonical form. -/
theorem Memory.wf_writeCells (cs : List (Nat × Byte)) (m : List Host.Cell)
    (hc : ∀ c ∈ cs, c.1 < Config.memorySize) (hm : Memory.wf m = true) : Memory.wf (Memory.writeCells m cs) = true := by
  induction cs generalizing m with
  | nil => exact hm
  | cons c rest ih =>
    exact ih _ (fun d hd => hc d (by simp [hd])) (Memory.wf_write _ (hc c (by simp)) hm)

/-- The listed addresses of a memory in form from `lo` are at `lo` or above, so a lower address reads as unlisted. -/
theorem Memory.read_below {lo a : Nat} (h : a < lo) (m : List Host.Cell) (hm : Memory.wfFrom lo m = true) :
    Memory.read m a = Config.unlistedByte := by
  induction m generalizing lo with
  | nil => rfl
  | cons c rest ih =>
    simp only [Memory.wfFrom, Bool.and_eq_true, decide_eq_true_eq] at hm
    obtain ⟨⟨⟨h1, -⟩, -⟩, h4⟩ := hm
    rw [Memory.read, if_neg (by omega)]
    exact ih (by omega) h4

/-- A read gives what was written last at its address, and otherwise what it gave before. -/
theorem Memory.read_write (m : List Host.Cell) (a b : Nat) (v : Byte) (lo : Nat) (hm : Memory.wfFrom lo m = true) :
    Memory.read (Memory.write m a v) b = if b = a then v else Memory.read m b := by
  induction m generalizing lo with
  | nil =>
    by_cases hv : v = Config.unlistedByte
    · simp [Memory.write, Memory.read, hv]
    · simp [Memory.write, Memory.read, hv, eq_comm]
  | cons c rest ih =>
    obtain ⟨k, w⟩ := c
    simp only [Memory.wfFrom, Bool.and_eq_true, decide_eq_true_eq] at hm
    obtain ⟨⟨⟨h1, -⟩, -⟩, h4⟩ := hm
    simp only [Memory.write]
    split
    · next hak =>
      split
      · next hv =>
        split
        · next hb =>
          subst hb; subst hv
          rw [Memory.read, if_neg (by omega)]
          exact Memory.read_below (by omega) rest h4
        · rfl
      · by_cases hb : b = a
        · subst hb; simp [Memory.read]
        · simp [Memory.read, hb, Ne.symm hb]
    · split
      · next hak =>
        subst hak
        split
        · next hv =>
          subst hv
          by_cases hb : b = a
          · subst hb; simp [Memory.read_below (Nat.lt_succ_self b) rest h4]
          · simp [Memory.read, hb, Ne.symm hb]
        · by_cases hb : b = a
          · subst hb; simp [Memory.read]
          · simp [Memory.read, hb, Ne.symm hb]
      · next hlt hne =>
        by_cases hb : k = b
        · subst hb; simp [Memory.read, Ne.symm hne]
        · simp [Memory.read, hb, ih (k + 1) h4]

end Sys2Proof.Machine
end

