-- ==== Sys2Proof/Laws/Queue.lean ====
section
/-! SUPPORT. What the operations over the send queue can do, and how the head of the request queue reaches its owner. -/

namespace Sys2Proof.Machine

variable {s : State} {l : HallLine} {p : Payload}

/-- A telegram handed over stands last, or is dropped while no entry is free (R171). -/
theorem handOver_queue : (handOver p l).queue = if hasFree l then l.queue ++ [newEntry p] else l.queue := by
  unfold handOver; split <;> simp_all

/-- Nothing but the queue changes at a hand-over. -/
theorem handOver_eq : handOver p l = { l with queue := (handOver p l).queue } := by
  unfold handOver; split <;> rfl

/-- A telegram handed over while an entry is free stands in the queue. -/
theorem mem_handOver (h : hasFree l = true) : newEntry p ∈ (handOver p l).queue := by
  rw [handOver_queue, if_pos h]; simp

/-- A beacon falling due changes the queue and the mark "due again" alone (R81). -/
theorem beaconDue_eq : beaconDue l = { l with queue := (beaconDue l).queue, dueAgain := (beaconDue l).dueAgain } := by
  unfold beaconDue; (repeat' split) <;> rfl

/-- After a beacon falls due one stands in the queue (R81). -/
theorem beaconDue_any : ((beaconDue l).queue.any fun e => isBeacon e.payload) = true := by
  unfold beaconDue
  split
  · split <;> assumption
  · simp [isBeacon, newEntry]

/-- A beacon falling due takes nothing out of the queue. -/
theorem mem_beaconDue {e : QueueEntry} (h : e ∈ l.queue) : e ∈ (beaconDue l).queue := by
  unfold beaconDue
  split
  · split <;> exact h
  · simp [h]

/-- Beacons fill their own slot: the other entries keep their number (R171). -/
theorem beaconDue_others : othersFilled (beaconDue l).queue = othersFilled l.queue := by
  unfold beaconDue
  split
  · split <;> rfl
  · simp [othersFilled, newEntry, isBeacon]

/-- A hand-over fills at most one entry. -/
theorem handOver_others : othersFilled (handOver p l).queue ≤ othersFilled l.queue + 1 := by
  rw [handOver_queue]
  split
  · simp only [othersFilled, List.filter_append, List.length_append]
    have : (List.filter (fun e : QueueEntry => !isBeacon e.payload) [newEntry p]).length ≤ 1 :=
      (List.length_filter_le _ _)
    omega
  · omega

/-- The withdrawal of own CLAIMs adds no entry (R5). -/
theorem withdrawClaims_others : othersFilled (withdrawClaims l).queue ≤ othersFilled l.queue := by
  unfold withdrawClaims othersFilled
  simp only
  rw [List.filter_map, List.length_map]
  have h : ∀ q : List QueueEntry,
      (List.filter ((fun e => !isBeacon e.payload) ∘ fun e : QueueEntry =>
        if (e.payload == .claim) = true then { e with withdrawn := true } else e) q).length =
      (List.filter (fun e => !isBeacon e.payload) q).length := by
    intro q
    congr 1
    apply List.filter_congr
    intro e _
    simp only [Function.comp]
    split <;> rfl
  rw [h]
  exact List.Sublist.length_le (List.filter_sublist.filter _)

/-- The head of the request queue taken and carried out by its owner (R175, R176). -/
theorem dispatch_head {kind : Byte} {t : Telegram} {rest : List Telegram} {accepts : Telegram → Bool} {owner : Owner}
    (h : AtHead kind t rest s) (ha : accepts t = true) :
    dispatch accepts owner s =
      if directed s t then
        match (owner t (takeHead t rest s)).2 with
        | some x => giveAnswer t x (owner t (takeHead t rest s)).1
        | none => freeReservation (owner t (takeHead t rest s)).1
      else (owner t (takeHead t rest s)).1 := by
  obtain ⟨h1, h2, -, h4⟩ := h
  have h5 : directed (takeHead t rest s) t = directed s t := rfl
  unfold dispatch
  simp only [h1, h2, ha, Bool.and_self, if_true, h4, if_false, h5]
  all_goals rfl

/-- An owner that changes nothing and answers leaves the state `answered`. -/
theorem dispatch_answered {kind : Byte} {t : Telegram} {rest : List Telegram} {accepts : Telegram → Bool}
    {owner : Owner} {r : Result} (h : AtHead kind t rest s) (ha : accepts t = true)
    (ho : owner t (takeHead t rest s) = (takeHead t rest s, some r)) :
    dispatch accepts owner s = answered t rest r s := by
  rw [dispatch_head h ha, ho]; rfl

end Sys2Proof.Machine
end

