-- ==== Sys2Proof/Laws/Settle.lean ====
section
/-! SUPPORT. What the shared operations of the lamp, locks and group, and the settling of a step, never touch. -/

namespace Sys2Proof.Machine

@[simp] theorem outside_setLamp (s : State) (x : Lamp) : outside (s.setLamp x) = outside s := rfl
@[simp] theorem outside_setWear (s : State) (x : Wear) : outside (s.setWear x) = outside s := rfl
@[simp] theorem outside_setClaims (s : State) (x : List ClaimEntry) : outside (s.setClaims x) = outside s := rfl
@[simp] theorem outside_setGroup (s : State) (x : Group) : outside (s.setGroup x) = outside s := rfl
@[simp] theorem outside_setLocks (s : State) (x : List Lock) : outside (s.setLocks x) = outside s := rfl

theorem outside_setLine (s : State) (l : HallLine) (h : { l with queue := [], dueAgain := false } =
    { s.line with queue := [], dueAgain := false }) : outside (s.setLine l) = outside s := by
  simp only [outside, State.setLine]; rw [h]

@[simp] theorem outside_send (p : Payload) (s : State) : outside (send p s) = outside s := by
  apply outside_setLine; unfold handOver; split <;> rfl

@[simp] theorem outside_releaseClaim (s : State) : outside (releaseClaim s) = outside s := by
  unfold releaseClaim
  refine (outside_setLine _ _ ?_).trans rfl
  unfold handOver; split <;> rfl

@[simp] theorem outside_startWrite (s : State) : outside (startWrite s) = outside s := by
  unfold startWrite; split <;> rfl

@[simp] theorem outside_requestWrite (s : State) : outside (requestWrite s) = outside s := by
  unfold requestWrite; (repeat' split) <;> simp

@[simp] theorem outside_reportExtinction (s : State) : outside (reportExtinction s) = outside s := by
  simp [reportExtinction]

@[simp] theorem outside_enterWaiting (s : State) : outside (enterWaiting s) = outside s := by simp [enterWaiting]

@[simp] theorem outside_extinguish (n : LampState) (s : State) : outside (extinguish n s) = outside s := by
  unfold extinguish; cases s.lamp.state <;> simp [burning]

@[simp] theorem outside_setRelight (b : Bool) (s : State) : outside (setRelight b s) = outside s := rfl

@[simp] theorem outside_unwanted (s : State) : outside (unwanted s) = outside s := by
  unfold unwanted; cases s.lamp.state <;> simp

@[simp] theorem outside_startTest (s : State) : outside (startTest s) = outside s := by
  unfold startTest; split <;> simp

@[simp] theorem outside_nowWanted (s : State) : outside (nowWanted s) = outside s := by
  unfold nowWanted; (repeat' split) <;> simp

@[simp] theorem outside_onDecision (b : Bool) (s : State) : outside (onDecision b s) = outside s := by
  unfold onDecision; split <;> [skip; (split <;> [skip; split])] <;> simp

@[simp] theorem outside_beginAttempt (s : State) : outside (beginAttempt s) = outside s := rfl

@[simp] theorem outside_strikeTest (s : State) : outside (strikeTest s) = outside s := by
  unfold strikeTest; split <;> (try split) <;> simp

@[simp] theorem outside_clearSelection (s : State) : outside (clearSelection s) = outside s := rfl

@[simp] theorem outside_elect (s : State) : outside (elect s) = outside s := by unfold elect; split <;> simp

@[simp] theorem outside_electIfAvailable (b s : State) : outside (electIfAvailable b s) = outside s := by
  unfold electIfAvailable; split <;> simp

@[simp] theorem outside_groupOn (c : OnCause) (s : State) : outside (groupOn c s) = outside s := by
  unfold groupOn; split <;> [(simp only; split); split] <;> simp

@[simp] theorem outside_groupOff (s : State) : outside (groupOff s) = outside s := by unfold groupOff; split <;> simp

@[simp] theorem outside_lampUncovered (b s : State) : outside (lampUncovered b s) = outside s := by
  unfold lampUncovered; split <;> simp

@[simp] theorem outside_addLock (l : Lock) (s : State) : outside (addLock l s) = outside s := by
  unfold addLock; split <;> [skip; (simp only; split)] <;> simp

@[simp] theorem outside_removeLock (h : Holder) (s : State) : outside (removeLock h s) = outside s := by simp [removeLock]

@[simp] theorem outside_intoFault (s : State) : outside (intoFault s) = outside s := rfl

@[simp] theorem outside_latchFault (f : LampFault) (s : State) : outside (latchFault f s) = outside s := by
  unfold latchFault; simp only; split <;> simp

@[simp] theorem outside_failAttempt (s : State) : outside (failAttempt s) = outside s := by
  unfold failAttempt; simp only; split <;> simp

@[simp] theorem outside_clearFaults (s : State) : outside (clearFaults s) = outside s := by simp [clearFaults]

@[simp] theorem outside_tryClear (s : State) : outside (tryClear s).1 = outside s := by
  unfold tryClear; split <;> [skip; (split <;> [skip; split])] <;> simp

@[simp] theorem outside_lifeJudge (s : State) : outside (lifeJudge s) = outside s := by
  unfold lifeJudge; split <;> [(split <;> [skip; (simp only; split)]); skip] <;> simp

@[simp] theorem outside_judgeGroup (s : State) : outside (judgeGroup s) = outside s := by
  unfold judgeGroup; simp only; split <;> split <;> simp

@[simp] theorem outside_withdrawTest (b s : State) : outside (withdrawTest b s) = outside s := by
  unfold withdrawTest; split <;> simp

@[simp] theorem outside_retarget (s : State) : outside (retarget s) = outside s := by unfold retarget; split <;> simp

@[simp] theorem outside_fanStallJudge (s : State) : outside (fanStallJudge s) = outside s := rfl

@[simp] theorem outside_idleJudge (s : State) : outside (idleJudge s) = outside s := rfl

@[simp] theorem outside_beaconJudge (b s : State) : outside (beaconJudge b s) = outside s := by
  unfold beaconJudge; split
  · rfl
  · apply outside_setLine; unfold beaconDue; split <;> [split; skip] <;> rfl

/-- The settling of a step touches nothing outside. -/
@[simp] theorem outside_settle (b s : State) : outside (settle b s) = outside s := by simp [settle]

section Fields

/-! The fields of `outside`, one by one, for the settling. -/

variable (b s : State)

theorem settle_straps : (settle b s).straps = s.straps :=
  (congrArg State.straps (outside_settle b s) :)
theorem settle_settings : (settle b s).settings = s.settings :=
  (congrArg State.settings (outside_settle b s) :)
theorem settle_start : (settle b s).start = s.start :=
  (congrArg State.start (outside_settle b s) :)
theorem settle_pins : (settle b s).pins = s.pins :=
  (congrArg State.pins (outside_settle b s) :)
theorem settle_geometry : (settle b s).geometry = s.geometry :=
  (congrArg State.geometry (outside_settle b s) :)
theorem settle_peers : (settle b s).peers = s.peers :=
  (congrArg State.peers (outside_settle b s) :)
theorem settle_listen : (settle b s).listen = s.listen :=
  (congrArg State.listen (outside_settle b s) :)
theorem settle_panel : (settle b s).panel = s.panel :=
  (congrArg State.panel (outside_settle b s) :)
theorem settle_clock : (settle b s).clock = s.clock :=
  (congrArg State.clock (outside_settle b s) :)
theorem settle_schedule : (settle b s).schedule = s.schedule :=
  (congrArg State.schedule (outside_settle b s) :)
theorem settle_serial : (settle b s).serial = s.serial :=
  (congrArg State.serial (outside_settle b s) :)
theorem settle_scalerLink : (settle b s).scalerLink = s.scalerLink :=
  (congrArg State.scalerLink (outside_settle b s) :)
theorem settle_pending : (settle b s).pending = s.pending :=
  (congrArg State.pending (outside_settle b s) :)

end Fields

end Sys2Proof.Machine
end

