-- ==== Sys2Proof/Laws/Quiet.lean ====
section
/-! SUPPORT. The settling of a step that changed nothing the settling reads: only the change-driven beacon is left. -/

namespace Sys2Proof.Machine

variable {s u : State}

theorem lockSet_grows {l : Lock} (h : lockOf s.locks l.holder = none) : (addLock l s).locks ≠ s.locks := by
  intro e
  have hn : l ∉ s.locks := by
    intro hm
    have := List.find?_eq_none.mp h l hm
    simp at this
  have hl : l ∈ (addLock l s).locks := by
    rw [addLock_locks]; simp [hn]
  exact hn (e ▸ hl)

theorem lifeJudge_quiet (q : Quiet s u) (h : lifeJudge s = s) : lifeJudge u = u := by
  obtain ⟨hl, hw, -, -, hk, -, hset, -⟩ := q
  unfold lifeJudge lifeReached at h ⊢
  rw [hl, hw, hset]
  split at h
  · rename_i hc
    rw [if_pos hc]
    split at h
    · rename_i hs
      rw [if_pos hs]
      have := congrArg State.wear h
      simp only [State.setWear_wear] at this
      rw [this, ← hw]; rfl
    · rename_i hs
      rw [if_neg hs]
      simp only [State.setWear_locks] at h ⊢
      rw [hk]
      split at h
      · rename_i hf
        rw [if_pos hf]
        have := congrArg State.wear h
        simp only [State.setWear_wear] at this
        rw [this, ← hw]; rfl
      · rename_i hf
        exact absurd (congrArg State.locks h)
          (lockSet_grows (s := s.setWear _) (l := ⟨.wear, scopesLamp, none⟩) (by simpa using hf))
  · rename_i hc; rw [if_neg hc]

theorem startConditions_quiet (q : Quiet s u) : startConditions u = startConditions s := by
  obtain ⟨hl, hw, hc, hg, hk, hp, hset, hst, ht, hsu, hf, h1, h2, h3, -⟩ := q
  unfold startConditions wanted
  rw [hl, hg, hk, h1, h2, h3, hsu]

theorem startTest_quiet (q : Quiet s u) (h : startTest s = s) : startTest u = u := by
  unfold startTest at h ⊢
  rw [startConditions_quiet q, q.1]
  split at h
  · rename_i hc
    have := congrArg (fun s => s.lamp.state) h
    simp [enterWaiting_lamp, hc.1] at this
  · rename_i hc; rw [if_neg hc]

theorem permission_quiet (q : Quiet s u) : permission u = permission s := by
  obtain ⟨hl, hw, hc, hg, hk, hp, hset, hst, -⟩ := q
  unfold permission ownClaimed
  rw [hc, hset, hst]

theorem strikeTest_quiet (q : Quiet s u) (h : strikeTest s = s) : strikeTest u = u := by
  have hb : ∀ x : State, (beginAttempt x).lamp.state = .striking .attempt := fun _ => rfl
  have hp := permission_quiet q
  obtain ⟨hl, hw, hc, hg, hk, hpe, hset, hst, ht, hsu, -⟩ := q
  unfold strikeTest at h ⊢
  rw [hp, hl, ht, hsu]
  split at h
  · split at h
    · rename_i e _
      have := congrArg (fun s => s.lamp.state) h
      simp [hb, e] at this
    · rename_i hc; rw [if_neg hc]
  · split at h
    · rename_i e _
      have := congrArg (fun s => s.lamp.state) h
      simp [hb, e] at this
    · rename_i hc; rw [if_neg hc]
  all_goals rfl

theorem members_quiet (q : Quiet s u) : ownMember u = ownMember s ∧ peerMembers u = peerMembers s ∧
    committedPeers u = committedPeers s ∧ committedSet u = committedSet s ∧ targetLevel u = targetLevel s ∧
    unclampedPower u = unclampedPower s ∧ powerInputs u = powerInputs s ∧ groupShort u = groupShort s ∧
    withdraws u = withdraws s := by
  obtain ⟨hl, hw, hc, hg, hk, hp, hset, hst, ht, hsu, hf, h1, h2, h3, -⟩ := q
  have e1 : ownMember u = ownMember s := by
    simp only [ownMember, ownAvailable, reportedBand, reportedHours, wearHours, hl, hw, hg, hk, hst, hf, h1, h2, h3]
  have e2 : peerMembers u = peerMembers s := by simp only [peerMembers, hp, hset]
  have e3 : committedPeers u = committedPeers s := by simp only [committedPeers, e2]
  have e4 : committedSet u = committedSet s := by simp only [committedSet, members, e1, e2]
  have e5 : targetLevel u = targetLevel s := by simp only [targetLevel, hg, hset]
  have e6 : unclampedPower u = unclampedPower s := by simp only [unclampedPower, e3, e5, hf]
  refine ⟨e1, e2, e3, e4, e5, e6, ?_, ?_, ?_⟩
  · simp only [powerInputs, e5, e3, hf, hl, hg]
  · simp only [groupShort, e4, e5, hg]
  · simp only [withdraws, e1, e3, e5, hg, hl]

theorem Quiet.setGroup (q : Quiet s u) (g : Group) : Quiet (s.setGroup g) (u.setGroup g) := by
  obtain ⟨hl, hw, hc, hg, hk, hp, hset, hst, ht, hsu, hf, h1, h2, h3, h4, h5, h6⟩ := q
  exact ⟨hl, hw, hc, rfl, hk, hp, hset, hst, ht, hsu, hf, h1, h2, h3, h4, h5, h6⟩

theorem Quiet.setLamp (q : Quiet s u) (l : Lamp) : Quiet (s.setLamp l) (u.setLamp l) := by
  obtain ⟨hl, hw, hc, hg, hk, hp, hset, hst, ht, hsu, hf, h1, h2, h3, h4, h5, h6⟩ := q
  exact ⟨rfl, hw, hc, hg, hk, hp, hset, hst, ht, hsu, hf, h1, h2, h3, h4, h5, h6⟩

/-- The judgement of the group changes the group and the lamp alone. -/
theorem judgeGroup_eq (s : State) :
    judgeGroup s = (s.setGroup (judgeGroup s).group).setLamp (judgeGroup s).lamp := by
  unfold judgeGroup; simp only; (repeat' split) <;> rfl

theorem judgeGroup_congr (q : Quiet s u) :
    (judgeGroup u).group = (judgeGroup s).group ∧ (judgeGroup u).lamp = (judgeGroup s).lamp := by
  obtain ⟨-, -, e3, -, e5, e6, -, -, -⟩ := members_quiet q
  have c1 : commonPower u = commonPower s := by simp only [commonPower, e6, q.1, q.2.2.2.2.2.2.1]
  have c2 : shortfallNow u = shortfallNow s := by simp only [shortfallNow, e6, q.1]
  have qg := q.2.2.2.1
  unfold judgeGroup
  simp only [c1, c2, e6, qg]
  split
  · rw [(members_quiet (q.setGroup _)).2.2.2.2.2.2.2.1]
    split <;> exact ⟨rfl, q.1⟩
  · simp only [State.setGroup_lamp, q.1]
    rw [(members_quiet ((q.setGroup _).setLamp _)).2.2.2.2.2.2.2.1]
    split <;> exact ⟨rfl, rfl⟩

theorem judgeGroup_quiet (q : Quiet s u) (h : judgeGroup s = s) : judgeGroup u = u := by
  obtain ⟨h1, h2⟩ := judgeGroup_congr q
  rw [judgeGroup_eq, h1, h2, h, ← q.1, ← q.2.2.2.1]; rfl

theorem retarget_quiet (q : Quiet s u) (h : retarget s = s) : retarget u = u := by
  obtain ⟨hl, hw, hc, hg, hk, hp, hset, -⟩ := q
  unfold retarget at h ⊢
  rw [hl, hset]
  split at h
  · rename_i hc
    rw [if_pos hc]
    have := congrArg State.lamp h
    simp only [State.setLamp_lamp] at this
    rw [this, ← hl]; rfl
  · rename_i hc; rw [if_neg hc]

theorem fanStallJudge_quiet (q : Quiet s u) (h : fanStallJudge s = s) : fanStallJudge u = u := by
  obtain ⟨hl, hw, hc, hg, hk, hp, hset, hst, ht, -⟩ := q
  unfold fanStallJudge at h ⊢
  have := congrArg State.lamp h
  simp only [State.setLamp_lamp] at this
  rw [hl, ht, this, ← hl]; rfl

theorem idleJudge_quiet (q : Quiet s u) (h : idleJudge s = s) : idleJudge u = u := by
  obtain ⟨hl, hw, hc, hg, hk, hp, hset, hst, ht, hsu, hf, h1, h2, h3, h4, h5, h6⟩ := q
  unfold idleJudge at h ⊢
  have := congrArg (fun s => s.source.idle) h
  simp only [State.setSource_source] at this
  have hi : idleCondition u = idleCondition s := by
    simp only [idleCondition, shownPresent, inputPresent, hg, hl, h4, h5]
  rw [hi, hset, h6, this, ← h6]; rfl

theorem withdrawTest_same {b : State} (h : powerInputs b = powerInputs s) : withdrawTest b s = s := by
  unfold withdrawTest; rw [if_neg]; exact fun c => c.1 h

/-- The settling after a step from a settled state that changed nothing the settling reads. -/
theorem settle_quiet (h : Settled s) (q : Quiet s u) : settle s u = beaconJudge s u := by
  obtain ⟨h1, h2, h3, h4, h5, h6, h7⟩ := h
  have e := (members_quiet q).2.2.2.2.2.2.1
  unfold settle
  simp only [lifeJudge_quiet q h1, startTest_quiet q h2, strikeTest_quiet q h3, judgeGroup_quiet q h4,
    withdrawTest_same e.symm, retarget_quiet q h5, fanStallJudge_quiet q h6, idleJudge_quiet q h7]

end Sys2Proof.Machine
end

