-- ==== Sys2Proof/Laws/Receive.lean ====
section
/-! SUPPORT. The receiver: the characters of a telegram bring it to its owner, and the signals that discard one. -/

namespace Sys2Proof.Machine

variable {s : State} {t : Telegram}

/-- A telegram has six characters more than its body (R169). -/
theorem frameOf_length (t : Telegram) : (frameOf t).length = t.body.length + 6 := by
  simp [frameOf, beBytes]

/-- The settling judges the state before a step by its power inputs and beacon causes alone (R80, R119). -/
theorem settle_before {b c : State} (h1 : powerInputs b = powerInputs c) (h2 : beaconCauses b = beaconCauses c)
    (x : State) : settle b x = settle c x := by
  unfold settle withdrawTest beaconJudge; rw [h1, h2]

/-- A character of a telegram that is not its last joins it (R172). -/
theorem readByte_joins (hb : t.body.length ≤ 24) {k : Nat} (hk : k + 1 < (frameOf t).length) :
    readByte ((frameOf t).take k) ((frameOf t)[k]'(by omega)) = ⟨.receiving ((frameOf t).take (k + 1)), false, none⟩ := by
  have hl := frameOf_length t
  have hg : (frameOf t).take k ++ [(frameOf t)[k]'(by omega)] = (frameOf t).take (k + 1) :=
    List.take_append_getElem (by omega)
  unfold readByte
  rw [hg]
  have hf : frameOf t = t.kind :: t.origin :: t.dest :: byteOf t.body.length ::
      (t.body ++ beBytes 2 (crc ([t.kind, t.origin, t.dest, byteOf t.body.length] ++ t.body)).toNat) := rfl
  have hn : (byteOf t.body.length).toNat = t.body.length := by
    simp only [byteOf, BitVec.toNat_ofNat]; omega
  rcases k with _ | _ | _ | _ | j
  · rw [hf]; rfl
  · rw [hf]; rfl
  · rw [hf]; rfl
  · rw [hf]
    simp only [List.take_succ_cons, List.take_zero, hn]
    rw [if_neg (by omega)]
  · have h4 : (frameOf t).take (j + 4 + 1) = t.kind :: t.origin :: t.dest :: byteOf t.body.length ::
        ((t.body ++ beBytes 2 (crc ([t.kind, t.origin, t.dest, byteOf t.body.length] ++ t.body)).toNat).take (j + 1)) := by
      conv_lhs => rw [hf]
      rfl
    rw [h4]
    have h5 : ∃ y ys, (t.body ++ beBytes 2 (crc ([t.kind, t.origin, t.dest, byteOf t.body.length] ++ t.body)).toNat).take
        (j + 1) = y :: ys := by
      match h : t.body ++ beBytes 2 (crc ([t.kind, t.origin, t.dest, byteOf t.body.length] ++ t.body)).toNat with
      | [] => simp [beBytes] at h
      | y :: ys => exact ⟨y, ys.take j, rfl⟩
    obtain ⟨y, ys, h5⟩ := h5
    rw [h5]
    simp only
    have h6 : (y :: ys).length = min (j + 1) (t.body.length + 2) := by rw [← h5]; simp [beBytes]
    rw [hn, if_pos (by rw [h6]; omega)]

/-- The last character of a telegram completes it: its check is the one received (R172). -/
theorem readByte_completes (hb : t.body.length ≤ 24) {k : Nat} (hk : k + 1 = (frameOf t).length) :
    readByte ((frameOf t).take k) ((frameOf t)[k]'(by omega)) = ⟨.idle, false, some t⟩ := by
  have hl := frameOf_length t
  have hg : (frameOf t).take k ++ [(frameOf t)[k]'(by omega)] = frameOf t := by
    rw [List.take_append_getElem (by omega), hk, List.take_length]
  unfold readByte
  rw [hg]
  have hn : (byteOf t.body.length).toNat = t.body.length := by
    simp only [byteOf, BitVec.toNat_ofNat]; omega
  have hf : ∃ y ys, t.body ++ beBytes 2 (crc ([t.kind, t.origin, t.dest, byteOf t.body.length] ++ t.body)).toNat =
      y :: ys := by
    match h : t.body ++ beBytes 2 (crc ([t.kind, t.origin, t.dest, byteOf t.body.length] ++ t.body)).toNat with
    | [] => simp [beBytes] at h
    | y :: ys => exact ⟨y, ys, rfl⟩
  obtain ⟨y, ys, h⟩ := hf
  have he : frameOf t = t.kind :: t.origin :: t.dest :: byteOf t.body.length :: y :: ys := by rw [← h]; rfl
  have h6 : (y :: ys).length = t.body.length + 2 := by rw [← h]; simp [beBytes]
  have h7 : (y :: ys).take t.body.length = t.body := by rw [← h]; simp
  have h8 : frameOf ⟨t.kind, t.origin, t.dest, t.body⟩ = frameOf t := rfl
  conv_lhs => rw [he]
  simp only
  rw [hn, if_neg (by omega), h7, h8, if_pos he]

/-- From a telegram in hand, its remaining characters complete it and it is delivered (R172, R173). -/
theorem receiveAll_rest (hb : t.body.length ≤ 24) (n : Nat) : ∀ (k : Nat) (s : State), 1 ≤ k →
    k + n + 1 = (frameOf t).length → s.line.reading = .receiving ((frameOf t).take k) →
      receiveAll (((frameOf t).drop k).map (.char false)) s = settle s (deliver t (telegramIn s)) := by
  induction n with
  | zero =>
    intro k s h1 hk hr
    have hd : (frameOf t).drop k = [(frameOf t)[k]'(by omega)] := by
      rw [List.drop_eq_getElem_cons (by omega), List.drop_eq_nil_of_le (by omega)]
    have hne : ((frameOf t).take k).isEmpty = false := by
      simp only [List.isEmpty_eq_false_iff, ne_eq, ← List.length_eq_zero_iff, List.length_take]; omega
    have hs : readSignal s.line.reading (.char false ((frameOf t)[k]'(by omega))) = ⟨.idle, false, some t⟩ := by
      rw [hr]
      simp only [readSignal, readUnmarked, hne]
      exact readByte_completes hb (by omega)
    rw [hd]
    simp only [List.map_cons, List.map_nil, receiveAll, receiveOne, hear, hs]
    rfl
  | succ n ih =>
    intro k s h1 hk hr
    have hd : (frameOf t).drop k = (frameOf t)[k]'(by omega) :: (frameOf t).drop (k + 1) :=
      List.drop_eq_getElem_cons (by omega)
    have hne : ((frameOf t).take k).isEmpty = false := by
      simp only [List.isEmpty_eq_false_iff, ne_eq, ← List.length_eq_zero_iff, List.length_take]; omega
    have hs : readSignal s.line.reading (.char false ((frameOf t)[k]'(by omega))) =
        ⟨.receiving ((frameOf t).take (k + 1)), false, none⟩ := by
      rw [hr]
      simp only [readSignal, readUnmarked, hne]
      exact readByte_joins hb (by omega)
    rw [hd]
    simp only [List.map_cons, receiveAll, receiveOne, hear, hs]
    rw [ih (k + 1) _ (by omega) (by omega) rfl]
    exact (settle_before rfl rfl _).trans rfl

/-- A telegram whose remaining characters arrive is delivered (R172, R173), from the state once it is in. -/
theorem receive_arrives {k : Nat} (h : Arrives t k s) :
    receive (signalsFrom k t) s = settle s (deliver t (telegramIn s)) := by
  obtain ⟨hr, hb, hk, hread⟩ := h
  have hl := frameOf_length t
  unfold receive
  rw [if_pos hr]
  match k with
  | 0 =>
    have hd : frameOf t = (frameOf t)[0]'(by omega) :: (frameOf t).drop 1 := by
      have := List.drop_eq_getElem_cons (l := frameOf t) (i := 0) (by omega)
      simpa using this
    have hsig : signalsFrom 0 t = .char true ((frameOf t)[0]'(by omega)) :: ((frameOf t).drop 1).map (.char false) := by
      conv_lhs => rw [signalsFrom, hd]
      rfl
    have ht : (frameOf t).take 1 = [(frameOf t)[0]'(by omega)] := rfl
    have hs : readSignal s.line.reading (.char true ((frameOf t)[0]'(by omega))) =
        ⟨.receiving ((frameOf t).take 1), false, none⟩ := by
      rw [ht]
      rcases hread with h | ⟨-, h | h⟩ <;> rw [h] <;> rfl
    rw [hsig]
    simp only [receiveAll, receiveOne, hear, hs]
    rw [receiveAll_rest hb (t.body.length + 4) 1 _ (by omega) (by omega) rfl]
    exact (settle_before rfl rfl _).trans rfl
  | k + 1 =>
    have hsig : signalsFrom (k + 1) t = ((frameOf t).drop (k + 1)).map (.char false) := by
      have hd : frameOf t = (frameOf t)[0]'(by omega) :: (frameOf t).drop 1 := by
        have := List.drop_eq_getElem_cons (l := frameOf t) (i := 0) (by omega)
        simpa using this
      conv_lhs => rw [signalsFrom, hd]
      simp only [signalsOf, List.drop_succ_cons, ← List.map_drop, List.drop_drop]
      congr 2; omega
    rw [hsig]
    have hread : s.line.reading = .receiving ((frameOf t).take (k + 1)) := by
      rcases hread with h | ⟨h, -⟩
      · exact h
      · omega
    exact receiveAll_rest hb (t.body.length + 4 - k) (k + 1) s (by omega) (by omega) hread

/-- A verdict on the deferral stands to the end of the recessive time (R170, log 44). -/
theorem idleOver_stands {d : Bool} (h : s.line.idle = .over d) : idleOver s = .over d := by
  unfold idleOver; rw [h]

/-- A telegram of a known kind that passes goes to its owner (R173). -/
theorem deliver_received {kind : Byte} {k : Nat} (h : Received kind t k s) (hk : allKinds.contains kind = true) :
    deliver t (telegramIn s) = handTo t (telegramIn s) := by
  obtain ⟨-, rfl, h2, h3⟩ := h
  have h4 : passesFilter (telegramIn s) t = passesFilter s t := rfl
  unfold deliver
  have h5 : (!allKinds.contains t.kind || decide (31 < t.origin.toNat)) = false := by
    rw [hk, decide_eq_false (by omega)]; rfl
  rw [h5, h4, h3]; rfl

end Sys2Proof.Machine
end

