-- ==== Sys2Proof/Laws/Source.lean ====
section
/-! SUPPORT. The Source Selector: what a sample of a presence line, the beginning of a switch, the judgement and a push can
do. -/

namespace Sys2Proof.Machine

variable {s : State}

/-- One sample debounces one line (R122, R123). -/
theorem senseSample_debounced (x : InputSense) (level : Bool) : Debounced x (senseSample x level) level := by
  obtain ⟨p, run, last⟩ := x
  unfold Debounced senseSample
  cases p <;> cases level <;> simp <;> (try split) <;> (try simp_all) <;> grind

/-- The first entry for which a condition on the input holds is the first entry of its input. -/
theorem firstEntry {p : Input → Bool} {xs : List SourceEntry} {e : SourceEntry}
    (h : (xs.find? fun x => p x.input) = some e) : (xs.find? fun x => some x.input == some e.input) = some e := by
  induction xs with
  | nil => cases h
  | cons y ys ih =>
    rw [List.find?_cons] at h ⊢
    by_cases hp : p y.input = true
    · rw [hp] at h; simp only [Option.some.injEq] at h; subst h; simp
    · rw [Bool.not_eq_true] at hp
      rw [hp] at h
      have hpe : p e.input = true := by
        have := List.find?_some h; exact this
      have hne : (some y.input == some e.input) = false := by
        simp only [beq_eq_false_iff_ne, ne_eq, Option.some.injEq]; intro he; rw [he, hpe] at hp; cases hp
      rw [hne]; exact ih h

/-- The beginning of a switch changes the selector, the link and the engine's two counters alone (R131). -/
theorem beginSwitch_source (w : Option Input) (s : State) : (beginSwitch w s).source =
    { s.source with hold := none, shown := w, switch := some 1500, state := .switching } := by
  unfold beginSwitch; rw [sendSelect_eq]; rfl

/-- A switch to the first entry of an input (R131). -/
theorem beginSwitch_to {e : SourceEntry}
    (h : (s.source.list.find? fun x => some x.input == some e.input) = some e) :
    SwitchTo e s (beginSwitch (some e.input) s) := by
  refine ⟨by rw [beginSwitch_source], ?_⟩
  have hs := sendSelect_sent (some e.input) (some e.origin)
    (s.setSource
      { s.source with hold := none, shown := some e.input, switch := some 1500, state := .switching })
  have hb : beginSwitch (some e.input) s = sendSelect (some e.input) (some e.origin)
      (s.setSource
        { s.source with hold := none, shown := some e.input, switch := some 1500, state := .switching }) := by
    unfold beginSwitch; rw [h]; rfl
  rw [hb]; exact hs

/-- The wanted input is that of the wanted entry (R129). -/
theorem wantedInput_entry (s : State) :
    wantedInput s = (wantedEntry (shownProtected s) s).map fun e => e.input := by
  unfold wantedInput wantedEntry
  cases hl : s.source.list with
  | nil => rfl
  | cons top rest =>
    simp only
    cases s.source.topPassed with
    | false => rfl
    | true =>
      simp only [if_true]
      cases (top :: rest).find? _ <;> rfl

/-- The wanted entry is the first of its input. -/
theorem wantedEntry_first {b : Bool} {e : SourceEntry} (h : wantedEntry b s = some e) :
    (s.source.list.find? fun x => some x.input == some e.input) = some e := by
  unfold wantedEntry at h
  cases hl : s.source.list with
  | nil => rw [hl] at h; cases h
  | cons top rest =>
    have top_first : ((top :: rest).find? fun x => some x.input == some top.input) = some top := by simp
    rw [hl] at h
    simp only at h
    split at h
    · cases hf : (top :: rest).find? fun e =>
        inputPresent s e.input || b && s.source.shown == some e.input with
      | none =>
        rw [hf] at h
        simp only [Option.getD_none, Option.some.injEq] at h; subst h; exact top_first
      | some x =>
        rw [hf] at h
        simp only [Option.getD_some, Option.some.injEq] at h; subst h
        exact firstEntry (p := fun i => inputPresent s i || b && s.source.shown == some i) hf
    · simp only [Option.some.injEq] at h; subst h; exact top_first

/-- The judgement of R130 where the shown input is the wanted one. -/
theorem judgeWith_shown (s : State) :
    if shownPresent s = true then StaysIn .showing none s (judgeWith s.source.shown s)
    else if s.source.hold.isSome = true then StaysIn .holding s.source.hold s (judgeWith s.source.shown s)
    else if s.source.shown = none ∨ s.source.shown = topInput s ∧ s.source.topPassed = true then
      StaysIn .noSignal none s (judgeWith s.source.shown s)
    else StaysIn .holding (some (s.settings.hold * 1000)) s (judgeWith s.source.shown s) := by
  have hj : judgeWith s.source.shown s =
      if shownPresent s then s.setSource { s.source with hold := none, switch := none, state := .showing }
      else if s.source.hold.isSome then s.setSource { s.source with switch := none, state := .holding }
      else if s.source.shown = none ∨ (s.source.shown = topInput s ∧ s.source.topPassed = true) then
        s.setSource { s.source with switch := none, state := .noSignal }
      else s.setSource { s.source with hold := some (s.settings.hold * 1000), switch := none, state := .holding } := by
    unfold judgeWith; rw [if_neg (fun h => h rfl)]
  rw [hj]
  by_cases h1 : shownPresent s = true
  · rw [if_pos h1, if_pos h1]; exact ⟨rfl, rfl, rfl⟩
  rw [if_neg h1, if_neg h1]
  by_cases h2 : s.source.hold.isSome = true
  · rw [if_pos h2, if_pos h2]; exact ⟨rfl, rfl, rfl⟩
  rw [if_neg h2, if_neg h2]
  have h3 : s.source.hold = none := by simpa using h2
  split
  · refine ⟨?_, rfl, rfl⟩
    rw [State.setSource_source, ← h3]
  · exact ⟨rfl, rfl, rfl⟩

/-- What the judgement of R130 does, on the wanted entry. -/
theorem judgeWith_judged (b : Bool) (s : State) :
    Judged (wantedEntry b s) s (judgeWith ((wantedEntry b s).map fun e => e.input) s) := by
  constructor
  · intro e he hne
    have he : wantedEntry b s = some e := he
    rw [he]
    unfold judgeWith
    rw [if_pos (by simpa using fun h => hne h.symm)]
    exact beginSwitch_to (wantedEntry_first he)
  · intro h
    rw [← h]
    exact judgeWith_shown s

/-- The judgement on the entry on top, with top passed clear and no hold, as a push leaves them (R124, R130). -/
theorem judgeWith_top {e : SourceEntry} {rest : List SourceEntry} (hl : s.source.list = e :: rest)
    (hp : s.source.topPassed = false) (hh : s.source.hold = none) :
    (s.source.shown ≠ some e.input → SwitchTo e s (judgeWith (wantedInput s) s)) ∧
    (s.source.shown = some e.input →
      if inputPresent s e.input = true then StaysIn .showing none s (judgeWith (wantedInput s) s)
      else StaysIn .holding (some (s.settings.hold * 1000)) s (judgeWith (wantedInput s) s)) := by
  have hw : wantedEntry (shownProtected s) s = some e := by unfold wantedEntry; rw [hl, hp]; rfl
  have hj := judgeWith_judged (shownProtected s) s
  rw [← wantedInput_entry, hw] at hj
  refine ⟨fun hne => hj.1 e rfl hne, fun heq => ?_⟩
  have h := hj.2 heq
  have hs : shownPresent s = inputPresent s e.input := by unfold shownPresent; rw [heq]
  rw [hs, hh, heq, hp] at h
  simpa using h

/-- A switch that a push begins (R124, R131). -/
theorem SwitchTo.shows {e : SourceEntry} {u : State} (h : SwitchTo e s u) :
    u.source.list = s.source.list ∧ u.source.topPassed = s.source.topPassed ∧ u.source.inputs = s.source.inputs ∧
    u.source.shown = some e.input ∧ u.source.state = .switching ∧ u.source.switch = some 1500 ∧
    u.source.hold = none ∧ SelectSent (some e.input) (some e.origin) s u := by
  obtain ⟨h1, h2⟩ := h
  rw [h1]
  exact ⟨rfl, rfl, rfl, rfl, rfl, rfl, rfl, h2⟩

/-- A push is the change of the list, then the judgement or, while SWITCHING, the test of the target (R124, R133). -/
theorem push_eq (i : Input) (o : Origin) (s : State) : ∃ v : State,
    v = s.setSource { s.source with list := pushed i o s.source.list, topPassed := false, hold := none } ∧
    (v.source.state ≠ .switching → push i o s = judgeWith (wantedInput v) v) ∧
    (v.source.state = .switching →
      (v.source.shown = none → push i o s = v) ∧
      ∀ x, v.source.shown = some x →
        push i o s = if v.source.list.any fun e => e.input == x then v else beginSwitch (wantedInput v) v) := by
  refine ⟨_, rfl, ?_⟩
  have hp : push i o s =
      (fun v : State => match v.source.state with
        | .switching =>
          match v.source.shown with
          | none => v
          | some t => if v.source.list.any fun e => e.input == t then v else beginSwitch (wantedInput v) v
        | .showing => judgeSource v
        | .holding => judgeSource v
        | .noSignal => judgeSource v)
      (s.setSource { s.source with list := pushed i o s.source.list, topPassed := false, hold := none }) := rfl
  rw [hp]
  generalize s.setSource { s.source with list := pushed i o s.source.list, topPassed := false, hold := none } = v
  refine ⟨fun h => ?_, fun h => ⟨fun hn => ?_, fun x hx => ?_⟩⟩
  · simp only [judgeSource]
    split
    · rename_i hs; exact absurd hs h
    all_goals rename_i hs; simp only [hs]
  · simp only [h, hn]
  · simp only [h, hx]

/-- What a push does (R124, R130, R133). -/
theorem push_pushed (i : Input) (o : Origin) (s : State) : PushedOnTop i o s (push i o s) := by
  obtain ⟨v, hv, hjudge, hswitch⟩ := push_eq i o s
  have hlist : v.source.list = ⟨i, o⟩ :: (pushed i o s.source.list).tail := by rw [hv]; rfl
  have hl : v.source.list = (⟨i, o⟩ :: s.source.list.filter fun e => e.input != i).take 4 := by rw [hv]; rfl
  have htop : v.source.topPassed = false := by rw [hv]; rfl
  have hhold : v.source.hold = none := by rw [hv]; rfl
  have hin : v.source.inputs = s.source.inputs := by rw [hv]; rfl
  have hshown : v.source.shown = s.source.shown := by rw [hv]; rfl
  have hstate : v.source.state = s.source.state := by rw [hv]; rfl
  have htimer : v.source.switch = s.source.switch := by rw [hv]; rfl
  have hlink : v.scalerLink = s.scalerLink := by rw [hv]; rfl
  have hgeo : v.geometry = s.geometry := by rw [hv]; rfl
  have hset : v.settings = s.settings := by rw [hv]; rfl
  have hsent {u : State} (h : SelectSent (some i) (some o) v u) : SelectSent (some i) (some o) s u := by
    unfold SelectSent at h ⊢; rwa [hlink, hgeo] at h
  have hpres : inputPresent v i = inputPresent s i := by unfold inputPresent; rw [hin]
  have hjt := judgeWith_top hlist htop hhold
  have hbegin : SwitchTo ⟨i, o⟩ v (beginSwitch (wantedInput v) v) := by
    have hw : wantedInput v = some i := by unfold wantedInput; rw [hlist, htop]; rfl
    rw [hw]
    exact beginSwitch_to (e := ⟨i, o⟩) (by rw [hlist]; simp)
  rw [hstate] at hjudge hswitch
  rw [hshown] at hswitch hjt
  by_cases hst : s.source.state = .switching
  · obtain ⟨hnone, hsome⟩ := hswitch hst
    have hno {p : Prop} : s.source.state ≠ .switching → p := fun h => absurd hst h
    cases hsh : s.source.shown with
    | none =>
      rw [hnone hsh]
      exact ⟨hl, htop, hin, hno, hno, fun x hx => by rw [hsh] at hx; cases hx⟩
    | some t =>
      have ht {x : Input} (hx : x ∈ s.source.shown) : t = x := by rw [hsh] at hx; cases hx; rfl
      rw [hsome t hsh]
      by_cases hany : (v.source.list.any fun e => e.input == t) = true
      · rw [if_pos hany]
        refine ⟨hl, htop, hin, hno, hno, fun x hx _ => ?_⟩
        obtain rfl := ht hx
        exact ⟨fun _ => ⟨hshown.trans hsh, hstate.trans hst, htimer, hlink, hgeo⟩,
          fun h => by rw [hany] at h; cases h⟩
      · rw [if_neg hany]
        obtain ⟨h1, h2, h3, h4, h5, h6, h7, h8⟩ := hbegin.shows
        refine ⟨h1.trans hl, h2.trans htop, h3.trans hin, hno, hno, fun x hx _ => ?_⟩
        obtain rfl := ht hx
        exact ⟨fun h => absurd (h1 ▸ h) hany, fun _ => ⟨h4, h5, h6, h7, hsent h8⟩⟩
  · have hno {p : Prop} : s.source.state = .switching → p := fun h => absurd h hst
    rw [hjudge hst]
    by_cases hsh : s.source.shown = some i
    · have h := hjt.2 hsh
      by_cases hp : inputPresent s i = true
      · rw [if_pos (hpres.trans hp)] at h
        obtain ⟨h1, h2, h3⟩ := h
        refine ⟨by rw [h1]; exact hl, by rw [h1]; exact htop, by rw [h1]; exact hin, fun _ h => absurd hsh h,
          fun _ _ => ?_, fun _ _ => hno⟩
        rw [h1, h2, h3, if_pos hp, if_pos hp]
        exact ⟨hshown.trans hsh, hlink, hgeo, rfl, rfl, rfl⟩
      · rw [if_neg (fun h => hp (hpres.symm.trans h))] at h
        obtain ⟨h1, h2, h3⟩ := h
        refine ⟨by rw [h1]; exact hl, by rw [h1]; exact htop, by rw [h1]; exact hin, fun _ h => absurd hsh h,
          fun _ _ => ?_, fun _ _ => hno⟩
        rw [h1, h2, h3, if_neg hp, if_neg hp, hset]
        exact ⟨hshown.trans hsh, hlink, hgeo, rfl, rfl, rfl⟩
    · obtain ⟨h1, h2, h3, h4, h5, h6, h7, h8⟩ := (hjt.1 hsh).shows
      exact ⟨h1.trans hl, h2.trans htop, h3.trans hin, fun _ _ => ⟨h4, h5, h6, h7, hsent h8⟩,
        fun _ h => absurd h hsh, fun _ _ => hno⟩

end Sys2Proof.Machine
end

