-- ==== Sys2Proof/Tests/Slice0.lean ====
section
/-! SUPPORT. The model's own tests: what the well-formedness check refuses, worked values of the spec, and for each
statement with hypotheses a state and operands that meet them. -/

namespace Sys2Proof.Tests

open Sys2Proof Sys2Proof.Machine

set_option Elab.async false
set_option synthInstance.maxSize 4000
set_option synthInstance.maxHeartbeats 400000

/-! ### Well-formedness: an ill-formed command for each check -/

def aPower : PowerUp := ⟨1, 0, 0, true, false, false, []⟩

theorem test_wf_powerOn : (Instr.powerOn { aPower with toolWrites := [(512, 0)] }).wf = false ∧
    (Instr.powerOn { aPower with toolWrites := [(511, 0)] }).wf = true := by decide
theorem test_wf_secondPass : (Instr.secondPass [7]).wf = false ∧ (Instr.secondPass [0, 6]).wf = true := by decide
theorem test_wf_sendingAttempt : (Instr.sendingAttempt 95).wf = false ∧ (Instr.sendingAttempt 96).wf = true := by decide
theorem test_wf_no_signals : (Instr.receiveError []).wf = false ∧ (Instr.requestArrival []).wf = false ∧
    (Instr.time []).wf = false ∧ (Instr.telegramOfUnknownKind []).wf = false ∧
    (Instr.receiveError [.lineBreak]).wf = true := by decide
theorem test_wf_telegram_kind : (Instr.claim (signalsFrom 0 ⟨kindRelease, 3, 0, []⟩)).wf = false ∧
    (Instr.release (signalsFrom 0 ⟨kindClaim, 3, 0, []⟩)).wf = false ∧
    (Instr.time (signalsFrom 0 ⟨kindBeacon, 3, 0, []⟩)).wf = false ∧
    (Instr.answer (signalsFrom 0 ⟨kindGroupOn, 3, 0, []⟩)).wf = false ∧
    (Instr.requestArrival (signalsFrom 0 ⟨kindAnswer, 3, 0, []⟩)).wf = false ∧
    (Instr.claim (signalsFrom 0 ⟨kindClaim, 3, 0, []⟩)).wf = true ∧
    (Instr.claim (.char true kindBeacon :: signalsFrom 0 ⟨kindClaim, 3, 0, []⟩)).wf = true := by decide +kernel
theorem test_wf_telegram_origin : (Instr.beacon (signalsFrom 0 ⟨kindBeacon, 32, 0, []⟩)).wf = false ∧
    (Instr.beacon (signalsFrom 0 ⟨kindBeacon, 31, 0, []⟩)).wf = true := by decide +kernel
theorem test_wf_unknown : (Instr.telegramOfUnknownKind (signalsFrom 0 ⟨kindBeacon, 3, 0, []⟩)).wf = false ∧
    (Instr.telegramOfUnknownKind (signalsFrom 0 ⟨kindBeacon, 32, 0, []⟩)).wf = true ∧
    (Instr.telegramOfUnknownKind (signalsFrom 0 ⟨5, 3, 0, []⟩)).wf = true := by decide +kernel
theorem test_wf_station : (Instr.confirmWindowExpiry 0).wf = false ∧ (Instr.presenceTimerExpiry 32).wf = false ∧
    (Instr.ageTimerExpiry 0).wf = false ∧ (Instr.lockMinuteTimerExpiry 32).wf = false ∧
    (Instr.ageTimerExpiry 31).wf = true := by decide
theorem test_wf_write : (Instr.writeCompletion []).wf = false ∧ (Instr.writeTimeout [1]).wf = false ∧
    (Instr.writeTimeout (List.replicate 10 0)).wf = true := by decide
theorem test_wf_load : (Instr.loadAcknowledgement 256 1).wf = false ∧ (Instr.loadRefusal 1 3).wf = false ∧
    (Instr.loadRefusal 1 0).wf = false ∧ (Instr.loadAcknowledgement 255 2).wf = true := by decide
theorem test_wf_swapReport : (Instr.swapReport 256).wf = false ∧ (Instr.swapReport 255).wf = true := by decide
theorem test_wf_samples : (Instr.keypadPower []).wf = false ∧ (Instr.keypadSource []).wf = false ∧
    (Instr.keypadVPlus []).wf = false ∧ (Instr.keypadVMinus []).wf = false ∧ (Instr.keypadClear []).wf = false ∧
    (Instr.keySwitchSettle []).wf = false ∧ (Instr.keypadClear [true]).wf = true := by decide

/-! ### Values the spec works out -/

/-- The next state, if there is one. -/
def nextOf : Host.Outcome State Fault Refusal → Option State
  | .next s => some s
  | .fault _ => none
  | .refused _ => none

/-- The corner set of the worked example of 3.9, and its records and F. -/
def aSet : CornerSet := ⟨100, 99, 0, 150, 0, 150⟩
theorem test_records : (lineRecord 0 aSet 99).blank = true ∧ (lineRecord 0 aSet 701).blank = true ∧
    lineRecord 0 aSet 102 = ⟨false, 1, 1278, 3, 4102⟩ ∧ lineRecord 0 aSet 400 = ⟨false, 75, 1204, 400, 4640⟩ ∧
    lineRecord 0 aSet 700 = ⟨false, 150, 1129, 799, 5351⟩ := by decide +kernel
theorem test_lightFraction : lightFraction 0 aSet = 678 := by decide +kernel

/-- The roundings that R50 names. -/
theorem test_rounding : roundQuot 5 2 = 3 ∧ roundQuot (-5) 2 = -3 ∧ roundQuot 24 10 = 2 ∧ roundQuot (-26) 10 = -3 := by
  decide

/-- The wear record worked out in 12.6. -/
theorem test_wear_record : (recordBytes 1440027740 1312).map BitVec.toNat = [0, 85, 213, 20, 92, 0, 5, 32, 254, 64] := by
  decide +kernel

/-- The check is a CRC preset to ones, most significant bit first, not inverted (R169): "123456789" gives 0x29B1, the
value generally known for that CRC. -/
theorem test_crc : crc [0x31, 0x32, 0x33, 0x34, 0x35, 0x36, 0x37, 0x38, 0x39] = 0x29B1 := by decide +kernel

/-- No row of the table gives bits. -/
theorem test_no_word (n w : Nat) : decodeTableWord n w = none := rfl

/-- A POWER_ON as the first command after reset runs; an empty queue idles. -/
theorem test_first_command : nextOf (step (State.reset.setPending [.powerOn aPower])) = some State.reset ∧
    nextOf (step State.reset) = some State.reset := by decide +kernel

/-! ### Witnesses: states and operands that meet the hypotheses of the statements, clause by clause -/

/-- A station after its start: receiver on, key switch in NORMAL, lamp in DARK, group OFF, fan running. -/
def ready : State :=
  { State.reset with
    start := ⟨true, true, ⟨false, false, false, false, false⟩, some 300⟩
    pins := ⟨false, false, .running⟩
    lamp := { Lamp.powerOn with state := .dark, coolDown := none, restrike := none }
    listen := ⟨none, none, some 2000, none, 1⟩
    panel := ⟨⟨some .normal, .normal, 3⟩, ⟨false, true, 0⟩, ⟨false, true, 0⟩, ⟨false, true, 0⟩, ⟨false, true, 0⟩,
      ⟨false, true, 0⟩⟩
    line := { HallLine.powerOn with minute := some 60000 } }

/-- The state with what settles settled. -/
def atRest (s : State) : State := settle s s

/-- The group ON by schedule, the own station elected, the lamp in a state with power `p`. -/
def on (l : LampState) (p : Nat) : State :=
  atRest
    ((ready.setGroup { ready.group with mode := some .schedule, selection := .elected }).setLamp
      { ready.lamp with state := l, actual := p, renewal := some 4000, warmUp := some 60000 })

/-- An own claim at the head of the Claim List, in an attempt or a gap. -/
def striking (l : LampState) (n : Nat) (t : Tacho) : State :=
  atRest
    ((((on .warming 100).setClaims [⟨1, none⟩]).setPins ⟨false, false, t⟩).setLamp
      { (on .warming 100).lamp with
        state := l, attempts := n, actual := 0, warmUp := none, litWait := some 5000, retryGap := some 10000 })

/-- The lamp in COOLING with both timers running, relight-pending as given. -/
def cooling (relight : Bool) : State :=
  atRest ((on .warming 100).setLamp
    { Lamp.powerOn with relight := relight })

/-- The lamp in FAULT. -/
def faulty (f : LampFaults) (restrike coolDown : Timer) : State :=
  atRest (ready.setLamp { ready.lamp with state := .fault, faults := f, restrike := restrike, coolDown := coolDown })

/-- The request queue holds one request. -/
def asked (t : Telegram) (s : State) : State := s.setLine { s.line with requests := [t] }

/-- A request of station 3, directed to station 1. -/
def req (k : Byte) (body : List Byte) : Telegram := ⟨k, 3, 1, body⟩

/-- The KEYSWITCH lock stands. -/
def examLock (s : State) : State := s.setLocks [⟨.keySwitch, scopesExam, none⟩]

/-- The send queue holds one telegram, being sent at an attempt of a number. -/
def sendingOf (p : Payload) (n : Nat) (withdrawn : Bool) (s : State) : State :=
  s.setLine { s.line with queue := [⟨p, n, true, withdrawn⟩], attempt := some ⟨[], false⟩ }

/-- The key switch settled in SERVICE. -/
def service (s : State) : State := atRest (s.setPanel { s.panel with switch := ⟨some .service, .service, 3⟩ })

/-- The clock SURE at a second of a minute. -/
def clocked (minute seconds : Nat) (s : State) : State :=
  s.setClock { s.clock with minute := minute, seconds := seconds, sure := some 21600000, source := some 25 }

/-- A peer of the own group. -/
def aPeer (p : PresenceState) (misses : Nat) : Peer :=
  ⟨2, ⟨.projector, 1, 1, 2, .dark, 0, 1024, none, 0, none, none, .empty,
    ⟨false, false, false, false, false, false, false, false, false⟩⟩, p, misses, some 2000⟩

/-- The body of a beacon of a lectern panel. -/
def panelBody : List Byte := [2, 0, 0, 2, 0, 0, 0, 4, 0, 0, 0, 0, 0, 0, 0, 0, 0, 0]

/-- The receiver has read the first `k` characters of a telegram. -/
def part (t : Telegram) (k : Nat) (s : State) : State :=
  s.setLine { s.line with reading := .receiving ((frameOf t).take k) }

/-- A table of two records. -/
def twoLines : List LineRecord := [⟨true, 0, 0, 0, 0⟩, ⟨false, 8, 1271, 0, 4147⟩]

/-- The geometry engine at work on a set under identity 7. -/
def working (e : EngineState) (n : Nat) : State :=
  ready.setGeometry
    { ready.geometry with
      state := e, inFlight := some ⟨0, 0, 8, 0, 8, 0⟩, inFlightId := some 7, inFlightF := some 1000, attempt := n
      inFlightTable := if e = .computing then none else some twoLines, linesSent := 2
      loadWait := some 100, swapRepeat := some 100, swapTimeout := some 1000 }

/-- The selector shows IN1, its top entry, with the presence as given. -/
def shows (e : SelectorState) (p : Presence) (q : Presence) : State :=
  ready.setSource
    { ready.source with
      list := [⟨.in1, .keypad⟩, ⟨.in2, .station 3⟩], shown := some .in1, state := e
      hold := if e = .holding then some 8000 else none
      switch := if e = .switching then some 1500 else none
      inputs := ⟨⟨p, 2, false⟩, ⟨q, 2, true⟩, .unsettled, .unsettled, .unsettled, .unsettled⟩ }

/-- A slot record: every day of the week 10:00 to 11:00, LECTURE, every group. -/
def slotBody (id : Byte) : List Byte := [id, 127, 2, 88, 2, 148, 1, 255, 254, 0, 0, 0]
def aSlot (id : Nat) : Slot := ⟨id, 127, 600, 660, .lecture, 0xFFFE, none, none, 0⟩

/-- The same hour as a CLOSED slot, and with a source and a level. -/
def aClosed : Slot := { aSlot 9 with kind := .closed }
def sourced : Slot := { aSlot 9 with source := some .in2, level := some 120 }

/-- The engine part way through sending its table. -/
def sendingLines (n : Nat) : State :=
  (working .loading n).setGeometry { (working .loading n).geometry with loadWait := none, linesSent := 1 }

/-! ### What the review asked of the receiver, the link and the selector -/

/-- R172: the characters of a telegram, in two parts, make the telegram; with its last byte wrong it is counted. -/
theorem test_receiver :
    let t := req kindLevel [80]
    let s := (nextOf (exec (.receiveError ((signalsFrom 0 t).take 3)) ready)).getD State.reset
    s.line.reading = .receiving [kindLevel, 3, 1] ∧
      (nextOf (exec (.requestArrival (signalsFrom 3 t)) s)).map (fun u => (u.line.requests, u.line.count)) =
        some ([t], 0) ∧
      (nextOf (exec (.requestArrival ((signalsFrom 3 t).dropLast ++ [.char false 0])) s)).map
        (fun u => (u.line.requests, u.line.count)) = some ([], 1) := by decide +kernel

/-- R178: the winner's telegram is discarded where a LOSS drops the RESTART's ANSWER. -/
theorem test_winner_discarded :
    let t := req kindLevel [80]
    let s := (sendingOf (.answer 3 [] true) 16 false ready)
    let u := (nextOf (exec .loss (s.setLine { s.line with attempt := some ⟨[32, 1], false⟩ }))).getD State.reset
    u.line.reading = .passing ∧
      (nextOf (exec (.requestArrival (signalsFrom 0 t)) u)).map (fun v => (v.line.requests, v.line.count)) =
        some ([], 0) := by decide +kernel

/-- R55: the records go in order from line 0, with the identity and the attempt. -/
theorem test_records_sent : (nextOf (exec .loadSent (sendingLines 2))).map (fun u => u.scalerLink) =
    some [.record 7 2 1 ⟨false, 8, 1271, 0, 4147⟩] := by decide +kernel

/-- R128: with the top passed, a switch to the absent top ends on the present entry below. -/
theorem test_top_passed :
    let s := shows .switching .absent .present
    (nextOf (exec (.lockReport .in1) (s.setSource { s.source with topPassed := true }))).map
      (fun u => (u.source.shown, u.source.state)) = some (some .in2, .switching) := by decide +kernel

/-- R170: the deferral is fixed by the telegram chosen at the end of the idle time: it holds off a RELEASE though the failed
CLAIM has left the queue, and does not hold off a fresh CLAIM chosen then ahead of a failed request. -/
theorem test_deferral :
    let claim : QueueEntry := ⟨.claim, 1, false, false⟩
    let s := ready.setLine { ready.line with queue := [claim] }
    let a := (nextOf (exec (.sendingAttempt 384) s)).getD State.reset
    let b := a.setLine { a.line with queue := [newEntry .release] }
    let u := ready.setLine { ready.line with queue := [⟨.request 16 [], 1, false, false⟩, newEntry .claim] }
    let goes (n : Nat) (s : State) := (nextOf (exec (.sendingAttempt n) s)).map fun t => t.line.attempt.isSome
    a.line.idle = .over true ∧ goes 1087 b = some false ∧ goes 1088 b = some true ∧ goes 385 u = some true := by
  decide +kernel

/-- R122, R128 to R130: the shown input's gain; the top's, which clears top passed; and a lower entry's with top passed. -/
theorem test_gains :
    let up : Six Bool := ⟨true, false, false, false, false, false⟩
    let low : Six Bool := ⟨false, true, false, false, false, false⟩
    let passed (x : State) (shown : Input) := x.setSource { x.source with topPassed := true, shown := some shown }
    let after (lines : Six Bool) (s : State) := (nextOf (exec (.presenceSample lines) s)).map fun u =>
      (u.source.shown, u.source.state, u.source.topPassed)
    after up (shows .holding .absent .absent) = some (some .in1, .showing, false) ∧
      after up (passed (shows .noSignal .absent .absent) .in1) = some (some .in1, .showing, false) ∧
      after up (passed (shows .showing .absent .present) .in2) = some (some .in1, .switching, false) ∧
      after low (passed (shows .noSignal .absent .absent) .in1) = some (some .in2, .switching, true) := by
  decide +kernel

/-- R107, R165: a CLOSED slot start turns OFF a group turned on by a request, and a slot start without a lead sets the slot
level and pushes the slot's source. -/
theorem test_slot_starts :
    let s := (clocked 599 59 (on .lit 100)).setGroup { (on .lit 100).group with mode := some .request }
    let after (x : Slot) := (nextOf (exec .minuteChange (s.setSchedule ⟨[x], none, none⟩))).map fun u =>
      (u.group.mode, u.group.slotLevel, u.source.list)
    after aClosed = some (none, none, []) ∧
      after sourced = some (some .schedule, some 120, [⟨.in2, .schedule⟩]) := by decide +kernel

/-- R181: a memory silent on zones 1 to 5 makes the record bad, whatever zone 6 holds; one silent on zone 5 alone does
not (log 42). -/
theorem test_silent_memory :
    let s := State.reset.setSerial (Memory.writeBytes [] 0x130 (recordBytes 36000000 7))
    (wearRead (zoneData [] s 6)).valid = (wearRead (wearData [5] s)).valid ∧
      (wearRead (wearData [1, 2, 3, 4, 5] s)).valid = false := by decide +kernel

/-! ### The witnesses -/

theorem witness_StepRunsTheFrontCommand :
    (ready.setPending [.loss]).pending = .loss :: [] ∧ ready.pending = [] := by decide
theorem witness_WellFormedCommandsComplete : Instr.loss.wf = true := rfl
theorem witness_PowerOnStartsEveryBlock : (([(511, 0)] : List (Nat × Byte)).all fun c => decide (c.1 < 512)) = true ∧
    (([(512, 0)] : List (Nat × Byte)).any fun c => decide (512 ≤ c.1)) = true := by decide
theorem witness_SecondPassLoadsTheZones : StartSafe State.reset ∧ State.reset.start.passTwo = false ∧
    StartSafe { State.reset with straps := ⟨31, true, 0, .kbit31, false⟩ } ∧
    (∀ k ∈ ([1, 2, 3, 4, 5] : List Nat), k ∈ ([1, 2, 3, 4, 5, 6] : List Nat)) := by unfold StartSafe; decide
theorem witness_ReceiverEnabledBeginsFresh :
    let s := ready.setStart { ready.start with receiver := false }
    Settled s ∧ s.start.passTwo = true ∧ s.panel.switch.settled.isSome = true ∧ s.start.receiver = false := by
  decide +kernel

theorem witness_SendingTakesTheFirstOfItsClass :
    let e : QueueEntry := newEntry .claim
    let s := ready.setLine { ready.line with queue := [newEntry (.request 16 []), e] }
    Settled s ∧ s.start.receiver = true ∧ s.line.attempt = none ∧
      chosen s = some ([newEntry (.request 16 [])], e, []) ∧ s.line.idle = .notYet ∧ e.attempts = 0 ∧
      chosen ready = none := by decide +kernel
/-- The deferral of station 1, 2 character times: with a failed telegram chosen, with a fresh one chosen ahead of a failed
one, and found at the end of the idle time for a telegram that is gone. -/
theorem witness_deferrals :
    let e : QueueEntry := newEntry .claim
    let f : QueueEntry := ⟨.request 16 [], 1, false, false⟩
    let s := ready.setLine { ready.line with queue := [f] }
    let u := ready.setLine { ready.line with queue := [f, e] }
    let v := ready.setLine { ready.line with queue := [e], idle := .over true, reading := .receiving [1] }
    Settled s ∧ chosen s = some ([], f, []) ∧ f.attempts ≠ 0 ∧ idleOver s = .over true ∧
      Settled u ∧ chosen u = some ([f], e, []) ∧ e.attempts = 0 ∧ idleOver u = .over false ∧
      Settled v ∧ chosen v = some ([], e, []) ∧ v.line.idle = .over true ∧ inHand v.line.reading = true ∧
      neededIdle v = 1088 ∧
      SettingsSafe v.settings ∧ 256 ≤ v.geometry.f ∧ v.geometry.f ≤ 1024 ∧ v.lamp.actual ≤ 100 ∧ v.group.p ≤ 100 := by
  unfold SettingsSafe; decide +kernel
theorem witness_FailedAttemptsKeepTheTelegram :
    let s := sendingOf .beacon 15 false ready
    let t := sendingOf .claim 1 true ready
    let u := sendingOf .release 16 false ready
    Settled s ∧ s.line.attempt = some ⟨[], false⟩ ∧ inSending s.line.queue = some ⟨.beacon, 15, true, false⟩ ∧
      Settled t ∧ inSending t.line.queue = some ⟨.claim, 1, true, true⟩ ∧
      Settled u ∧ inSending u.line.queue = some ⟨.release, 16, true, false⟩ ∧ leavesOnly .release = true ∧
      inSending (sendingOf .beacon 16 false ready).line.queue = some ⟨.beacon, 16, true, false⟩ ∧
      Settled (sendingOf .beacon 16 false ready) ∧
      Settled (ready.setLine { ready.line with attempt := some ⟨[1], true⟩ }) := by decide +kernel
theorem witness_OwnEchoTellsTheOwner :
    let s := sendingOf .claim 1 false (on .waiting 0)
    let t := sendingOf .beacon 1 false ready
    let u := sendingOf (.answer 3 [] false) 1 false ready
    Settled s ∧ inSending s.line.queue = some ⟨.claim, 1, true, false⟩ ∧ claiming s.lamp.state = true ∧
      ownClaimed s = false ∧ Settled t ∧ inSending t.line.queue = some ⟨.beacon, 1, true, false⟩ ∧
      t.line.dueAgain = false ∧ Settled u ∧ inSending u.line.queue = some ⟨.answer 3 [] false, 1, true, false⟩ := by
  decide +kernel
theorem witness_RequestsJoinAndOthersAreDisregarded :
    let t := req kindGroupOn []
    let s := ready.setLine { ready.line with requests := List.replicate 7 t }
    let u := ready.setLine { ready.line with requests := List.replicate 8 t }
    Settled s ∧ Received t.kind t 0 s ∧ requestKinds.contains t.kind = true ∧ s.line.requests.length < 8 ∧
      Settled (part t 5 s) ∧ Received t.kind t 5 (part t 5 s) ∧
      Settled u ∧ Received t.kind t 0 u ∧ 8 ≤ u.line.requests.length ∧
      Arrives ⟨kindBeacon, 32, 0, []⟩ 0 ready ∧ isUnknown ⟨kindBeacon, 32, 0, []⟩ = true ∧
      Arrives ⟨kindAnswer, 31, 2, []⟩ 0 ready ∧ Arrives ⟨kindLevel, 3, 2, []⟩ 0 ready ∧
      isUnknown ⟨kindLevel, 3, 2, []⟩ = false ∧ passesFilter ready ⟨kindLevel, 3, 2, []⟩ = false := by decide +kernel
/-- Requests that join at the fills where BUSY may change: to 2, 3, 5 and 6, with BUSY set and clear. -/
theorem witness_busy_fills (n : Nat) (hn : n ∈ [1, 2, 4, 5]) (b : Bool) :
    let t := req kindGroupOn []
    let s := ready.setLine { ready.line with requests := List.replicate n t, busy := b }
    Settled s ∧ Received t.kind t 0 s ∧ requestKinds.contains t.kind = true ∧ s.line.requests.length = n ∧
      (nextOf (exec (.requestArrival (signalsFrom 0 t)) s)).map (fun u => u.line.busy) =
        some (if n = 5 then true else if n = 1 then false else b) := by
  revert n; cases b <;> decide +kernel
/-- A telegram in hand: none read, one, three, all but the last character; none in hand; the receiver off. -/
theorem witness_discards :
    let t := req kindLevel [80]
    let f := frameOf t
    let s := part t 6 ready
    Settled s ∧ s.start.receiver = true ∧ s.line.reading = .receiving (f.take 6) ∧
      f.take 6 ++ [f.getD 6 0] = f.take (t.body.length + 4) ++ [f.getD 5 0, f.getD 6 0] ∧
      f.take 6 ++ [f.getD 6 0 + 1] = f.take (t.body.length + 4) ++ [f.getD 5 0, f.getD 6 0 + 1] ∧
      f.take 6 ++ [f.getD 6 0 + 1] ≠ f ∧ Settled (part t 3 ready) ∧ (f.take 3).length = 3 ∧ 24 < (25 : Byte).toNat ∧
      Settled (part t 0 ready) ∧ Settled (ready.setLine { ready.line with reading := .passing }) ∧
      ready.line.reading = .idle ∧ State.reset.start.receiver = false ∧
      Settled State.reset := by decide +kernel

theorem witness_locked (k : Byte) (b : List Byte) (hk : k = kindGroupOn ∧ b = [] ∨ k = kindGroupOff ∧ b = [] ∨
      k = kindLevel ∧ b = [10] ∨ k = kindShow ∧ b = [6] ∨ k = kindCorners ∧ b = cornersBytes .plain ∨
      k = kindUnlock ∧ b = [31]) :
    let s := examLock (asked (req k b) ready)
    Settled s ∧ s.line.requests = req k b :: [] ∧ mayTake s (req k b) = true ∧ (req k b).origin ≠ 0 ∧
      passesCheck s.locks (.station 3) ⟨true, true, false, false, false⟩ = false ∧
      passesCheck s.locks (.station 3) ⟨false, true, false, false, false⟩ = false ∧
      passesCheck s.locks (.station 3) ⟨false, false, true, false, false⟩ = false ∧
      passesCheck s.locks (.station 3) ⟨false, false, false, true, false⟩ = false ∧
      (k = kindUnlock → ∀ v ∈ b, 1 ≤ v.toNat ∧ v.toNat ≤ 31 ∧ v ≠ 3) := by
  rcases hk with ⟨rfl, rfl⟩ | ⟨rfl, rfl⟩ | ⟨rfl, rfl⟩ | ⟨rfl, rfl⟩ | ⟨rfl, rfl⟩ | ⟨rfl, rfl⟩ <;> decide +kernel
theorem witness_malformed (k : Byte) (hk : k ∈ requestKinds) :
    let t := req k [0, 0]
    Settled (asked t ready) ∧ (asked t ready).line.requests = t :: [] ∧ mayTake (asked t ready) t = true ∧
      t.origin ≠ 0 ∧ t.body ≠ [] ∧ directed (asked t ready) t = true ∧
      (∀ i ∈ allInputs, t.body ≠ [byteOf (inputCode i)]) := by
  revert k; decide +kernel
/-- Requests of the right length and a value that is not allowed. -/
theorem witness_malformed_values (x : Byte × List Byte)
    (hx : x ∈ [(kindLock, [0, 0, 0]), (kindLock, [225, 0, 0]), (kindUnlock, [0]), (kindUnlock, [32]), (kindSlotDrop, [0]),
      (kindSlotPut, [0, 127, 2, 88, 2, 148, 1, 255, 254, 0, 0, 0]),
      (kindSlotPut, [1, 128, 2, 88, 2, 148, 1, 255, 254, 0, 0, 0]),
      (kindSlotPut, [1, 127, 2, 88, 2, 148, 1, 0, 1, 0, 0, 0]),
      (kindSlotPut, [1, 127, 5, 160, 5, 160, 1, 255, 254, 0, 0, 0]),
      (kindSlotPut, [1, 127, 2, 88, 2, 88, 1, 255, 254, 0, 0, 0]),
      (kindSlotPut, [1, 127, 2, 88, 5, 161, 1, 255, 254, 0, 0, 0]),
      (kindSlotPut, [1, 127, 2, 88, 2, 148, 0, 255, 254, 0, 0, 0]),
      (kindSlotPut, [1, 127, 2, 88, 2, 148, 4, 255, 254, 0, 0, 0]),
      (kindSlotPut, [1, 127, 2, 88, 2, 148, 1, 255, 254, 7, 0, 0])]) :
    let t := req x.1 x.2
    Settled (asked t ready) ∧ AtHead t.kind t [] (asked t ready) ∧ t.origin.toNat ≠ (asked t ready).straps.number ∧
      (t.kind = kindSlotPut → t.body.length = 12 ∧ slotOf t.body = none) := by
  revert x; decide +kernel
/-- LOCK and UNLOCK of the own number as origin. -/
theorem witness_own_number :
    let l : Telegram := ⟨kindLock, 1, 1, [16, 0, 0]⟩
    let u : Telegram := ⟨kindUnlock, 1, 1, [1]⟩
    let z : Telegram := ⟨kindUnlock, 0, 1, [31]⟩
    Settled (asked l ready) ∧ AtHead kindLock l [] (asked l ready) ∧ l.origin.toNat = ready.straps.number ∧
      (16 : Byte) &&& 0x1F ≠ 0 ∧ Settled (asked u ready) ∧ AtHead kindUnlock u [] (asked u ready) ∧
      Settled (asked z ready) ∧ mayTake (asked z ready) z = true ∧ z.origin = 0 ∧ LocksSafe (asked z ready) := by
  unfold LocksSafe; decide +kernel
theorem witness_GroupOnTurnsTheGroupOn :
    let t := req kindGroupOn []
    let s := asked t ready
    let u := asked t (ready.setListen { ready.listen with duplicate := some 6000 })
    let v := asked t (on .lit 100)
    Settled s ∧ AtHead kindGroupOn t [] s ∧
      passesCheck s.locks (.station 3) ⟨true, true, false, false, false⟩ = true ∧ s.group.mode = none ∧ Alone s ∧
      ownAvailable s = true ∧ electionTakesOwn s = true ∧ s.lamp.state = .dark ∧ anyFault s.lamp.faults = false ∧
      s.pins.supplyLow = false ∧ othersFilled s.line.queue + s.line.reserved < 6 ∧
      Settled u ∧ AtHead kindGroupOn t [] u ∧ u.group.mode = none ∧ ownAvailable u = false ∧
      u.group.selection = .unselected ∧ Settled v ∧ AtHead kindGroupOn t [] v ∧ v.group.mode.isSome = true := by
  decide +kernel
theorem witness_GroupOffTurnsTheGroupOff :
    let t := req kindGroupOff []
    let s := asked t (on .lit 100)
    let u := asked t (on .waiting 0)
    let v := asked t ready
    Settled s ∧ AtHead kindGroupOff t [] s ∧
      passesCheck s.locks (.station 3) ⟨false, true, false, false, false⟩ = true ∧ s.group.mode.isSome = true ∧
      inService s = false ∧ wanted s = true ∧ litSide s.lamp.state = true ∧ Settled u ∧
      AtHead kindGroupOff t [] u ∧ wanted u = true ∧ u.lamp.state = .waiting ∧ Settled v ∧
      AtHead kindGroupOff t [] v ∧ v.group.mode = none := by decide +kernel
theorem witness_LevelSetsTheOverrideAndThePower :
    let t := req kindLevel [201]
    let s := asked t (on .lit 100)
    Settled s ∧ AtHead kindLevel t [] s ∧ t.body = [201] ∧
      passesCheck s.locks (.station 3) ⟨false, true, false, false, false⟩ = true := by decide +kernel
theorem witness_ShowPutsTheInputOnTop :
    let t := req kindShow [2]
    let u := req kindShow [1]
    let s := asked t (shows .showing .present .absent)
    let v := asked u (shows .showing .present .absent)
    Settled s ∧ AtHead kindShow t [] s ∧ t.body = [byteOf (inputCode .in2)] ∧
      passesCheck s.locks (.station 3) ⟨false, false, true, false, false⟩ = true ∧ s.source.state ≠ .switching ∧
      s.source.shown ≠ some .in2 ∧ Settled v ∧ AtHead kindShow u [] v ∧ u.body = [byteOf (inputCode .in1)] ∧
      v.source.shown = some .in1 := by decide +kernel
/-- A push while SWITCHING that leaves the target, and one that removes it. -/
theorem witness_pushes_while_switching :
    let t := req kindShow [5]
    let s := asked t (shows .switching .present .absent)
    let u := s.setSource
      { s.source with list := [⟨.in2, .keypad⟩, ⟨.in3, .keypad⟩, ⟨.in4, .keypad⟩, ⟨.in1, .keypad⟩] }
    Settled s ∧ AtHead kindShow t [] s ∧ s.source.state = .switching ∧ s.source.shown = some .in1 ∧
      ((pushed .in5 (.station 3) s.source.list).any fun e => e.input == .in1) = true ∧
      Settled u ∧ AtHead kindShow t [] u ∧ u.source.state = .switching ∧ u.source.shown = some .in1 ∧
      ((pushed .in5 (.station 3) u.source.list).any fun e => e.input == .in1) = false := by decide +kernel
theorem witness_CornersAreOfferedAsAnEdit :
    let c : CornerSet := ⟨0, 0, 0, 65535, 0, 65535⟩
    let t := req kindCorners (cornersBytes c)
    let u := req kindCorners (cornersBytes .plain)
    let s := asked t ready
    let v := asked u ready
    let w := asked t (working .loading 1)
    Settled s ∧ AtHead kindCorners t [] s ∧ cornersOf t.body = some c ∧
      passesCheck s.locks (.station 3) ⟨false, false, false, true, false⟩ = true ∧
      inRange s.straps.format c ≠ newestSet s.geometry ∧ s.geometry.state = .idle ∧
      Settled v ∧ AtHead kindCorners u [] v ∧ cornersOf u.body = some .plain ∧
      inRange v.straps.format .plain = newestSet v.geometry ∧
      Settled w ∧ AtHead kindCorners t [] w ∧ inRange w.straps.format c ≠ newestSet w.geometry ∧
      w.geometry.state ≠ .idle := by decide +kernel
theorem witness_LockIsAdded :
    let t := req kindLock [255, 2, 209]
    let l : Lock := ⟨.station 3, ⟨false, true, true, true, true⟩, some 720⟩
    let s := asked t ready
    let u := asked t (ready.setLocks [l])
    let v := asked t (ready.setLocks [⟨.station 4, ⟨false, true, false, false, false⟩, none⟩])
    Settled s ∧ LocksSafe s ∧ AtHead kindLock t [] s ∧ t.body = [255, 2, 209] ∧ t.origin.toNat ≠ s.straps.number ∧
      beNat [2, 209] = 721 ∧ l ∉ s.locks ∧ Settled u ∧ LocksSafe u ∧ AtHead kindLock t [] u ∧ l ∈ u.locks ∧
      Settled v ∧ LocksSafe v ∧ AtHead kindLock t [] v ∧
      (v.locks.any fun k => k.holder != .station 3 && scopesMeet k.scopes ⟨false, true, true, true, true⟩) = true := by
  unfold LocksSafe; decide +kernel
theorem witness_UnlockAndMinutesRemoveALock :
    let t := req kindUnlock [3]
    let l : Lock := ⟨.station 3, ⟨false, true, false, false, false⟩, some 1⟩
    let k : Lock := ⟨.station 3, ⟨false, true, false, false, false⟩, some 2⟩
    let s := asked t (ready.setLocks [l])
    let u := asked t ready
    let v := ready.setLocks [k]
    Settled s ∧ LocksSafe s ∧ AtHead kindUnlock t [] s ∧ t.body = [t.origin] ∧ t.origin.toNat ≤ 31 ∧
      t.origin.toNat ≠ s.straps.number ∧ lockOf s.locks (.station 3) = some l ∧ Settled u ∧ LocksSafe u ∧
      AtHead kindUnlock t [] u ∧ lockOf u.locks (.station 3) = none ∧ Settled v ∧ LocksSafe v ∧
      lockOf v.locks (.station 3) = some k ∧ AtHead kindUnlock (req kindUnlock [31]) [] (asked (req kindUnlock [31]) ready) ∧
      Settled (asked (req kindUnlock [31]) ready) ∧ (31 : Byte) ≠ (req kindUnlock [31]).origin := by
  unfold LocksSafe; decide +kernel
theorem witness_SlotsAreStored :
    let t := req kindSlotPut (slotBody 255)
    let o := req kindSlotPut [255, 127, 2, 88, 2, 148, 1, 0, 4, 0, 0, 0]
    let d := req kindSlotDrop [255]
    let full := (List.range 64).map fun i => aSlot (i + 1)
    let s := asked t ready
    let u := asked t (ready.setSchedule ⟨[aSlot 255], none, none⟩)
    let v := asked t (ready.setSchedule ⟨full, none, none⟩)
    let w := asked o ready
    let x := asked d (ready.setSchedule ⟨[aSlot 255], none, none⟩)
    let y := asked d ready
    Settled s ∧ s.clock.sure = none ∧ AtHead kindSlotPut t [] s ∧ slotOf t.body = some (aSlot 255) ∧
      (slotInRange (aSlot 255)).groups.getLsbD s.settings.group = true ∧ s.schedule.slots.length < 64 ∧
      Settled u ∧ AtHead kindSlotPut t [] u ∧ (u.schedule.slots.any fun z => z.id == 255) = true ∧
      Settled v ∧ AtHead kindSlotPut t [] v ∧ (v.schedule.slots.any fun z => z.id == 255) = false ∧
      64 ≤ v.schedule.slots.length ∧ Settled w ∧ AtHead kindSlotPut o [] w ∧
      ((slotOf o.body).all fun z => !(slotInRange z).groups.getLsbD w.settings.group) = true ∧
      (slotOf o.body).isSome = true ∧ Settled x ∧ AtHead kindSlotDrop d [] x ∧ d.body = [255] ∧
      (x.schedule.slots.any fun z => z.id == 255) = true ∧ Settled y ∧ AtHead kindSlotDrop d [] y ∧
      (y.schedule.slots.any fun z => z.id == 255) = false := by decide +kernel
/-- The clock SURE: a slot put into an empty table, put again, and dropped. -/
theorem witness_slots_while_sure :
    let t := req kindSlotPut (slotBody 255)
    let d := req kindSlotDrop [255]
    let s := asked t (clocked 605 0 ready)
    let u := asked t ((clocked 0 0 ready).setSchedule ⟨[aSlot 255], none, none⟩)
    let v := asked d ((clocked 0 0 ready).setSchedule ⟨[aSlot 255], none, none⟩)
    Settled s ∧ LocksSafe s ∧ AtHead kindSlotPut t [] s ∧ s.clock.sure.isSome = true ∧ s.schedule.slots = [] ∧
      isClosed s.schedule.heldEffective = false ∧ Settled u ∧ LocksSafe u ∧ AtHead kindSlotPut t [] u ∧
      insertSlot (aSlot 255) [] = u.schedule.slots ∧ Settled v ∧ LocksSafe v ∧ AtHead kindSlotDrop d [] v ∧
      v.clock.sure.isSome = true ∧ (v.schedule.slots.any fun z => z.id == 255) = true := by
  unfold LocksSafe; decide +kernel
theorem witness_ClearFaultClears :
    let t := req kindClearFault []
    let f : LampFaults := ⟨false, false, true, false, false⟩
    let s := asked t ready
    let a := asked t (faulty f (some 1) (some 1))
    let b := asked t (faulty f none none)
    let c := asked t (faulty ⟨false, false, false, false, true⟩ none none)
    let d := asked t (faulty ⟨true, false, false, false, false⟩ none none)
    let e := d.setLamp { d.lamp with temperature := 85 }
    Settled s ∧ AtHead kindClearFault t [] s ∧ anyFault s.lamp.faults = false ∧
      Settled a ∧ AtHead kindClearFault t [] a ∧ a.lamp.state = .fault ∧ anyFault a.lamp.faults = true ∧
      conditionsGone a = true ∧ a.lamp.faults.dropout = true ∧ a.lamp.restrike.isSome = true ∧
      Settled b ∧ AtHead kindClearFault t [] b ∧ conditionsGone b = true ∧ b.lamp.restrike = none ∧
      b.group.mode = none ∧ Settled c ∧ AtHead kindClearFault t [] c ∧ conditionsGone c = false ∧
      c.lamp.faults.fan = true ∧ fanDriven c.lamp = false ∧ Settled e ∧ AtHead kindClearFault t [] e ∧
      anyFault e.lamp.faults = true ∧ conditionsGone e = false ∧ e.lamp.faults.fan = false := by decide +kernel
theorem witness_LampNewRestartsWear :
    let t := req kindLampNew []
    let o : Telegram := ⟨kindLampNew, 3, 0, []⟩
    let s := asked t (service ready)
    let u := asked t ((service ready).setWear { Wear.powerOn with write := some ⟨0, 0, 1⟩ })
    let v := asked t ready
    let w := asked o ready
    Settled s ∧ SettingsSafe s.settings ∧ AtHead kindLampNew t [] s ∧ directed s t = true ∧ inService s = true ∧
      s.lamp.state = .dark ∧ s.wear.write = none ∧ s.straps.memory = true ∧ s.start.wearPlace.isSome = true ∧
      Settled u ∧ AtHead kindLampNew t [] u ∧ u.wear.write.isSome = true ∧ inService u = true ∧ Settled v ∧
      AtHead kindLampNew t [] v ∧ inService v = false ∧ Settled w ∧ AtHead kindLampNew o [] w ∧
      directed w o = false := by
  unfold SettingsSafe; decide +kernel
theorem witness_RestartResetsWarm :
    let t := req kindRestart []
    let o : Telegram := ⟨kindRestart, 3, 0, []⟩
    let s := asked t ready
    let u := asked o (on .lit 100)
    let v := sendingOf (.answer 3 [] true) 16 false ready
    Settled s ∧ AtHead kindRestart t [] s ∧ directed s t = true ∧ Settled u ∧ AtHead kindRestart o [] u ∧
      directed u o = false ∧ Settled v ∧ v.line.attempt = some ⟨[], false⟩ ∧
      inSending v.line.queue = some ⟨.answer 3 [] true, 16, true, false⟩ := by decide +kernel
/-- An undirected RESTART in each lamp state. -/
theorem witness_resets :
    let o : Telegram := ⟨kindRestart, 3, 0, []⟩
    ∀ s ∈ [ready, on .waiting 0, striking (.striking .attempt) 1 .running, striking (.striking .gap) 2 .stalled,
        on .warming 100, on .lit 100, cooling true, faulty ⟨false, false, true, false, false⟩ (some 1) (some 1)],
      Settled (asked o s) ∧ AtHead kindRestart o [] (asked o s) ∧ directed (asked o s) o = false := by decide +kernel
/-- R28, R74, R178: the lamp state after each of these resets, and the telegrams in the send queue. -/
theorem test_resets :
    let o : Telegram := ⟨kindRestart, 3, 0, []⟩
    let after (s : State) := (nextOf (exec .restart (asked o s))).map fun u =>
      (u.lamp.state, u.line.queue.map fun e => e.payload)
    [ready, on .waiting 0, striking (.striking .gap) 2 .stalled, on .lit 100, cooling true].map after =
      [some (.dark, [.beacon]), some (.dark, [.release, .beacon]), some (.cooling, [.release, .beacon]),
        some (.cooling, [.beacon]), some (.cooling, [.beacon])] := by decide +kernel
theorem witness_QueriesAnswerTheRecord (b : List Byte) (hb : b ∈ ([[1], [2], [3, 0], [3, 9], [3, 255], [4, 2], [], [5],
      [0, 9], [1, 0], [2, 0], [3], [3, 9, 0], [4], [4, 0, 0], [4, 3]] : List (List Byte))) :
    let t := req kindQuery b
    let s := asked t (ready.setSchedule ⟨[aSlot 255], none, none⟩)
    Settled s ∧ AtHead kindQuery t [] s ∧ directed s t = true ∧ directed s { t with dest := 0 } = false ∧
      (s.schedule.slots.find? fun x => x.id == 9) = none ∧
      (s.schedule.slots.find? fun x => x.id == 255).isSome = true := by
  revert b; decide +kernel

theorem witness_BeaconsAreReadOrSetDuplicate :
    let t : Telegram := ⟨kindBeacon, 2, 0, panelBody⟩
    let o : Telegram := ⟨kindBeacon, 1, 0, []⟩
    let s := ready.setPeers [aPeer .heard 0]
    let u := on .lit 100
    let v := ready.setListen { ready.listen with duplicate := some 6000 }
    let z : Telegram := ⟨kindBeacon, 0, 0, []⟩
    Settled s ∧ Received kindBeacon t 0 s ∧ Received kindBeacon t 9 (part t 9 s) ∧ Settled (part t 9 s) ∧
      Received kindBeacon z 0 s ∧ z.origin = 0 ∧ t.origin ≠ 0 ∧ t.origin.toNat ≠ s.straps.number ∧
      (beaconOf t.body).isSome = true ∧ (s.peers.any fun p => p.station == 2) = true ∧ burning u.lamp.state = true ∧
      beaconOf [] = none ∧ Settled u ∧ Received kindBeacon o 0 u ∧ o.origin.toNat = u.straps.number ∧
      isDuplicate u = false ∧ litSide u.lamp.state = true ∧ Settled v ∧ Received kindBeacon o 0 v ∧
      isDuplicate v = true ∧ Received kindBeacon t 0 ready ∧ Settled (on .waiting 0) := by decide +kernel
theorem witness_MissesMakeAStationLost :
    let s := ready.setPeers [aPeer .heard 0]
    let u := ready.setPeers [aPeer .stale 2]
    let v := ready.setPeers [aPeer .stale 1]
    let w := (ready.setPeers [aPeer .stale 5]).setLine { ready.line with poor := true, count := 4 }
    Settled s ∧ PeersSafe s ∧ peerOf 2 s.peers = some (aPeer .heard 0) ∧ Settled u ∧ PeersSafe u ∧
      peerOf 2 u.peers = some (aPeer .stale 2) ∧ missLimit u ≤ 2 + 1 ∧ Settled v ∧ PeersSafe v ∧
      peerOf 2 v.peers = some (aPeer .stale 1) ∧ 1 + 1 < missLimit v ∧ (aPeer .heard 0).timer.isSome = true ∧
      Settled w ∧ PeersSafe w ∧ w.line.minute.isSome = true ∧ w.line.poor = true := by
  unfold PeersSafe; decide +kernel
/-- The counts of line trouble at which LINE_POOR may change, with it set and clear (R179). -/
theorem witness_line_counts : ∀ n ∈ [4, 5, 19, 20], ∀ b ∈ [true, false],
    let s := ready.setLine { ready.line with poor := b, count := n }
    Settled s ∧ PeersSafe s ∧ s.line.minute.isSome = true ∧
      (nextOf (exec .lineQualityMinute s)).map (fun u => u.line.poor) =
        some (if n = 20 then true else if n = 4 then false else b) := by
  unfold PeersSafe; decide +kernel
theorem witness_FreshAndDuplicateEnd :
    let g := (on .dark 0).group
    let s := atRest (((ready.setGroup g).setListen { ready.listen with fresh := some 6000 }))
    let u := atRest (((ready.setGroup g).setListen { ready.listen with duplicate := some 6000 }))
    Settled s ∧ Alone s ∧ s.listen.fresh.isSome = true ∧ s.lamp.state = .dark ∧
      startConditions (s.setListen { s.listen with fresh := none }) = true ∧ hasFree s.line = true ∧
      s.group.mode.isSome = true ∧ ownAvailable (s.setListen { s.listen with fresh := none }) = true ∧
      electionTakesOwn (s.setListen { s.listen with fresh := none }) = true ∧
      Settled u ∧ Alone u ∧ u.listen.duplicate.isSome = true ∧ u.lamp.state = .dark ∧
      startConditions (u.setListen { u.listen with duplicate := none }) = true ∧
      ownAvailable (u.setListen { u.listen with duplicate := none }) = true ∧
      electionTakesOwn (u.setListen { u.listen with duplicate := none }) = true ∧
      s.listen.duplicate = none ∧ u.listen.fresh = none := by decide +kernel
theorem witness_BeaconAndClaimTimers :
    let s := on .waiting 0
    Settled s ∧ s.listen.beacon.isSome = true ∧ s.lamp.renewal.isSome = true ∧ claiming s.lamp.state = true := by
  decide +kernel
theorem witness_ChangesMakeABeaconDue :
    ∃ t, nextOf (exec .rampStep ((on .lit 100).setLamp { (on .lit 100).lamp with actual := 79 })) = some t ∧
      beaconCauses t ≠ beaconCauses ((on .lit 100).setLamp { (on .lit 100).lamp with actual := 79 }) := by
  refine ⟨((nextOf (exec .rampStep ((on .lit 100).setLamp { (on .lit 100).lamp with actual := 79 }))).getD ready), ?_⟩
  decide +kernel
theorem witness_ClaimListFollowsTheCircuit :
    let t : Telegram := ⟨kindClaim, 31, 129, []⟩
    let r : Telegram := ⟨kindRelease, 31, 129, []⟩
    let s := atRest ((on .waiting 0).setClaims [⟨31, some 12000⟩, ⟨1, none⟩])
    Settled s ∧ Received kindClaim t 0 s ∧ claimTelegram s t = true ∧ Received kindRelease r 0 s ∧
      Received kindClaim ⟨kindClaim, 31, 0, []⟩ 0 s ∧ Received kindRelease ⟨kindRelease, 0, 129, []⟩ 0 s ∧
      Received kindClaim ⟨kindClaim, 1, 129, []⟩ 0 s ∧ Received kindRelease ⟨kindRelease, 31, 129, [0]⟩ 0 s ∧
      claimTelegram s r = true ∧ s.lamp.state = .waiting ∧ s.pins.tacho = .running ∧ s.pins.supplyLow = false ∧
      permission (s.setClaims [⟨1, none⟩]) = true ∧
      (s.claims.any fun c => c.claimant == 31 && c.age.isSome) = true ∧
      (s.claims.any fun c => c.claimant == 1 && c.age.isSome) = false ∧
      (ready.claims.any fun c => c.claimant == 31) = false ∧ Received kindRelease r 0 ready := by decide +kernel

theorem witness_LitSenseEntersWarming :
    let s := striking (.striking .attempt) 1 .running
    let u := striking (.striking .gap) 2 .stalled
    Settled s ∧ inStrike s.lamp.state = true ∧ Settled u ∧ inStrike u.lamp.state = true ∧ Settled ready ∧
      inStrike ready.lamp.state = false := by decide +kernel
theorem witness_DropoutsRelightOnce :
    let s := on .lit 100
    let u := s.setLamp { s.lamp with dropoutWindow := some 600000 }
    Settled s ∧ burning s.lamp.state = true ∧ s.lamp.dropoutWindow = none ∧ Alone s ∧ s.wear.lifeHold = false ∧
      Settled u ∧ burning u.lamp.state = true ∧ u.lamp.dropoutWindow.isSome = true ∧ Settled ready ∧
      burning ready.lamp.state = false := by decide +kernel
theorem witness_FaultsPutTheLampOut :
    let s := atRest ((on .lit 100).setPins ⟨true, false, .stalled⟩)
    let u := on .waiting 0
    let v := atRest ((faulty ⟨false, false, false, false, true⟩ none (some 90000)).setPins ⟨false, false, .stalled⟩)
    Settled s ∧ s.lamp.state ≠ .fault ∧ s.lamp.fanStall.isSome = true ∧ s.lamp.faults.fan = false ∧
      litSide s.lamp.state = true ∧ s.settings.tShut ≤ sampleOf (.celsius 95) ∧ burning s.lamp.state = true ∧
      Settled u ∧ u.lamp.state ≠ .fault ∧ litSide u.lamp.state = false ∧ claiming u.lamp.state = true ∧
      Settled v ∧ v.lamp.state = .fault ∧ v.lamp.faults.fan = true ∧ v.lamp.fanStall = some 5000 := by
  decide +kernel
theorem witness_StrikeAttemptsBeginAndFail :
    let w := (on .waiting 0).setClaims [⟨1, none⟩]
    let a := atRest (w.setPins ⟨false, false, .stalled⟩)
    let b := atRest (w.setPins ⟨false, true, .running⟩)
    let c := striking (.striking .gap) 2 .running
    let d := (striking (.striking .gap) 2 .stalled).setLamp
      { (striking (.striking .gap) 2 .stalled).lamp with retryGap := none }
    let e := striking (.striking .attempt) 2 .running
    let f := striking (.striking .attempt) 3 .running
    let g := e.setLamp { e.lamp with litWait := none }
    Settled a ∧ a.lamp.state = .waiting ∧ permission a = true ∧ a.pins.supplyLow = false ∧
      Settled b ∧ b.lamp.state = .waiting ∧ permission b = true ∧ b.pins.tacho = .running ∧
      Settled c ∧ c.lamp.state = .striking .gap ∧ c.pins.tacho = .running ∧ c.lamp.retryGap.isSome = true ∧
      Settled d ∧ d.lamp.state = .striking .gap ∧ d.pins.tacho ≠ .running ∧ d.lamp.retryGap = none ∧
      Settled e ∧ e.lamp.state = .striking .attempt ∧ e.lamp.litWait.isSome = true ∧ e.lamp.attempts < 3 ∧
      Settled f ∧ f.lamp.state = .striking .attempt ∧ f.lamp.litWait.isSome = true ∧ 3 ≤ f.lamp.attempts ∧
      Settled g ∧ g.lamp.state = .striking .attempt ∧ g.lamp.litWait = none := by decide +kernel
theorem witness_WarmUpRampAndWindows :
    let s := on .warming 100
    let u := on .lit 100
    Settled s ∧ s.lamp.state = .warming ∧ s.lamp.warmUp.isSome = true ∧ Settled u ∧ u.lamp.state = .lit ∧
      fanDriven u.lamp = true ∧ Settled ready ∧ ready.lamp.state ≠ .warming ∧ ready.lamp.state ≠ .lit ∧
      fanDriven ready.lamp = false := by decide +kernel
theorem witness_LitSecondsWearTheLamp :
    let s := on .lit 100
    let u := s.setWear { s.wear with valid := true, litTime := 359 }
    let v := u.setWear { u.wear with write := some ⟨0, 0, 1⟩ }
    Settled s ∧ burning s.lamp.state = true ∧ s.wear.litTime + 1 < 360 ∧ Settled u ∧ 360 ≤ u.wear.litTime + 1 ∧
      u.wear.valid = true ∧ u.wear.write = none ∧ canWrite u = true ∧ Settled v ∧ v.wear.write.isSome = true ∧
      Settled ready ∧ burning ready.lamp.state = false := by decide +kernel
theorem witness_CoolDownAndGuardEnd :
    let s := cooling false
    let a := s.setLamp { s.lamp with restrike := none }
    let b := atRest ((ready.setLamp { Lamp.powerOn with restrike := none }))
    let r := cooling true
    let d := atRest (ready.setLamp { Lamp.powerOn with coolDown := none })
    Settled s ∧ s.lamp.coolDown.isSome = true ∧ s.lamp.state = .cooling ∧ s.lamp.restrike.isSome = true ∧
      s.lamp.relight = false ∧ Settled a ∧ a.lamp.state = .cooling ∧ a.lamp.coolDown.isSome = true ∧
      a.lamp.restrike = none ∧ startConditions a = true ∧ Alone a ∧ Settled b ∧ b.lamp.state = .cooling ∧
      b.lamp.coolDown.isSome = true ∧ b.lamp.restrike = none ∧ startConditions b = false ∧ Settled r ∧
      r.lamp.restrike.isSome = true ∧ r.lamp.state = .cooling ∧ r.lamp.relight = true ∧ startConditions r = true ∧
      Alone r ∧ Settled d ∧ d.lamp.state = .cooling ∧ d.lamp.coolDown = none ∧ d.lamp.restrike.isSome = true ∧
      startConditions d = false ∧ Settled ready ∧ ready.lamp.coolDown = none ∧ ready.lamp.restrike = none := by
  decide +kernel
theorem witness_SamplesSetThePowerCap :
    let s := on .lit 100
    Settled s ∧ SettingsSafe s.settings ∧ min 150 (94 : Int).toNat < s.settings.tShut ∧ s.lamp.state = .lit ∧
      s.lamp.cap = 100 ∧ Settled (on .warming 100) ∧ (on .warming 100).lamp.state = .warming := by
  unfold SettingsSafe; decide +kernel

/-- Samples about T_warn (85) and 5 below it, with the cap at 100 and at 70 (R17). -/
theorem witness_warn_boundaries : ∀ d ∈ [80, 81, 84, 85], ∀ c ∈ [100, 70],
    let s := atRest (ready.setLamp { ready.lamp with cap := c })
    Settled s ∧ SettingsSafe s.settings ∧ d < s.settings.tShut ∧ s.settings.tWarn = 85 ∧ s.lamp.cap = c ∧
      (nextOf (exec (.temperatureSample (.celsius d)) s)).map (fun u => u.lamp.cap) =
        some (if d = 85 then 70 else if d = 80 then 100 else c) := by
  unfold SettingsSafe; decide +kernel
theorem witness_WritesOfTheWearRecord :
    let s := ready.setWear { Wear.powerOn with write := some ⟨5, 1, 1⟩, writeAgain := true }
    let u := ready.setWear { Wear.powerOn with write := some ⟨5, 1, 2⟩ }
    Settled s ∧ s.wear.write = some ⟨5, 1, 1⟩ ∧ s.start.wearPlace = some 300 ∧ s.straps.memory = true ∧
      (recordBytes 5 1).length = 10 ∧ Memory.wf s.serial = true ∧ (List.replicate 10 (0 : Byte)).length = 10 ∧
      List.replicate 10 0 ≠ recordBytes 5 1 ∧ Settled u ∧ u.wear.write = some ⟨5, 1, 2⟩ := by decide +kernel
theorem witness_TablesAreLoaded (e : EngineState) (he : e ∈ [EngineState.computing, .loading, .swapWait]) (n : Nat)
    (hn : n ∈ [1, 2]) :
    let s := working e n
    Settled s ∧ s.geometry.inFlight.isSome = true ∧ s.geometry.inFlightId = some 7 ∧ s.geometry.state = e ∧
      s.geometry.attempt = n ∧ s.geometry.loadWait.isSome = true ∧ 8 ≠ 7 ∧
      (e ≠ .computing → s.geometry.inFlightTable = some twoLines) ∧
      Settled (sendingLines n) ∧ (sendingLines n).geometry.inFlight.isSome = true ∧
      (sendingLines n).geometry.state = .loading ∧ (sendingLines n).geometry.attempt = n ∧
      (sendingLines n).geometry.loadWait = none ∧
      (sendingLines n).geometry.linesSent ≤ tableLength (sendingLines n).geometry := by
  simp only [List.mem_cons, List.not_mem_nil, or_false] at he hn
  rcases he with rfl | rfl | rfl <;> rcases hn with rfl | rfl <;> decide +kernel
theorem witness_SwapsTakeTheTableIntoUse :
    let s := working .swapWait 1
    let u := s.setGeometry { s.geometry with pendingSet := some .plain }
    Settled s ∧ s.geometry.state = .swapWait ∧ s.geometry.inFlight.isSome = true ∧ s.geometry.inFlightId = some 7 ∧
      s.geometry.inFlightF = some 1000 ∧ s.geometry.pendingSet = none ∧ s.geometry.swapRepeat.isSome = true ∧
      s.geometry.swapTimeout.isSome = true ∧ Settled u ∧ u.geometry.pendingSet = some .plain := by decide +kernel
theorem witness_LightFractionRange : inRange 0 aSet = aSet ∧
    inRange 3 ⟨400, 400, 640, 640, 640, 640⟩ = ⟨400, 400, 640, 640, 640, 640⟩ ∧
    Settled (working .computing 1) ∧ (working .computing 1).geometry.state = .computing ∧
    (working .computing 1).geometry.inFlight.isSome = true := by decide +kernel
theorem witness_PresenceIsDebounced :
    let s := shows .showing .present .absent
    let lines : Six Bool := ⟨false, false, false, false, false, false⟩
    let wake : Six Bool := ⟨true, true, false, false, false, false⟩
    let w := s.setSettings { s.settings with signalWake := true }
    Settled s ∧ s.source.state = .showing ∧ s.source.topPassed = false ∧ s.source.shown = topInput s ∧
      s.source.hold = none ∧ shownPresent s = true ∧
      (sixGet (sixZip senseSample s.source.inputs lines) .in1).presence = .absent ∧ Settled w ∧
      w.group.mode = none ∧
      (w.source.list.any fun e =>
        gained (sixGet w.source.inputs e.input) (sixGet (sixZip senseSample w.source.inputs wake) e.input)) = true ∧
      passesCheck w.locks .signal ⟨true, true, false, false, false⟩ = true ∧
      othersFilled w.line.queue + w.line.reserved < 6 ∧
      (allInputs.any fun i => (sixGet ready.source.inputs i).presence !=
        (sixGet (sixZip senseSample ready.source.inputs lines) i).presence) = false := by decide +kernel
/-- Samples that change a presence: the shown input gains in HOLDING and in NO_SIGNAL; the top, passed, gains with a lower one
shown; a lower one gains with the top passed; a gain while SWITCHING; and an input that settles. -/
theorem witness_gains :
    let up : Six Bool := ⟨true, false, false, false, false, false⟩
    let low : Six Bool := ⟨false, true, false, false, false, false⟩
    let passed (x : State) (shown : Input) := x.setSource { x.source with topPassed := true, shown := some shown }
    let rises (lines : Six Bool) (i : Input) (s : State) :=
      (sixGet s.source.inputs i).presence = .absent ∧
        (sixGet (sixZip senseSample s.source.inputs lines) i).presence = .present
    let a := shows .holding .absent .absent
    let b := passed (shows .noSignal .absent .absent) .in1
    let c := passed (shows .showing .absent .present) .in2
    let d := shows .switching .absent .absent
    let e := ready.setSource { ready.source with inputs := ⟨⟨.unsettled, 2, true⟩, ⟨.unsettled, 1, false⟩, ⟨.unsettled, 2, true⟩,
      .unsettled, .unsettled, .unsettled⟩ }
    Settled a ∧ rises up .in1 a ∧ a.source.shown = some .in1 ∧ Settled b ∧ rises up .in1 b ∧ rises low .in2 b ∧
      b.source.topPassed = true ∧ Settled c ∧ rises up .in1 c ∧ c.source.shown = some .in2 ∧ topInput c = some .in1 ∧
      Settled d ∧ rises up .in1 d ∧ d.source.state = .switching ∧ Settled e ∧
      (sixZip senseSample e.source.inputs up) = ⟨⟨.present, 0, true⟩, ⟨.unsettled, 2, false⟩, ⟨.unsettled, 1, false⟩,
        ⟨.unsettled, 1, false⟩, ⟨.unsettled, 1, false⟩, ⟨.unsettled, 1, false⟩⟩ := by decide +kernel
/-- The hold's end on a lower entry, with the top passed and present, passed and absent, and not passed. -/
theorem witness_lower_holds :
    let lower (p : Presence) (passed : Bool) := (shows .holding p .absent).setSource
      { (shows .holding p .absent).source with shown := some .in2, topPassed := passed }
    ∀ p ∈ [Presence.present, .absent], ∀ b ∈ [true, false],
      Settled (lower p b) ∧ (lower p b).source.hold.isSome = true ∧ inputPresent (lower p b) .in2 = false ∧
        (lower p b).source.list = ⟨.in1, .keypad⟩ :: [⟨.in2, .station 3⟩] ∧ (lower p b).source.shown = some .in2 := by
  decide +kernel
theorem witness_SwitchesAndHoldsEnd :
    let s := shows .switching .present .absent
    let u := shows .holding .absent .present
    let v := shows .holding .absent .absent
    Settled s ∧ s.source.state = .switching ∧ s.source.shown = some .in1 ∧ s.source.hold = none ∧
      topInput s = some .in1 ∧ s.source.topPassed = false ∧ s.source.switch.isSome = true ∧
      Settled u ∧ u.source.state = .holding ∧ u.source.hold.isSome = true ∧ u.source.shown = topInput u ∧
      u.source.shown ≠ none ∧ shownPresent u = false ∧
      (u.source.list.find? fun e => inputPresent u e.input) = some ⟨.in2, .station 3⟩ ∧ Settled v ∧
      (v.source.list.find? fun e => inputPresent v e.input) = none := by decide +kernel
/-- A switch that ends with another wanted input: the target no longer on top; on top and passed, with an entry present
below and with none; a lower target with the top passed, wanted still and not. -/
theorem witness_changed_targets :
    let s := shows .switching .present .absent
    let a := s.setSource { s.source with list := [⟨.in2, .keypad⟩, ⟨.in1, .keypad⟩] }
    let p (x : State) := x.setSource { x.source with topPassed := true }
    let b := p (shows .switching .absent .present)
    let c := p (shows .switching .absent .absent)
    let d := p a
    let e := p ((shows .switching .absent .present).setSource
      { (shows .switching .absent .present).source with list := [⟨.in2, .keypad⟩, ⟨.in1, .keypad⟩] })
    Settled a ∧ a.source.state = .switching ∧ a.source.shown = some .in1 ∧ a.source.topPassed = false ∧
      a.source.list = ⟨.in2, .keypad⟩ :: [⟨.in1, .keypad⟩] ∧ a.source.switch.isSome = true ∧
      Settled b ∧ b.source.topPassed = true ∧ topInput b = some .in1 ∧ inputPresent b .in1 = false ∧
      (b.source.list.find? fun e => inputPresent b e.input) = some ⟨.in2, .station 3⟩ ∧ b.source.hold = none ∧
      Settled c ∧ (c.source.list.find? fun e => inputPresent c e.input) = none ∧
      Settled d ∧ (d.source.list.find? fun x => inputPresent d x.input || x.input == .in1) = some ⟨.in1, .keypad⟩ ∧
      d.source.switch.isSome = true ∧ e.source.switch.isSome = true ∧
      Settled e ∧ (e.source.list.find? fun x => inputPresent e x.input || x.input == .in1) = some ⟨.in2, .keypad⟩ := by
  decide +kernel
theorem witness_IdleTurnsTheGroupOff :
    let s := atRest ((on .lit 100).setGroup { (on .lit 100).group with mode := some .request })
    let u := examLock s
    Settled s ∧ s.source.idle.isSome = true ∧
      passesCheck s.locks .signal ⟨false, true, false, false, false⟩ = true ∧ inService s = false ∧
      wanted s = true ∧ othersFilled s.line.queue + s.line.reserved < 6 ∧ Settled u ∧ u.source.idle.isSome = true ∧
      passesCheck u.locks .signal ⟨false, true, false, false, false⟩ = false := by decide +kernel

theorem witness_KeysAct :
    let s := on .lit 100
    let v := service s
    let f := faulty ⟨false, false, true, false, false⟩ (some 1) (some 1)
    Settled ready ∧ ready.panel.switch.settled.isSome = true ∧ ready.panel.power = ⟨false, true, 0⟩ ∧
      inService ready = false ∧ ready.group.mode = none ∧
      passesCheck ready.locks .keypad ⟨true, true, false, false, true⟩ = true ∧
      othersFilled ready.line.queue + ready.line.reserved < 6 ∧ ready.panel.source = ⟨false, true, 0⟩ ∧
      hasFree ready.line = true ∧ Settled s ∧ s.panel.power = ⟨false, true, 0⟩ ∧ s.group.mode.isSome = true ∧
      Settled v ∧ inService v = true ∧ burning v.lamp.state = true ∧ v.panel.power = ⟨false, true, 0⟩ ∧
      v.panel.vPlus = ⟨false, true, 0⟩ ∧ v.panel.vMinus = ⟨false, true, 0⟩ ∧
      passesCheck v.locks .keypad ⟨false, false, false, true, true⟩ = true ∧ Settled f ∧
      f.panel.clear = ⟨false, true, 0⟩ ∧ f.lamp.state = .fault ∧ anyFault f.lamp.faults = true ∧
      conditionsGone f = true ∧ f.lamp.restrike.isSome = true := by decide +kernel
theorem witness_RefusedKeysDoNothing :
    let s := examLock ready
    let u := ready.setPanel { ready.panel with power := ⟨false, false, 0⟩ }
    Settled s ∧ (s.locks.any fun l => l.scopes.keys) = true ∧ s.panel.power = ⟨false, true, 0⟩ ∧
      s.panel.source = ⟨false, true, 0⟩ ∧ s.panel.clear = ⟨false, true, 0⟩ ∧ s.panel.vPlus = ⟨false, true, 0⟩ ∧
      s.panel.vMinus = ⟨false, true, 0⟩ ∧ inService s = false ∧ Settled u ∧
      u.panel.power = ⟨false, false, 0⟩ := by decide +kernel
/-- A press refused in each scope alone: POWER, LAMP from OFF, SOURCE, GEOMETRY in SERVICE; POWER in SERVICE; the key switch
not settled. -/
theorem witness_refused_scopes :
    let only (x : Scopes) (s : State) := s.setLocks [⟨.station 4, x, none⟩]
    let p := only ⟨false, true, false, false, false⟩ (on .lit 100)
    let l := ready.setLocks [⟨.wear, scopesLamp, none⟩]
    let c := only ⟨false, false, true, false, false⟩ ready
    let g := only ⟨false, false, false, true, false⟩ (service ready)
    let f := service (faulty ⟨false, false, true, false, false⟩ (some 1) (some 1))
    let n := ready.setPanel { ready.panel with switch := ⟨none, .between, 0⟩ }
    Settled p ∧ (p.locks.any fun k => k.scopes.power) = true ∧ (p.locks.any fun k => k.scopes.keys) = false ∧
      p.group.mode.isSome = true ∧ Settled l ∧ lampLocked l.locks = true ∧ l.group.mode = none ∧ inService l = false ∧
      (l.locks.any fun k => k.scopes.keys || k.scopes.power) = false ∧ Settled c ∧
      (c.locks.any fun k => k.scopes.source) = true ∧ (c.locks.any fun k => k.scopes.keys) = false ∧
      Settled g ∧ inService g = true ∧ (g.locks.any fun k => k.scopes.geometry) = true ∧ g.lamp.state = .dark ∧
      (g.locks.any fun k => k.scopes.keys || k.scopes.power) = false ∧ Settled f ∧ inService f = true ∧
      f.lamp.state = .fault ∧ Settled n ∧ n.panel.switch.settled = none ∧
      [p, l, c, g, f, n].all (fun s => s.panel.power == ⟨false, true, 0⟩ && s.panel.source == ⟨false, true, 0⟩ &&
        s.panel.vPlus == ⟨false, true, 0⟩ && s.panel.vMinus == ⟨false, true, 0⟩) = true := by decide +kernel
theorem witness_KeySwitchSettles :
    let s := on .waiting 0
    let u := (examLock ready).setPanel { ready.panel with switch := ⟨some .locked, .locked, 3⟩ }
    let v := striking (.striking .attempt) 1 .running
    Settled s ∧ LocksSafe s ∧ s.panel.switch.settled = some .normal ∧ s.panel.switch.reading = .normal ∧
      s.lamp.state = .waiting ∧ Settled u ∧ LocksSafe u ∧ u.panel.switch.settled = some .locked ∧
      u.panel.switch.reading = .locked ∧ Settled v ∧ LocksSafe v ∧ v.panel.switch.reading = .normal ∧
      inStrike v.lamp.state = true ∧ Settled ready ∧ LocksSafe ready ∧ claiming ready.lamp.state = false := by
  unfold LocksSafe; decide +kernel
/-- In SERVICE with the selection NONE, as entering it leaves it. -/
def inServiceOf (s : State) : State :=
  atRest ((s.setGroup { s.group with selection := .unselected }).setPanel
    { s.panel with switch := ⟨some .service, .service, 3⟩ })
/-- The key switch settles for the first time, and leaves SERVICE: the group ON and OFF, the lamp LIT, DARK and in
COOLING. -/
theorem witness_key_switch_others :
    let n (s : State) := s.setPanel { s.panel with switch := ⟨some .normal, .normal, 3⟩ }
    let a := inServiceOf (on .lit 100)
    let b := inServiceOf ((on .lit 100).setGroup { (on .lit 100).group with mode := none })
    let c := inServiceOf (ready.setGroup { ready.group with mode := some .schedule })
    let d := inServiceOf (cooling false)
    let f := ready.setPanel { ready.panel with switch := ⟨none, .between, 0⟩ }
    Settled a ∧ LocksSafe a ∧ a.panel.switch.settled = some .service ∧ a.panel.switch.reading = .service ∧
      a.group.selection = .unselected ∧ a.group.mode.isSome = true ∧ ownAvailable (n a) = true ∧
      electionTakesOwn (n a) = true ∧ Alone a ∧ burning a.lamp.state = true ∧
      Settled b ∧ LocksSafe b ∧ b.group.mode = none ∧ b.group.selection = .unselected ∧ burning b.lamp.state = true ∧
      Settled c ∧ LocksSafe c ∧ c.lamp.state = .dark ∧ ownAvailable (n c) = true ∧ electionTakesOwn (n c) = true ∧
      c.group.mode.isSome = true ∧ Alone c ∧ anyFault c.lamp.faults = false ∧ c.pins.supplyLow = false ∧
      Settled d ∧ LocksSafe d ∧ d.lamp.state = .cooling ∧ d.lamp.restrike.isSome = true ∧ ownAvailable (n d) = true ∧
      electionTakesOwn (n d) = true ∧ Alone d ∧ d.group.mode.isSome = true ∧
      Settled f ∧ LocksSafe f ∧ f.panel.switch.settled = none ∧ f.panel.switch.reading = .between := by
  unfold LocksSafe; decide +kernel

theorem witness_SecondsAndMinutes :
    let u := clocked 10079 59 ready
    let a := (clocked 599 59 ready).setSchedule ⟨[aSlot 1], none, none⟩
    let b := ((clocked 659 59 (on .lit 100)).setSchedule ⟨[aSlot 1], some (aSlot 1), some (aSlot 1)⟩)
    let c := (clocked 604 59 ready).setSchedule ⟨[aSlot 1], none, some (aSlot 1)⟩
    let i := ready.setClock { ready.clock with inserts := 1 }
    let m := ready.setClock { ready.clock with seconds := 58 }
    let n := ready.setClock { ready.clock with seconds := 59 }
    Settled u ∧ ClockSafe u ∧ LocksSafe u ∧ u.clock.inserts = 0 ∧ u.clock.seconds = 59 ∧ u.clock.sure.isSome = true ∧
      Settled a ∧ ClockSafe a ∧ LocksSafe a ∧ onSlot 600 a.schedule.slots ≠ a.schedule.heldOn ∧
      (onSlot 600 a.schedule.slots).isSome = true ∧ Settled b ∧ ClockSafe b ∧ LocksSafe b ∧
      onSlot 660 b.schedule.slots ≠ b.schedule.heldOn ∧ onSlot 660 b.schedule.slots = none ∧
      b.group.mode = some .schedule ∧ Settled c ∧ ClockSafe c ∧
      effectiveSlot 605 c.schedule.slots ≠ c.schedule.heldEffective ∧
      onSlot 605 c.schedule.slots = c.schedule.heldOn ∧
      Settled i ∧ ClockSafe i ∧ 0 < i.clock.inserts ∧ Settled m ∧ ClockSafe m ∧ m.clock.seconds < 59 ∧
      Settled n ∧ ClockSafe n ∧ n.clock.sure = none ∧ n.clock.seconds = 59 ∧ LocksSafe n := by
  unfold ClockSafe LocksSafe; decide +kernel
/-- Evaluations: a CLOSED slot starts in a group turned on by a request, a slot with a source and a level starts without a
lead, a lead begins, a CLOSED slot follows a lecture, and an ON slot is left. -/
theorem witness_evaluations :
    let s := atRest ((clocked 599 59 (on .lit 100)).setGroup { (on .lit 100).group with mode := some .request })
    let a := s.setSchedule ⟨[aClosed], none, none⟩
    let b := s.setSchedule ⟨[sourced], none, none⟩
    let c := s.setSchedule ⟨[{ sourced with start := 605, lead := 5 }], none, none⟩
    let d := s.setSchedule ⟨[aClosed], some sourced, some sourced⟩
    let e := s.setSchedule ⟨[], some sourced, some sourced⟩
    (∀ x ∈ [a, b, c, d, e], Settled x ∧ ClockSafe x ∧ LocksSafe x ∧ x.clock.inserts = 0 ∧
      isClosed x.schedule.heldEffective = false) ∧
      effectiveSlot 600 a.schedule.slots = some aClosed ∧ onSlot 600 a.schedule.slots = none ∧
      effectiveSlot 600 b.schedule.slots = some sourced ∧ onSlot 600 b.schedule.slots = some sourced ∧
      effectiveSlot 600 c.schedule.slots = none ∧ (onSlot 600 c.schedule.slots).isSome = true ∧
      slotSourceOf (some sourced) = some .in2 := by
  unfold ClockSafe LocksSafe; decide +kernel
theorem witness_TimesAreAdoptedAndSlewed :
    let t : Telegram := ⟨kindTime, 25, 0, [39, 95, 59]⟩
    let o : Telegram := ⟨kindTime, 4, 0, [39, 95, 59]⟩
    let far := clocked 10077 58 ready
    let near := clocked 10077 59 ready
    let other := (near.setPeers [{ aPeer .present 0 with station := 25 }])
    let slow := near.setClock { near.clock with slewLeft := 1, slew := some 10000, seconds := 58 }
    let fast := near.setClock { near.clock with slewLeft := -1, slew := some 10000 }
    Settled ready ∧ ClockSafe ready ∧ Received kindTime t 0 ready ∧ beNat [39, 95] ≤ 10079 ∧ (59 : Byte).toNat ≤ 59 ∧
      t.origin ≠ 0 ∧ t.origin.toNat ≠ ready.straps.number ∧ adopts ready 25 = true ∧ ready.clock.sure = none ∧
      LocksSafe ready ∧ isClosed ready.schedule.heldEffective = false ∧ LocksSafe far ∧
      Settled far ∧ ClockSafe far ∧ adopts far 25 = true ∧ clockDifference (beNat [39, 95]) 59 far.clock = 121 ∧
      Settled near ∧ ClockSafe near ∧ near.clock.sure.isSome = true ∧ adopts near 25 = true ∧
      clockDifference (beNat [39, 95]) 59 near.clock = 120 ∧ Settled other ∧ ClockSafe other ∧
      Received kindTime o 0 other ∧ Received kindTime ⟨kindTime, 4, 0, [39, 96, 0]⟩ 0 other ∧
      10079 < beNat [39, 96] ∧ Received kindTime ⟨kindTime, 4, 0, [0, 0, 60]⟩ 0 other ∧
      Received kindTime ⟨kindTime, 4, 0, [0, 0]⟩ 0 other ∧ adopts other 4 = false ∧
      Settled slow ∧ slow.clock.slew.isSome = true ∧
      0 < slow.clock.slewLeft ∧ slow.clock.seconds < 59 ∧ Settled fast ∧ fast.clock.slew.isSome = true ∧
      fast.clock.slewLeft < 0 ∧ ready.clock.slew = none ∧
      Settled (slow.setClock { slow.clock with seconds := 59 }) ∧ LocksSafe slow ∧
      isClosed slow.schedule.heldEffective = false ∧
      Settled (slow.setClock { slow.clock with seconds := 59, sure := none }) := by
  unfold ClockSafe LocksSafe; decide +kernel
theorem witness_GrowthSteps :
    let s := atRest (ready.setGroup { ready.group with mode := some .request })
    let u := atRest ((on .lit 100).setGroup { (on .lit 100).group with levelOverride := some 200 })
    Settled s ∧ s.group.shortTimer.isSome = true ∧ amongFirst (min 30 (s.group.growth + 1)) s = true ∧
      s.group.selection = .unselected ∧ ownClaimed s = false ∧ s.lamp.state = .dark ∧
      startConditions (s.setGroup { s.group with selection := .grown }) = true ∧
      Settled u ∧ u.group.shortTimer.isSome = true ∧ u.group.selection ≠ .unselected ∧ Settled ready ∧
      ready.group.shortTimer = none := by decide +kernel

/-- A state with its lamp LIT and a command in front, for the statements of what every step keeps. -/
def litOne : State := (on .lit 100).setPending [.rampStep]

theorem witness_step : (nextOf (step litOne)).isSome = true ∧ lampLocked (examLock litOne).locks = false := by
  decide +kernel

theorem witness_PowerSafe : PowerSafe litOne := by
  have h : litOne.lamp.state = .lit := by decide +kernel
  unfold PowerSafe BallastLines; rw [h]; decide +kernel

theorem witness_SourcesSafe : SourcesSafe litOne.source := by
  have h : litOne.source.state = .noSignal := by decide +kernel
  have h' : litOne.source.shown = none := by decide +kernel
  unfold SourcesSafe; rw [h, h']; decide +kernel

theorem witness_GeometrySafe : GeometrySafe litOne.straps.format litOne.geometry := by
  have h : litOne.geometry.state = .idle := by decide +kernel
  unfold GeometrySafe; rw [h]; decide +kernel

theorem witness_Safe : Safe litOne := by
  unfold Safe
  refine ⟨?_, ?_, ?_, ?_, witness_PowerSafe, ?_, ?_, witness_SourcesSafe, ?_, ?_, ?_, ?_, ?_, witness_GeometrySafe,
    ?_, ?_⟩
  · unfold StartSafe; decide +kernel
  · unfold SettingsSafe; decide +kernel
  · decide +kernel
  · unfold LampHeldOut; decide +kernel
  · unfold ClaimsSafe; decide +kernel
  · unfold LocksSafe; decide +kernel
  · unfold SlotsSafe; decide +kernel
  · unfold ClockSafe; decide +kernel
  · unfold RequestsSafe; decide +kernel
  · unfold SendQueueSafe; decide +kernel
  · unfold PeersSafe; decide +kernel
  · unfold GroupSafe; decide +kernel
  · decide +kernel

end Sys2Proof.Tests
end

section
namespace Sys2Proof.Machine

variable {s u : State}

/-! ### When each judgement of the settling has nothing to do -/

theorem startTest_fixed : startTest s = s ↔ ¬(s.lamp.state = .dark ∧ startConditions s = true) := by
  refine ⟨fun h hc => ?_, fun h => if_neg h⟩
  have hs := congrArg (fun s => s.lamp.state) h
  simp [startTest, hc] at hs

theorem strikeTest_fixed : strikeTest s = s ↔
    (s.lamp.state = .waiting → ¬(permission s = true ∧ s.pins.tacho = .running ∧ s.pins.supplyLow = false)) ∧
    (s.lamp.state = .striking .gap → ¬(s.lamp.retryGap = none ∧ s.pins.tacho = .running)) := by
  have moved : s.lamp.state ≠ .striking .attempt → beginAttempt s ≠ s := fun hn h =>
    hn (by rw [← h]; rfl)
  unfold strikeTest
  split
  case h_1 e => simp [e, moved]
  case h_2 e => simp [e, moved]
  all_goals simp [*]

theorem retarget_fixed : retarget s = s ↔
    (s.lamp.state = .lit → s.lamp.target = clamp s.settings.pMin s.lamp.cap s.lamp.heldP) := by
  unfold retarget
  refine ⟨fun h hl => ?_, fun h => ?_⟩
  · rw [if_pos hl] at h
    exact (congrArg (fun s => s.lamp.target) h).symm
  · split
    · next hl => rw [← h hl]; rfl
    · rfl

theorem runWhile_fixed {c : Bool} {n : Nat} {t : Timer} : runWhile c n t = t ↔ t.isSome = c := by
  unfold runWhile; cases c <;> cases t <;> simp

theorem fanStallJudge_fixed : fanStallJudge s = s ↔
    s.lamp.fanStall.isSome = (fanDriven s.lamp && s.pins.tacho == .stalled) := by
  rw [← runWhile_fixed (n := 5000)]
  refine ⟨fun h => congrArg (fun s => s.lamp.fanStall) h, fun h => ?_⟩
  unfold fanStallJudge; rw [h]; rfl

theorem idleJudge_fixed : idleJudge s = s ↔ s.source.idle.isSome = idleCondition s := by
  rw [← runWhile_fixed (n := s.settings.idle * 60000)]
  refine ⟨fun h => congrArg (fun s => s.source.idle) h, fun h => ?_⟩
  unfold idleJudge; rw [h]; rfl

/-- The life limit is reached or held: what R39 then asks for stands already. -/
def LifeJudged (s : State) : Prop :=
  (lifeReached s || s.wear.lifeHold) = true →
    (litSide s.lamp.state = true → s.wear.lifeHold = true) ∧
    (litSide s.lamp.state = false → s.wear.lifeHold = false ∧ (lockOf s.locks .wear).isSome = true)

theorem setLifeHold_fixed (b : Bool) : s.setWear { s.wear with lifeHold := b } = s ↔ s.wear.lifeHold = b := by
  refine ⟨fun h => (congrArg (fun s => s.wear.lifeHold) h).symm, ?_⟩
  rintro rfl; rfl

theorem lifeJudge_fixed : lifeJudge s = s ↔ LifeJudged s := by
  unfold lifeJudge LifeJudged
  by_cases hc : (lifeReached s || s.wear.lifeHold) = true
  · rw [if_pos hc]
    by_cases hl : litSide s.lamp.state = true
    · simp [hc, hl, setLifeHold_fixed]
    · rw [if_neg hl]
      by_cases hk : (lockOf s.locks .wear).isSome = true
      · simp [hc, hl, hk, setLifeHold_fixed]
      · have hn : lockOf s.locks .wear = none := by simpa using hk
        have hadd : addLock ⟨.wear, scopesLamp, none⟩ (s.setWear { s.wear with lifeHold := false }) ≠ s := by
          intro h
          refine lockSet_grows (s := s.setWear { s.wear with lifeHold := false }) (l := ⟨.wear, scopesLamp, none⟩) hn ?_
          rw [h]; rfl
        simp [hc, hl, hn, hadd]
  · simp [hc]

/-! ### The group's judgement (R115 to R117) -/

theorem sumF_cons (m : Member) (ms : List Member) : sumF (m :: ms) = sumF ms + m.f := by
  have foldl_add : ∀ (ms : List Member) (n : Nat), ms.foldl (fun n m => n + m.f) n = n + sumF ms := by
    intro ms
    induction ms with
    | nil => intro n; rfl
    | cons a rest ih =>
      intro n
      have hs : sumF (a :: rest) = rest.foldl (fun n m => n + m.f) (0 + a.f) := rfl
      rw [List.foldl_cons, ih, hs, ih]; omega
  rw [sumF, List.foldl_cons, foldl_add]; omega

/-- The committed set is the committed peers and, while its lamp is committed, the own station. -/
theorem committedSet_eq (s : State) : committedSet s =
    if committedState s.lamp.state = true then ownMember s :: committedPeers s else committedPeers s := by
  unfold committedSet members
  rw [List.filter_cons]
  rfl

/-- The group is short, told by the own lamp's commitment and SHORTFALL and by the committed peers (R117). -/
theorem groupShort_eq (s : State) : groupShort s =
    (s.group.mode.isSome &&
      (!meets (sumF (committedPeers s) + if committedState s.lamp.state = true then s.geometry.f else 0)
          (targetLevel s) ||
        ((committedState s.lamp.state && s.group.shortfall) || (committedPeers s).any fun m => m.shortfall))) := by
  unfold groupShort
  rw [committedSet_eq]
  cases hc : committedState s.lamp.state <;> simp [sumF_cons, ownMember]

/-- The group as it is short or not with the P and SHORTFALL of this moment. -/
def shortWhenJudged (s : State) : Bool :=
  groupShort
    (s.setGroup { s.group with p := commonPower s, unclamped := unclampedPower s, shortfall := shortfallNow s })

/-- What the judgement makes of the group. -/
def judgedGroup (s : State) : Group :=
  { s.group with
    p := commonPower s
    unclamped := unclampedPower s
    shortfall := shortfallNow s
    shortTimer := runWhile (shortWhenJudged s) 10000 s.group.shortTimer
    growth := if shortWhenJudged s then s.group.growth else 0 }

/-- The P the Lamp Controller holds after the judgement: a new one is handed on (R115). -/
def judgedHeldP (s : State) : Nat :=
  if commonPower s = s.group.p then s.lamp.heldP else clamp 60 100 (commonPower s)

theorem judgeGroup_spec (s : State) :
    judgeGroup s = (s.setGroup (judgedGroup s)).setLamp { s.lamp with heldP := judgedHeldP s } := by
  unfold judgeGroup judgedGroup judgedHeldP runWhile
  by_cases hp : commonPower s = s.group.p
  · simp only [if_pos hp]
    change (if shortWhenJudged s = true then _ else _) = _
    cases shortWhenJudged s <;> rfl
  · simp only [if_neg hp]
    change (if shortWhenJudged s = true then _ else _) = _
    cases shortWhenJudged s <;> rfl

/-- `u` has everything the group's judgement reads as `s` has it, but the held P. -/
structure GroupReads (s u : State) : Prop where
  group : u.group = s.group
  peers : u.peers = s.peers
  settings : u.settings = s.settings
  cap : u.lamp.cap = s.lamp.cap
  committed : committedState u.lamp.state = committedState s.lamp.state
  f : u.geometry.f = s.geometry.f

namespace GroupReads

variable (r : GroupReads s u)
include r

theorem committedPeers : committedPeers u = committedPeers s := by
  simp only [Machine.committedPeers, peerMembers, r.peers, r.settings]

theorem targetLevel : targetLevel u = targetLevel s := by
  simp only [Machine.targetLevel, r.group, r.settings]

theorem unclampedPower : unclampedPower u = unclampedPower s := by
  simp only [Machine.unclampedPower, r.committedPeers, r.targetLevel, r.f]

theorem commonPower : commonPower u = commonPower s := by
  simp only [Machine.commonPower, r.unclampedPower, r.settings, r.cap]

theorem shortfallNow : shortfallNow u = shortfallNow s := by
  simp only [Machine.shortfallNow, r.unclampedPower, r.committed, r.cap]

theorem groupShort : groupShort u = groupShort s := by
  simp only [groupShort_eq, r.committedPeers, r.targetLevel, r.committed, r.group, r.f]

theorem setGroup (g : Group) : GroupReads (s.setGroup g) (u.setGroup g) :=
  { r with group := rfl }

theorem judgedGroup : judgedGroup u = judgedGroup s := by
  have hs : shortWhenJudged u = shortWhenJudged s := by
    simp only [shortWhenJudged, r.commonPower, r.unclampedPower, r.shortfallNow, r.group]
    exact (r.setGroup _).groupShort
  simp only [Machine.judgedGroup, r.commonPower, r.unclampedPower, r.shortfallNow, hs, r.group]

end GroupReads

theorem judgeGroup_fixed : judgeGroup s = s ↔ judgedGroup s = s.group := by
  rw [judgeGroup_spec]
  refine ⟨fun h => congrArg State.group h, fun h => ?_⟩
  have hp : commonPower s = s.group.p := congrArg Group.p h
  rw [h, judgedHeldP, if_pos hp]; rfl

theorem judgeGroup_fixed_congr (r : GroupReads s u) (h : judgeGroup s = s) : judgeGroup u = u := by
  rw [judgeGroup_fixed] at h ⊢
  rw [r.judgedGroup, h, r.group]

theorem runWhile_idem (c : Bool) (n : Nat) (t : Timer) : runWhile c n (runWhile c n t) = runWhile c n t := by
  rw [runWhile_fixed]; unfold runWhile; cases c <;> cases t <;> rfl

/-- A judgement made again changes nothing. -/
theorem judgeGroup_idem (s : State) : judgeGroup (judgeGroup s) = judgeGroup s := by
  rw [judgeGroup_fixed, judgeGroup_spec]
  generalize hu : (s.setGroup (judgedGroup s)).setLamp { s.lamp with heldP := judgedHeldP s } = u
  have hp : commonPower u = commonPower s := by rw [← hu]; rfl
  have hn : unclampedPower u = unclampedPower s := by rw [← hu]; rfl
  have hf : shortfallNow u = shortfallNow s := by rw [← hu]; rfl
  have hs : shortWhenJudged u = shortWhenJudged s := by rw [← hu]; rfl
  have hg : u.group = judgedGroup s := by rw [← hu]; rfl
  unfold judgedGroup
  rw [hp, hn, hf, hs, hg]
  unfold judgedGroup
  simp only [runWhile_idem]
  cases shortWhenJudged s <;> rfl

theorem judgeGroup_state (s : State) : (judgeGroup s).lamp.state = s.lamp.state := by rw [judgeGroup_spec]; rfl

/-! ### What the judgements of the settling can do -/

/-- The WEAR lock (R39). -/
def wearLock : Lock := ⟨.wear, scopesLamp, none⟩

/-- A LAMP lock added puts the lamp out and clears the selection (R14, R114). -/
theorem addLock_lamp {l : Lock} (hl : l.scopes.lamp = true) (hn : lockOf s.locks l.holder = none) :
    addLock l s = clearSelection (unwanted (s.setLocks (withoutHolder l.holder s.locks ++ [l]))) := by
  have hmem : ¬s.locks.contains l = true := by
    intro hm
    have := List.find?_eq_none.mp hn l (by simpa using hm)
    simp at this
  unfold addLock
  rw [if_neg hmem, if_pos hl]

/-- The judgement of the life limit sets the life hold, or adds the WEAR lock to a lamp that is not lit-side (R39). -/
theorem lifeJudge_cases (s : State) :
    (∃ b, lifeJudge s = s.setWear { s.wear with lifeHold := b } ∧ LifeJudged (lifeJudge s)) ∨
    (litSide s.lamp.state = false ∧ lockOf s.locks .wear = none ∧
      lifeJudge s = clearSelection (unwanted
        ((s.setWear { s.wear with lifeHold := false }).setLocks (withoutHolder .wear s.locks ++ [wearLock])))) := by
  unfold lifeJudge
  split
  · split
    · next hl => exact .inl ⟨true, rfl, fun _ => ⟨fun _ => rfl, fun h => absurd (hl.symm.trans h) (by decide)⟩⟩
    · next hl =>
      by_cases hk : (lockOf s.locks .wear).isSome = true
      · refine .inl ⟨false, if_pos hk, ?_⟩
        rw [if_pos (by exact hk)]
        exact fun _ => ⟨fun h => absurd h hl, fun _ => ⟨rfl, hk⟩⟩
      · refine .inr ⟨by simpa using hl, by simpa using hk, ?_⟩
        simp only [State.setWear_locks, if_neg hk]
        exact addLock_lamp rfl (by simpa using hk)
  · next hc => exact .inl ⟨s.wear.lifeHold, rfl, fun h => absurd h hc⟩

/-- The withdrawal (R119) acts on a lamp in DARK, WAITING or COOLING, and in SERVICE on the selection alone (R26). -/
theorem withdrawTest_cases (b s : State) : withdrawTest b s = s ∨
    (withdraws s = true ∧ (s.lamp.state = .dark ∨ s.lamp.state = .waiting ∨ s.lamp.state = .cooling) ∧
      withdrawTest b s = if inService s = true then clearSelection s else unwanted (clearSelection s)) := by
  unfold withdrawTest
  split
  · next h =>
    obtain ⟨-, hw⟩ := h
    have hwithdraws := hw
    unfold withdraws at hw
    simp only [Bool.and_eq_true, Bool.or_eq_true, beq_iff_eq] at hw
    obtain ⟨⟨⟨⟨hsel, hmode⟩, hstate⟩, -⟩, -⟩ := hw
    refine .inr ⟨hwithdraws, by tauto, ?_⟩
    have h1 : wanted s = true := by simp [wanted, hsel, hmode]
    have h2 : wanted (clearSelection s) = false := by simp [wanted, clearSelection]
    have h3 : inService (clearSelection s) = inService s := rfl
    unfold onDecision
    rw [h1, h2, h3]; rfl
  · exact .inl rfl

/-! ### Every settling ends settled (log 9) -/

/-- A lamp that is not lit-side is put out without an extinction: the wear stays (R13). -/
theorem unwanted_wear (h : litSide s.lamp.state = false) : (unwanted s).wear = s.wear := by
  unfold unwanted; cases hs : s.lamp.state <;> simp_all [litSide]; rfl

theorem unwanted_settings (s : State) : (unwanted s).settings = s.settings :=
  (congrArg State.settings (outside_unwanted s) :)

theorem litSide_of_not_committed {l : LampState} (h : committedState l = false) : litSide l = false := by
  unfold committedState at h; simp_all

theorem lockOf_append (ls : List Lock) (l : Lock) :
    (lockOf (withoutHolder l.holder ls ++ [l]) l.holder).isSome = true := by
  simp [lockOf]

theorem lampLocked_append {l : Lock} (hl : l.scopes.lamp = true) (ls : List Lock) : lampLocked (ls ++ [l]) = true := by
  simp [lampLocked, hl]

theorem startConditions_locked (h : lampLocked s.locks = true) : startConditions s = false := by
  simp [startConditions, h]

theorem startConditions_unwanted (h : wanted s = false) : startConditions s = false := by
  simp [startConditions, h]

/-- The life limit, the start and the strike have been judged. -/
structure Steady (s : State) : Prop where
  life : LifeJudged s
  start : ¬(s.lamp.state = .dark ∧ startConditions s = true)
  strike : strikeTest s = s

/-- `u` has everything the life limit, the start and the strike are judged by as `s` has it. -/
structure SteadyReads (s u : State) : Prop where
  state : u.lamp.state = s.lamp.state
  retryGap : u.lamp.retryGap = s.lamp.retryGap
  faults : u.lamp.faults = s.lamp.faults
  wear : u.wear = s.wear
  locks : u.locks = s.locks
  claims : u.claims = s.claims
  pins : u.pins = s.pins
  settings : u.settings = s.settings
  straps : u.straps = s.straps
  wanted : wanted u = wanted s
  fresh : isFresh u = isFresh s
  duplicate : isDuplicate u = isDuplicate s
  service : inService u = inService s

theorem LifeJudged.congr (h : LifeJudged s) (hw : u.wear = s.wear) (hs : u.settings = s.settings)
    (hk : u.locks = s.locks) (hl : litSide u.lamp.state = litSide s.lamp.state) : LifeJudged u := by
  unfold LifeJudged lifeReached at h ⊢; rwa [hw, hs, hk, hl]

theorem SteadyReads.startConditions (r : SteadyReads s u) : startConditions u = startConditions s := by
  unfold Machine.startConditions
  rw [r.wanted, r.locks, r.faults, r.fresh, r.duplicate, r.service, r.pins]

theorem SteadyReads.permission (r : SteadyReads s u) : permission u = permission s := by
  unfold Machine.permission ownClaimed; rw [r.claims, r.straps, r.settings]

theorem Steady.congr (r : SteadyReads s u) (h : Steady s) : Steady u := by
  refine ⟨h.life.congr r.wear r.settings r.locks (by rw [r.state]), ?_, ?_⟩
  · rw [r.startConditions, r.state]; exact h.start
  · have hs := h.strike
    rw [strikeTest_fixed] at hs ⊢
    rwa [r.state, r.permission, r.pins, r.retryGap]

theorem startTest_judged (s : State) :
    ¬((startTest s).lamp.state = .dark ∧ startConditions (startTest s) = true) := by
  unfold startTest
  split
  · rintro ⟨h, -⟩; cases h
  · assumption

/-- The strike's test leaves the lamp as it is, or in an attempt. -/
theorem strikeTest_cases (s : State) : strikeTest s = s ∨ strikeTest s = beginAttempt s := by
  unfold strikeTest; (repeat' split) <;> simp

theorem strikeTest_idem (s : State) : strikeTest (strikeTest s) = strikeTest s := by
  rcases strikeTest_cases s with h | h
  · rw [h, h]
  · rw [h]; rfl

theorem strikeTest_start (h : ¬(s.lamp.state = .dark ∧ startConditions s = true)) :
    ¬((strikeTest s).lamp.state = .dark ∧ startConditions (strikeTest s) = true) := by
  rcases strikeTest_cases s with hs | hs
  · rwa [hs]
  · rw [hs]; rintro ⟨hd, -⟩; cases hd

/-- The lamp after the WEAR lock is added is steady: nothing starts under a LAMP lock. -/
theorem steady_of_locked {l : Lock} (hl : l.scopes.lamp = true) (hh : l.holder = .wear)
    (hs : litSide s.lamp.state = false) (hw : s.wear.lifeHold = false) :
    Steady (clearSelection (unwanted (s.setLocks (withoutHolder l.holder s.locks ++ [l])))) := by
  set t := s.setLocks (withoutHolder l.holder s.locks ++ [l]) with ht
  have hlocks : (clearSelection (unwanted t)).locks = withoutHolder l.holder s.locks ++ [l] := by simp [ht]
  have hout : committedState (clearSelection (unwanted t)).lamp.state = false := unwanted_not_committed t
  have hwear : (clearSelection (unwanted t)).wear = s.wear := unwanted_wear (s := t) hs
  refine ⟨fun _ => ⟨fun h => ?_, fun _ => ⟨by rw [hwear, hw], ?_⟩⟩, fun h => ?_, ?_⟩
  · rw [litSide_of_not_committed hout] at h; cases h
  · rw [hlocks, ← hh]; exact lockOf_append _ _
  · rw [startConditions_locked (by rw [hlocks]; exact lampLocked_append hl _)] at h; cases h.2
  · rw [strikeTest_fixed]
    constructor <;> intro h <;> rw [h] at hout <;> cases hout

/-- The two judgements of the life limit with the start and the strike between them leave nothing of the three to do. -/
theorem steady_judged (s : State) : Steady (lifeJudge (strikeTest (startTest s))) := by
  set v := strikeTest (startTest s) with hv
  have hstart := strikeTest_start (startTest_judged s)
  have hstrike : strikeTest v = v := strikeTest_idem _
  rcases lifeJudge_cases v with ⟨b, h, hlife⟩ | ⟨hl, -, h⟩
  · rw [h] at hlife ⊢
    refine ⟨hlife, hstart, ?_⟩
    rw [strikeTest_fixed] at hstrike ⊢
    exact hstrike
  · rw [h]
    exact steady_of_locked (s := v.setWear { v.wear with lifeHold := false }) (l := wearLock) rfl rfl hl rfl

theorem Steady.judgeGroup (h : Steady s) : Steady (judgeGroup s) := by
  rw [judgeGroup_spec]
  exact Steady.congr (s := s) ⟨rfl, rfl, rfl, rfl, rfl, rfl, rfl, rfl, rfl, rfl, rfl, rfl, rfl⟩ h

theorem Steady.withdrawTest (b : State) (h : Steady s) : Steady (withdrawTest b s) := by
  rcases withdrawTest_cases b s with hw | ⟨-, hstate, hw⟩
  · rwa [hw]
  have hdrop : wanted (clearSelection s) = false := by simp [wanted, clearSelection]
  rw [hw]
  split
  · have hs := h.strike
    refine ⟨h.life, fun hc => ?_, ?_⟩
    · rw [startConditions_unwanted hdrop] at hc; cases hc.2
    · rw [strikeTest_fixed] at hs ⊢; exact hs
  · have hdark : litSide s.lamp.state = false := by rcases hstate with e | e | e <;> rw [e] <;> rfl
    have hout := unwanted_not_committed (clearSelection s)
    refine ⟨h.life.congr (unwanted_wear hdark) (unwanted_settings _) (unwanted_locks _) ?_, fun hc => ?_, ?_⟩
    · rw [litSide_of_not_committed hout, hdark]
    · have hg : wanted (unwanted (clearSelection s)) = false := by
        unfold wanted at hdrop ⊢; rwa [unwanted_group]
      rw [startConditions_unwanted hg] at hc; cases hc.2
    · rw [strikeTest_fixed]
      constructor <;> intro e <;> rw [e] at hout <;> cases hout

/-- What the settling does not read may change under a settled state. -/
theorem Settled.quiet (h : Settled s) (q : Quiet s u) : Settled u := by
  obtain ⟨h1, h2, h3, h4, h5, h6, h7⟩ := h
  exact ⟨lifeJudge_quiet q h1, startTest_quiet q h2, strikeTest_quiet q h3, judgeGroup_quiet q h4,
    retarget_quiet q h5, fanStallJudge_quiet q h6, idleJudge_quiet q h7⟩

theorem beaconJudge_eq (b s : State) : beaconJudge b s = s.setLine (beaconJudge b s).line := by
  unfold beaconJudge; split <;> rfl

theorem retarget_eq (s : State) : retarget s = s.setLamp { s.lamp with target := (retarget s).lamp.target } := by
  unfold retarget; split <;> rfl

theorem retarget_idem (s : State) : retarget (retarget s) = retarget s := by
  rw [retarget_fixed]
  intro h
  have hl : s.lamp.state = .lit := by rw [retarget_eq] at h; exact h
  unfold retarget; rw [if_pos hl]; rfl

/-- From a steady state with its group judged, the target and the two timers are all that is left to settle. -/
theorem settled_of_steady (h : Steady s) (hg : judgeGroup s = s) :
    Settled (idleJudge (fanStallJudge (retarget s))) := by
  have hr := retarget_fixed.mp (retarget_idem s)
  rw [retarget_eq] at hr ⊢
  obtain ⟨h1, h2, h3⟩ := h
  exact ⟨lifeJudge_fixed.mpr h1, startTest_fixed.mpr h2, strikeTest_fixed.mpr (strikeTest_fixed (s := s).mp h3),
    judgeGroup_fixed_congr (s := s) ⟨rfl, rfl, rfl, rfl, rfl, rfl⟩ hg, retarget_fixed.mpr hr,
    fanStallJudge_fixed.mpr (runWhile_fixed.mp (runWhile_idem _ 5000 _)),
    idleJudge_fixed.mpr (runWhile_fixed.mp (runWhile_idem _ (s.settings.idle * 60000) _))⟩

theorem Settled.beaconJudge (h : Settled s) (b : State) : Settled (beaconJudge b s) := by
  rw [beaconJudge_eq]
  exact h.quiet ⟨rfl, rfl, rfl, rfl, rfl, rfl, rfl, rfl, rfl, rfl, rfl, rfl, rfl, rfl, rfl, rfl, rfl⟩

/-- Nothing is left to settle once the settling is made, from whatever state (log 9). -/
theorem settle_settled (b s : State) : Settled (settle b s) :=
  have hsteady := ((steady_judged (lifeJudge s)).judgeGroup.withdrawTest b).judgeGroup
  (settled_of_steady hsteady (judgeGroup_idem _)).beaconJudge b

/-! ### Every command ends settled -/

theorem settled_of_finish {op : State → State} {t : State} (e : finish op s = .next t) : Settled t := by
  obtain rfl := Host.Outcome.next.inj e
  exact settle_settled _ _

theorem sampleKey_settled {get : Panel → Key} {put : Panel → Key → Panel} {press : State → State}
    (hput : ∀ p k, (put p k).switch = p.switch) (samples : List Bool) (h : Settled s) :
    Settled (sampleKey get put press samples s) := by
  induction samples generalizing s with
  | nil => exact h
  | cons x rest ih =>
    have hkey : Settled (s.setPanel (put s.panel (keySample (get s.panel) x).1)) := by
      refine h.quiet ⟨rfl, rfl, rfl, rfl, rfl, rfl, rfl, rfl, rfl, rfl, rfl, rfl, rfl, ?_, rfl, rfl, rfl⟩
      unfold inService; rw [State.setPanel_panel, hput]
    unfold sampleKey
    refine ih ?_
    split
    · unfold whenSettled
      split
      · exact settle_settled _ _
      · exact hkey
    · exact hkey

theorem settlePosition_settled (p : KeyPosition) (h : Settled s) : Settled (settlePosition p s) := by
  unfold settlePosition
  simp only
  split
  · exact h
  · exact settle_settled _ _

theorem sampleSwitch_settled (samples : List KeyReading) (h : Settled s) : Settled (sampleSwitch samples s) := by
  induction samples generalizing s with
  | nil => exact h
  | cons r rest ih =>
    have hswitch (k : KeySwitch) (hk : k.settled = s.panel.switch.settled) :
        Settled (s.setPanel { s.panel with switch := k }) := by
      refine h.quiet ⟨rfl, rfl, rfl, rfl, rfl, rfl, rfl, rfl, rfl, rfl, rfl, rfl, rfl, ?_, rfl, rfl, rfl⟩
      unfold inService; rw [State.setPanel_panel, hk]
    have hkept : (switchSample s.panel.switch r).1.settled = s.panel.switch.settled := by
      unfold switchSample; split <;> rfl
    unfold sampleSwitch
    refine ih ?_
    split
    · exact settlePosition_settled _ (hswitch _ hkept)
    · exact hswitch _ hkept

theorem hear_settled (x : LineSignal) (h : Settled s) : Settled (hear x s) :=
  h.quiet ⟨rfl, rfl, rfl, rfl, rfl, rfl, rfl, rfl, rfl, rfl, rfl, rfl, rfl, rfl, rfl, rfl, rfl⟩

theorem receiveAll_settled (signals : List LineSignal) (h : Settled s) : Settled (receiveAll signals s) := by
  induction signals generalizing s with
  | nil => exact h
  | cons x rest ih =>
    unfold receiveAll receiveOne
    refine ih ?_
    split
    · exact settle_settled _ _
    · exact hear_settled x h

theorem receive_settled (signals : List LineSignal) (h : Settled s) : Settled (receive signals s) := by
  unfold receive
  split
  · exact receiveAll_settled signals h
  · exact h

/-- A command carried out in a settled state ends in one. -/
theorem exec_settled {i : Instr} {t : State} (h : Settled s) (e : exec i s = .next t) : Settled t := by
  cases i with
  | powerOn p =>
    have e : execPowerOn p s = .next t := e
    unfold execPowerOn at e
    split at e
    · cases e
    · obtain rfl := Host.Outcome.next.inj e; exact settle_settled _ _
  | receiveError | requestArrival | answer | beacon | claim | release | time | telegramOfUnknownKind =>
    obtain rfl := Host.Outcome.next.inj e; exact receive_settled _ h
  | keypadPower | keypadSource | keypadVPlus | keypadVMinus | keypadClear =>
    obtain rfl := Host.Outcome.next.inj e
    refine sampleKey_settled ?_ _ h
    exact fun _ _ => rfl
  | keySwitchSettle => obtain rfl := Host.Outcome.next.inj e; exact sampleSwitch_settled _ h
  | _ => exact settled_of_finish e

theorem setPending_settled (h : Settled s) (q : List Instr) : Settled (s.setPending q) :=
  h.quiet ⟨rfl, rfl, rfl, rfl, rfl, rfl, rfl, rfl, rfl, rfl, rfl, rfl, rfl, rfl, rfl, rfl, rfl⟩

theorem step_settled {t : State} (h : Settled s) (e : step s = .next t) : Settled t := by
  unfold step at e
  split at e
  · cases e; exact h
  · exact exec_settled (setPending_settled h _) e

/-- Settles O56: every command ends with the settling, and the settling leaves nothing to settle. -/
theorem stepsEndSettled : Obligations.StepsEndSettled := by
  rintro s t ⟨-, -, hsettled, -⟩ e
  exact step_settled hsettled e

end Sys2Proof.Machine
end

section
/-! ## What every step keeps of the lamp: its power, its claims, and what holds it out (R1 to R17, R84 to R97) -/

namespace Sys2Proof.Machine

variable {s u : State}

/-! ### The part of a state that the lamp's invariants read -/

/-- What the invariants of the lamp read of a state. -/
structure LampView where
  state : LampState
  attempts : Nat
  faults : LampFaults
  cap : Nat
  heldP : Nat
  actual : Nat
  coolDown : Timer
  claims : List ClaimEntry
  number : Nat
  pMin : Nat
  budget : Nat
  locked : Bool
  fresh : Bool
  duplicate : Bool
  service : Bool

def lampView (s : State) : LampView where
  state := s.lamp.state
  attempts := s.lamp.attempts
  faults := s.lamp.faults
  cap := s.lamp.cap
  heldP := s.lamp.heldP
  actual := s.lamp.actual
  coolDown := s.lamp.coolDown
  claims := s.claims
  number := s.straps.number
  pMin := s.settings.pMin
  budget := s.settings.budget
  locked := lampLocked s.locks
  fresh := isFresh s
  duplicate := isDuplicate s
  service := inService s

/-- A station's claim stands in a list of claims. -/
def claimedBy (n : Nat) (xs : List ClaimEntry) : Bool := xs.any fun c => c.claimant == n

/-- The power of the lamp by its state, but for the target, which the settling sets (R1, R4, R7 to R10, R17, R21). -/
structure PowerForm (v : LampView) : Prop where
  cap : v.cap = 100 ∨ v.cap = 70
  heldP : 60 ≤ v.heldP ∧ v.heldP ≤ 100
  off : burning v.state = false → v.actual = 0
  byState : match v.state with
    | .warming => v.actual = v.cap
    | .lit => v.pMin ≤ v.actual ∧ v.actual ≤ v.cap
    | .waiting => v.attempts = 0 ∧ v.coolDown = none
    | .striking .attempt => 1 ≤ v.attempts ∧ v.attempts ≤ 3 ∧ v.coolDown = none
    | .striking .gap => 1 ≤ v.attempts ∧ v.attempts ≤ 2 ∧ v.coolDown = none
    | .dark => True
    | .cooling => True
    | .fault => anyFault v.faults = true

/-- The claims by the lamp state (R84, R90 to R92), and the own number in its range. -/
structure ClaimForm (v : LampView) : Prop where
  striking : inStrike v.state = true → claimedBy v.number v.claims = true ∧ aheadOf v.number v.claims < v.budget
  claimed : claimedBy v.number v.claims = true → claiming v.state = true
  nodup : (v.claims.map fun c => c.claimant).Nodup
  entries : ∀ c ∈ v.claims, 1 ≤ c.claimant ∧ c.claimant ≤ 31 ∧ (c.age = none ↔ c.claimant = v.number)
  number : 1 ≤ v.number ∧ v.number ≤ 31

/-- What holds for the lamp whatever holds it out. -/
structure LampForm (v : LampView) : Prop where
  power : PowerForm v
  claims : ClaimForm v

/-- What keeps the lamp from being committed does so (R14), and what keeps it from claiming (R5, R97). -/
structure HeldOut (v : LampView) : Prop where
  locked : v.locked = true → committedState v.state = false
  free : claiming v.state = true → v.fresh = false ∧ v.duplicate = false ∧ v.service = false

def Formed (s : State) : Prop := LampForm (lampView s)

/-- What every operation of a step keeps of the lamp. -/
def Kept (s : State) : Prop := LampForm (lampView s) ∧ HeldOut (lampView s)

theorem Kept.of_view (h : lampView u = lampView s) (k : Kept s) : Kept u := by unfold Kept at *; rwa [h]

theorem Formed.of_view (h : lampView u = lampView s) (k : Formed s) : Formed u := by unfold Formed at *; rwa [h]

theorem Kept.formed (k : Kept s) : Formed s := k.1

theorem claiming_committed {l : LampState} (h : claiming l = true) : committedState l = true := by
  cases l <;> first | rfl | cases h

theorem claiming_of_not_committed {l : LampState} (h : committedState l = false) : claiming l = false := by
  cases l <;> first | rfl | cases h

/-- A lamp that is not committed is held out by whatever should hold it out. -/
theorem Formed.kept (h : Formed s) (hc : committedState s.lamp.state = false) : Kept s :=
  ⟨h, fun _ => hc, fun hcl => by
    rw [show claiming (lampView s).state = false from claiming_of_not_committed hc] at hcl; cases hcl⟩

/-! ### The views and the statements -/

theorem claimForm_iff (s : State) : ClaimForm (lampView s) ∧ (claiming s.lamp.state = true →
      isFresh s = false ∧ isDuplicate s = false ∧ inService s = false) ↔
    ClaimsSafe s ∧ 1 ≤ s.straps.number ∧ s.straps.number ≤ 31 := by
  have hp : permission s = true ↔
      claimedBy s.straps.number s.claims = true ∧ aheadOf s.straps.number s.claims < s.settings.budget := by
    unfold permission; rw [Bool.and_eq_true, decide_eq_true_eq]; rfl
  unfold ClaimsSafe
  rw [hp]
  constructor
  · rintro ⟨⟨h1, h2, h3, h4, h5⟩, h6⟩; exact ⟨⟨h1, h2, h6, h3, h4⟩, h5⟩
  · rintro ⟨⟨h1, h2, h6, h3, h4⟩, h5⟩; exact ⟨⟨h1, h2, h3, h4, h5⟩, h6⟩

theorem PowerSafe.form (h : PowerSafe s) : PowerForm (lampView s) := by
  obtain ⟨h1, h2, h3, h4, h5⟩ := h
  refine ⟨h1, ⟨h2, h3⟩, fun hb => ?_, ?_⟩
  · change burning s.lamp.state = false at hb
    unfold BallastLines at h4
    split at h4 <;> rename_i e <;> simp_all [burning, lampView]
  · simp only [lampView]
    split at h5 <;> simp_all

theorem PowerForm.safe (h : PowerForm (lampView s)) (ht : retarget s = s) : PowerSafe s := by
  rw [retarget_fixed] at ht
  obtain ⟨h1, ⟨h2, h3⟩, h4, h5⟩ := h
  simp only [lampView] at h1 h2 h3 h4 h5
  refine ⟨h1, h2, h3, ?_, ?_⟩
  · unfold BallastLines strikeLine ballastSetting
    split at h5 <;> simp_all [burning]
  · split at h5 <;> simp_all

theorem Safe.kept (h : Safe s) : Kept s := by
  obtain ⟨⟨-, -, -, hnumber⟩, -, -, hout, hpower, hclaims, -⟩ := h
  obtain ⟨hform, hfree⟩ := (claimForm_iff s).mpr ⟨hclaims, hnumber⟩
  exact ⟨⟨hpower.form, hform⟩, hout, hfree⟩

/-! ### Operations that touch nothing of the view -/

@[simp] theorem lampView_setPins (s : State) (x : Pins) : lampView (s.setPins x) = lampView s := rfl
@[simp] theorem lampView_setWear (s : State) (x : Wear) : lampView (s.setWear x) = lampView s := rfl
@[simp] theorem lampView_setGeometry (s : State) (x : Geometry) : lampView (s.setGeometry x) = lampView s := rfl
@[simp] theorem lampView_setPeers (s : State) (x : List Peer) : lampView (s.setPeers x) = lampView s := rfl
@[simp] theorem lampView_setGroup (s : State) (x : Group) : lampView (s.setGroup x) = lampView s := rfl
@[simp] theorem lampView_setSource (s : State) (x : Source) : lampView (s.setSource x) = lampView s := rfl
@[simp] theorem lampView_setClock (s : State) (x : Clock) : lampView (s.setClock x) = lampView s := rfl
@[simp] theorem lampView_setSchedule (s : State) (x : Schedule) : lampView (s.setSchedule x) = lampView s := rfl
@[simp] theorem lampView_setLine (s : State) (x : HallLine) : lampView (s.setLine x) = lampView s := rfl
@[simp] theorem lampView_setSerial (s : State) (x : List Host.Cell) : lampView (s.setSerial x) = lampView s := rfl
@[simp] theorem lampView_setScalerLink (s : State) (x : List ScalerMessage) :
    lampView (s.setScalerLink x) = lampView s := rfl
@[simp] theorem lampView_setPending (s : State) (x : List Instr) : lampView (s.setPending x) = lampView s := rfl
@[simp] theorem lampView_send (p : Payload) (s : State) : lampView (send p s) = lampView s := rfl
@[simp] theorem lampView_setRelight (b : Bool) (s : State) : lampView (setRelight b s) = lampView s := rfl
@[simp] theorem lampView_clearSelection (s : State) : lampView (clearSelection s) = lampView s := rfl

@[simp] theorem lampView_startWrite (s : State) : lampView (startWrite s) = lampView s := by
  unfold startWrite; split <;> rfl
@[simp] theorem lampView_requestWrite (s : State) : lampView (requestWrite s) = lampView s := by
  unfold requestWrite; (repeat' split) <;> simp
@[simp] theorem lampView_reportExtinction (s : State) : lampView (reportExtinction s) = lampView s := by
  simp [reportExtinction]
@[simp] theorem lampView_countTrouble (s : State) : lampView (countTrouble s) = lampView s := rfl
@[simp] theorem lampView_reserveForHead (s : State) : lampView (reserveForHead s) = lampView s := by
  unfold reserveForHead; (repeat' split) <;> rfl
@[simp] theorem lampView_linkProgress (s : State) : lampView (linkProgress s) = lampView s := by
  unfold linkProgress sendRecords; split <;> rfl
@[simp] theorem lampView_sendSelect (i : Option Input) (o : Option Origin) (s : State) :
    lampView (sendSelect i o s) = lampView s := by
  unfold sendSelect tellScaler; simp
@[simp] theorem lampView_beginSwitch (i : Option Input) (s : State) : lampView (beginSwitch i s) = lampView s := by
  unfold beginSwitch; simp
@[simp] theorem lampView_judgeWith (i : Option Input) (s : State) : lampView (judgeWith i s) = lampView s := by
  unfold judgeWith; (repeat' split) <;> simp
@[simp] theorem lampView_judgeSource (s : State) : lampView (judgeSource s) = lampView s := by
  unfold judgeSource; split <;> simp
@[simp] theorem lampView_push (i : Input) (o : Origin) (s : State) : lampView (push i o s) = lampView s := by
  unfold push; simp only; (repeat' split) <;> simp
@[simp] theorem lampView_startSelector (s : State) : lampView (startSelector s) = lampView s := by
  unfold startSelector; split <;> simp
@[simp] theorem lampView_retarget (s : State) : lampView (retarget s) = lampView s := by rw [retarget_eq]; rfl
@[simp] theorem lampView_fanStallJudge (s : State) : lampView (fanStallJudge s) = lampView s := rfl
@[simp] theorem lampView_idleJudge (s : State) : lampView (idleJudge s) = lampView s := rfl
@[simp] theorem lampView_beaconJudge (b s : State) : lampView (beaconJudge b s) = lampView s := by
  rw [beaconJudge_eq]; rfl

/-! ### Putting the lamp out -/

/-- The claims without the own one (R5, R91). -/
def released (v : LampView) : List ClaimEntry := v.claims.filter fun c => c.claimant != v.number

@[simp] theorem lampView_releaseClaim (s : State) :
    lampView (releaseClaim s) = { lampView s with claims := released (lampView s) } := rfl

theorem lampView_extinguish (n : LampState) (s : State) : lampView (extinguish n s) =
    { lampView s with
      state := n, actual := 0, coolDown := some (s.settings.coolDown * 1000)
      claims := if inStrike s.lamp.state = true then released (lampView s) else s.claims } := by
  unfold extinguish
  cases h : s.lamp.state with
  | striking p => cases p <;> rfl
  | warming | lit => simp only [burning, if_true, lampView_reportExtinction]; rfl
  | dark | waiting | cooling | fault => rfl

/-- No own claim stands to be released unless the lamp is claiming (R90, R91). -/
theorem ClaimForm.released_eq {v : LampView} (h : ClaimForm v) (hc : claiming v.state = false) :
    released v = v.claims := by
  refine List.filter_eq_self.mpr fun c hmem => ?_
  by_contra hn
  have hown : claimedBy v.number v.claims = true := List.any_eq_true.mpr ⟨c, hmem, by simpa using hn⟩
  rw [h.claimed hown] at hc; cases hc

/-- A lamp that ceases to claim releases its claim (R5, R91). -/
theorem ClaimForm.release {v w : LampView} (h : ClaimForm v) (hs : claiming w.state = false)
    (hn : w.number = v.number) (hcl : w.claims = released v) : ClaimForm w where
  striking hst := by
    have : claiming w.state = true := by
      unfold inStrike at hst; cases hw : w.state <;> simp_all [claiming]
    rw [hs] at this; cases this
  claimed hown := by
    rw [hcl, hn] at hown
    simp [claimedBy, released] at hown
  nodup := by
    rw [hcl]; exact h.nodup.sublist (List.filter_sublist.map _)
  entries c hc := by
    rw [hcl] at hc; rw [hn]; exact h.entries c (List.mem_of_mem_filter hc)
  number := by rw [hn]; exact h.number

/-- A lamp put out without a new fault: cap and P stand, the power is 0. -/
theorem PowerForm.out {v w : LampView} (h : PowerForm v) (hs : committedState w.state = false)
    (hf : w.state = .fault → anyFault w.faults = true) (hcap : w.cap = v.cap) (hp : w.heldP = v.heldP)
    (ha : w.actual = 0) : PowerForm w where
  cap := by rw [hcap]; exact h.cap
  heldP := by rw [hp]; exact h.heldP
  off _ := ha
  byState := by
    split <;> rename_i e <;> rw [e] at hs <;> first | exact hf e | trivial

theorem burning_of_not_litSide {l : LampState} (h : litSide l = false) : burning l = false := by
  cases l <;> first | rfl | cases h

/-- An extinction leaves no own claim: from STRIKING it is released, in WARMING and LIT none stands (R12, R91). -/
theorem ClaimForm.extinguish (h : ClaimForm (lampView s)) (hl : litSide s.lamp.state = true) (n : LampState) :
    (extinguish n s).claims = released (lampView s) := by
  have hclaims := congrArg LampView.claims (lampView_extinguish n s)
  change (Machine.extinguish n s).claims = if inStrike s.lamp.state = true then released (lampView s)
    else (lampView s).claims at hclaims
  rw [hclaims]
  split
  · rfl
  · next hst =>
    refine (h.released_eq ?_).symm
    change claiming s.lamp.state = false
    cases hs : s.lamp.state with
    | striking p => cases p <;> simp [hs, inStrike] at hst
    | waiting => rw [hs] at hl; cases hl
    | warming | lit | dark | cooling | fault => rfl

/-- Out of STRIKING, WARMING or LIT by an extinction (R12). -/
theorem Formed.extinguish (h : Formed s) (hl : litSide s.lamp.state = true) : Formed (extinguish .cooling s) := by
  have hclaims := h.claims.extinguish hl .cooling
  refine ⟨h.power.out ?_ ?_ ?_ ?_ ?_, h.claims.release ?_ ?_ hclaims⟩ <;> rw [lampView_extinguish] <;> first | rfl | nofun

/-- Out of WAITING with the claim released (R13, R21). -/
theorem Formed.leaveWaiting (h : Formed s) (hw : s.lamp.state = .waiting) :
    Formed ((releaseClaim s).setLamp { (releaseClaim s).lamp with state := .dark }) := by
  have hact : (lampView s).actual = 0 := h.power.off (by change burning s.lamp.state = false; rw [hw]; rfl)
  exact ⟨h.power.out rfl nofun rfl rfl hact, h.claims.release rfl rfl rfl⟩

theorem Formed.unwanted (h : Formed s) : Formed (unwanted s) := by
  unfold Machine.unwanted
  cases hs : s.lamp.state with
  | dark | fault | cooling => exact h
  | waiting => exact h.leaveWaiting hs
  | striking p => exact h.extinguish (by rw [hs]; rfl)
  | warming | lit => exact h.extinguish (by rw [hs]; rfl)

/-! ### The decision and the selection -/

theorem Kept.setRelight (k : Kept s) (b : Bool) : Kept (setRelight b s) := k

theorem Formed.unwanted_kept (h : Formed s) : Kept (Machine.unwanted s) :=
  h.unwanted.kept (unwanted_not_committed s)

theorem Kept.unwanted (k : Kept s) : Kept (unwanted s) := k.formed.unwanted_kept

/-- The start conditions hold nothing out (R3). -/
theorem startConditions_free (h : startConditions s = true) :
    lampLocked s.locks = false ∧ isFresh s = false ∧ isDuplicate s = false ∧ inService s = false ∧
      anyFault s.lamp.faults = false := by
  simp only [startConditions, Bool.and_eq_true, Bool.not_eq_true'] at h
  tauto

/-- WAITING is entered by a lamp that is out, under the start conditions (R4). -/
theorem Kept.enterWaiting (k : Kept s) (hout : committedState s.lamp.state = false)
    (hc : startConditions s = true) : Kept (enterWaiting s) := by
  obtain ⟨h1, h2, h3, h4, -⟩ := startConditions_free hc
  obtain ⟨⟨hp, hcl⟩, -⟩ := k
  have hnone : claimedBy s.straps.number s.claims ≠ true := fun h => by
    have := hcl.claimed h
    rw [show claiming (lampView s).state = false from claiming_of_not_committed hout] at this; cases this
  have hact : s.lamp.actual = 0 := hp.off (burning_of_not_litSide (litSide_of_not_committed hout))
  exact ⟨⟨⟨hp.cap, hp.heldP, fun _ => hact, rfl, rfl⟩,
      ⟨nofun, fun h => absurd h hnone, hcl.nodup, hcl.entries, hcl.number⟩⟩,
    fun h => absurd (h1.symm.trans h) (by decide), fun _ => ⟨h2, h3, h4⟩⟩

theorem Kept.startTest (k : Kept s) : Kept (startTest s) := by
  unfold Machine.startTest
  split
  · next h => exact k.enterWaiting (by rw [h.1]; rfl) h.2
  · exact k

theorem Kept.nowWanted (k : Kept s) : Kept (nowWanted s) := by
  unfold Machine.nowWanted
  cases hs : s.lamp.state with
  | dark => exact k.startTest
  | cooling =>
    simp only
    split
    · exact k
    · split
      · next hc => exact k.enterWaiting (by rw [hs]; rfl) hc
      · exact k
  | waiting | striking | warming | lit | fault => exact k

theorem Kept.onDecision (k : Kept s) (b : Bool) : Kept (onDecision b s) := by
  unfold Machine.onDecision
  split
  · exact k
  · split
    · exact k.unwanted
    · split
      · exact k.nowWanted
      · exact k

theorem Kept.setGroup (k : Kept s) (g : Group) : Kept (s.setGroup g) := k

theorem Kept.elect (k : Kept s) : Kept (elect s) := by
  unfold Machine.elect
  split
  · exact (k.setGroup _).onDecision _
  · exact k

theorem Kept.electIfAvailable (k : Kept s) (b : State) : Kept (electIfAvailable b s) := by
  unfold Machine.electIfAvailable
  split
  · exact k.elect
  · exact k

theorem Kept.groupOn (k : Kept s) (c : OnCause) : Kept (groupOn c s) := by
  unfold Machine.groupOn
  split
  · simp only
    split
    · exact (k.setGroup _).elect
    · exact k
  · cases c <;> exact k

theorem Kept.groupOff (k : Kept s) : Kept (groupOff s) := by
  unfold Machine.groupOff
  split
  · exact k
  · exact (k.setGroup _).onDecision _

/-! ### Locks -/

theorem lampLocked_withoutHolder {h : Holder} {ls : List Lock} (hl : lampLocked (withoutHolder h ls) = true) :
    lampLocked ls = true := by
  unfold lampLocked withoutHolder at *
  rw [List.any_eq_true] at *
  obtain ⟨l, hm, hlamp⟩ := hl
  exact ⟨l, List.mem_of_mem_filter hm, hlamp⟩

/-- Fewer LAMP locks keep what is kept. -/
theorem Kept.setLocks (k : Kept s) {ls : List Lock} (h : lampLocked ls = true → lampLocked s.locks = true) :
    Kept (s.setLocks ls) := by
  obtain ⟨⟨hp, hc⟩, hlocked, hfree⟩ := k
  exact ⟨⟨⟨hp.cap, hp.heldP, hp.off, hp.byState⟩, ⟨hc.striking, hc.claimed, hc.nodup, hc.entries, hc.number⟩⟩,
    fun hl => hlocked (h hl), hfree⟩

theorem Formed.setLocks (h : Formed s) (ls : List Lock) : Formed (s.setLocks ls) := by
  obtain ⟨hp, hc⟩ := h
  exact ⟨⟨hp.cap, hp.heldP, hp.off, hp.byState⟩, ⟨hc.striking, hc.claimed, hc.nodup, hc.entries, hc.number⟩⟩

theorem Kept.lampUncovered (k : Kept s) (b : State) : Kept (lampUncovered b s) := by
  unfold Machine.lampUncovered
  split
  · exact k.electIfAvailable b
  · exact k

theorem Kept.removeLock (k : Kept s) (h : Holder) : Kept (removeLock h s) :=
  (k.setLocks lampLocked_withoutHolder).lampUncovered s

theorem Kept.addLock (k : Kept s) (l : Lock) : Kept (addLock l s) := by
  unfold Machine.addLock
  split
  · exact k
  · simp only
    split
    · exact (k.formed.setLocks _).unwanted_kept
    · next hl =>
      refine (k.setLocks fun h => ?_).lampUncovered s
      have hrest : lampLocked (withoutHolder l.holder s.locks) = true := by
        simpa [lampLocked, hl] using h
      exact lampLocked_withoutHolder hrest

/-! ### Strike attempts and faults -/

theorem Kept.claim (k : Kept s) (h : inStrike s.lamp.state = true) : permission s = true := by
  obtain ⟨h1, h2⟩ := k.1.claims.striking h
  unfold permission ownClaimed
  rw [Bool.and_eq_true, decide_eq_true_eq]
  exact ⟨h1, h2⟩

/-- An attempt begins with permission, from WAITING or after the gap (R6, R8). -/
theorem Kept.beginAttempt (k : Kept s)
    (h : s.lamp.state = .waiting ∧ permission s = true ∨ s.lamp.state = .striking .gap) :
    Kept (beginAttempt s) := by
  have hperm : permission s = true := by
    rcases h with ⟨-, h⟩ | h
    · exact h
    · exact k.claim (by rw [h]; rfl)
  have hclaiming : claiming s.lamp.state = true := by rcases h with ⟨h, -⟩ | h <;> rw [h] <;> rfl
  have hcommitted : committedState s.lamp.state = true := claiming_committed hclaiming
  obtain ⟨⟨hp, hc⟩, hlocked, hfree⟩ := k
  have hby := hp.byState
  have hact : s.lamp.actual = 0 := hp.off (by
    change burning s.lamp.state = false; rcases h with ⟨h, -⟩ | h <;> rw [h] <;> rfl)
  have hattempts : 1 ≤ s.lamp.attempts + 1 ∧ s.lamp.attempts + 1 ≤ 3 ∧ s.lamp.coolDown = none := by
    simp only [lampView] at hby
    rcases h with ⟨h, -⟩ | h <;> rw [h] at hby
    · exact ⟨by omega, by omega, hby.2⟩
    · exact ⟨by omega, by omega, hby.2.2⟩
  unfold permission ownClaimed at hperm
  rw [Bool.and_eq_true, decide_eq_true_eq] at hperm
  exact ⟨⟨⟨hp.cap, hp.heldP, fun _ => hact, hattempts⟩, ⟨fun _ => hperm, fun _ => rfl, hc.nodup, hc.entries, hc.number⟩⟩,
    fun h => absurd (hcommitted.symm.trans (hlocked h)) (by decide), fun _ => hfree hclaiming⟩

theorem Kept.strikeTest (k : Kept s) : Kept (strikeTest s) := by
  unfold Machine.strikeTest
  cases hs : s.lamp.state with
  | waiting =>
    simp only
    split
    · next h =>
      simp only [Bool.and_eq_true] at h
      exact k.beginAttempt (.inl ⟨hs, h.1.1⟩)
    · exact k
  | striking p =>
    cases p with
    | attempt => exact k
    | gap =>
      simp only
      split
      · exact k.beginAttempt (.inr hs)
      · exact k
  | dark | warming | lit | cooling | fault => exact k

theorem addFault_any (f : LampFault) (x : LampFaults) : anyFault (addFault f x) = true := by
  cases f <;> simp [addFault, anyFault]

/-- A lamp that neither burns nor has a claim goes into FAULT with its fault (R21). -/
theorem Formed.intoFault (h : Formed s) {u : State} (hcap : u.lamp.cap = s.lamp.cap) (hp : u.lamp.heldP = s.lamp.heldP)
    (hact : u.lamp.actual = 0) (hf : anyFault u.lamp.faults = true) (hn : u.straps = s.straps)
    (hcl : u.claims = released (lampView s)) : Kept (intoFault u) :=
  Formed.kept (s := Machine.intoFault u)
    ⟨h.power.out rfl (fun _ => hf) hcap hp hact, h.claims.release rfl (by exact congrArg Straps.number hn) hcl⟩ rfl

/-- The lamp changed within its side: what it claims and whether it is committed stand. -/
theorem Kept.relamp (k : Kept s) {x : Lamp} (hp : PowerForm (lampView (s.setLamp x)))
    (hst : inStrike x.state = true → inStrike s.lamp.state = true) (hcl : claiming x.state = claiming s.lamp.state)
    (hco : committedState x.state = committedState s.lamp.state) : Kept (s.setLamp x) := by
  obtain ⟨⟨-, hc⟩, hout⟩ := k
  exact ⟨⟨hp, fun h => hc.striking (hst h), fun h => hcl.trans (hc.claimed h), hc.nodup, hc.entries, hc.number⟩,
    fun h => hco.trans (hout.locked h), fun h => hout.free (hcl.symm.trans h)⟩

/-- The lamp with a fault added to the set. -/
def withFault (f : LampFault) (s : State) : State := s.setLamp { s.lamp with faults := addFault f s.lamp.faults }

/-- What FAULT does to a lamp before it is entered: a claim is released, a lit-side lamp put out (R21). -/
def outForFault (s : State) : State :=
  match s.lamp.state with
  | .waiting => releaseClaim s
  | .striking _ => extinguish .fault s
  | .warming => extinguish .fault s
  | .lit => extinguish .fault s
  | .dark => s
  | .cooling => s
  | .fault => s

theorem latchFault_entered (f : LampFault) (h : s.lamp.state ≠ .fault) :
    latchFault f s = intoFault (outForFault (withFault f s)) := by
  unfold latchFault outForFault withFault
  simp only [State.setLamp_lamp]
  cases hs : s.lamp.state <;> first | rfl | exact absurd hs h

theorem latchFault_again (f : LampFault) (h : s.lamp.state = .fault) :
    latchFault f s =
      (withFault f s).setLamp { (withFault f s).lamp with coolDown := some (s.settings.coolDown * 1000) } := by
  unfold latchFault withFault
  simp only [State.setLamp_lamp, h]
  rfl

theorem PowerForm.setFaults {v : LampView} (h : PowerForm v) {f : LampFaults}
    (hf : v.state = .fault → anyFault f = true) : PowerForm { v with faults := f } where
  cap := h.cap
  heldP := h.heldP
  off := h.off
  byState := by
    have hby := h.byState
    split at hby <;> rename_i e <;> simp only [e] <;> first | exact hby | exact hf e

theorem Kept.withFault (k : Kept s) (f : LampFault) : Kept (withFault f s) :=
  k.relamp (k.formed.power.setFaults fun _ => addFault_any f s.lamp.faults) id rfl rfl

theorem Formed.outForFault (h : Formed s) (hf : anyFault s.lamp.faults = true) :
    Kept (Machine.intoFault (Machine.outForFault s)) := by
  have hlamp := extinguish_lamp .fault s
  have hstraps : (Machine.extinguish .fault s).straps = s.straps :=
    (congrArg State.straps (outside_extinguish .fault s) :)
  have hact (hb : burning s.lamp.state = false) : s.lamp.actual = 0 := h.power.off hb
  have hcl (hb : claiming s.lamp.state = false) : s.claims = released (lampView s) := (h.claims.released_eq hb).symm
  unfold Machine.outForFault
  cases hs : s.lamp.state with
  | dark | cooling | fault => exact h.intoFault rfl rfl (hact (by rw [hs]; rfl)) hf rfl (hcl (by rw [hs]; rfl))
  | waiting => exact h.intoFault (u := releaseClaim s) rfl rfl (hact (by rw [hs]; rfl)) hf rfl rfl
  | striking | warming | lit =>
    refine h.intoFault (u := Machine.extinguish .fault s) ?_ ?_ ?_ ?_ hstraps (h.claims.extinguish (by rw [hs]; rfl) _) <;>
      rw [hlamp] <;> first | rfl | exact hf

/-- A latched fault puts the lamp out and into FAULT; in FAULT it is added (R21). -/
theorem Kept.latchFault (k : Kept s) (f : LampFault) : Kept (latchFault f s) := by
  have hk := k.withFault f
  by_cases hs : s.lamp.state = .fault
  · rw [latchFault_again f hs]
    have hp := hk.formed.power
    refine hk.relamp ⟨hp.cap, hp.heldP, hp.off, ?_⟩ id rfl rfl
    have hby := hp.byState
    have hs' : (Machine.withFault f s).lamp.state = .fault := hs
    simp only [lampView, State.setLamp_lamp, hs'] at hby ⊢
    exact hby
  · rw [latchFault_entered f hs]
    exact hk.formed.outForFault (addFault_any f _)

/-- A failed attempt enters the gap, or latches NO_STRIKE (R7). -/
theorem Kept.failAttempt (k : Kept s) (hs : s.lamp.state = .striking .attempt) : Kept (failAttempt s) := by
  unfold Machine.failAttempt
  simp only
  split
  · next hn =>
    have hp := k.formed.power
    have hby := hp.byState
    simp only [lampView, hs] at hby
    exact Kept.relamp k ⟨hp.cap, hp.heldP, fun _ => hp.off (by change burning s.lamp.state = false; rw [hs]; rfl), hby.1,
      Nat.le_of_lt_succ hn, hby.2.2⟩ (fun _ => by rw [hs]; rfl) (by rw [hs]; rfl) (by rw [hs]; rfl)
  · exact Kept.latchFault (s := s.setLamp { s.lamp with litWait := none }) k .noStrike

/-- The lamp that CLEAR_FAULT leaves (R23, R24). -/
def clearedLamp (l : Lamp) : Lamp :=
  { l with
    faults := .clear
    dropoutWindow := if l.faults.dropout then none else l.dropoutWindow
    fanTest := if l.faults.fan then none else l.fanTest
    state := if l.state = .fault then if l.restrike.isSome || l.coolDown.isSome then .cooling else .dark else l.state
    relight := if l.state = .fault ∧ (l.restrike.isSome || l.coolDown.isSome) = true then false else l.relight }

theorem clearFaults_eq (s : State) : clearFaults s = electIfAvailable s (s.setLamp (clearedLamp s.lamp)) := by
  unfold clearFaults clearedLamp
  by_cases h : s.lamp.state = .fault
  · simp only [h, if_true, true_and]; split <;> rfl
  · simp only [h, if_false, false_and]

theorem Kept.clearFaults (k : Kept s) : Kept (clearFaults s) := by
  rw [clearFaults_eq]
  refine Kept.electIfAvailable ?_ s
  have hp := k.formed.power
  have hoff (h : burning s.lamp.state = false) : s.lamp.actual = 0 := hp.off h
  cases hs : s.lamp.state with
  | fault =>
    have hst : (clearedLamp s.lamp).state = .cooling ∨ (clearedLamp s.lamp).state = .dark := by
      simp only [clearedLamp, hs, if_true]; split <;> simp
    have hout : committedState (clearedLamp s.lamp).state = false := by rcases hst with e | e <;> rw [e] <;> rfl
    have hnf : (clearedLamp s.lamp).state ≠ .fault := by rcases hst with e | e <;> rw [e] <;> nofun
    refine k.relamp (hp.out hout (fun e => absurd e hnf) rfl rfl (hoff (by rw [hs]; rfl))) ?_ ?_ ?_ <;>
      rcases hst with e | e <;> rw [e, hs] <;> first | rfl | nofun
  | dark | waiting | striking | warming | lit | cooling =>
    have hst : (clearedLamp s.lamp).state = s.lamp.state := if_neg (by rw [hs]; nofun)
    have hview : lampView (s.setLamp (clearedLamp s.lamp)) = { lampView s with faults := .clear } := by
      simp only [lampView, State.setLamp_lamp, hst]; rfl
    refine k.relamp (hview ▸ hp.setFaults fun h => ?_) (by rw [hst]; exact id) (by rw [hst]) (by rw [hst])
    rw [show s.lamp.state = .fault from h] at hs; cases hs

theorem Kept.tryClear (k : Kept s) : Kept (tryClear s).1 := by
  unfold Machine.tryClear
  split
  · exact k
  · split
    · exact k.clearFaults
    · split <;> exact k

/-! ### The settling -/

theorem Kept.lifeJudge (k : Kept s) : Kept (lifeJudge s) := by
  rcases lifeJudge_cases s with ⟨b, h, -⟩ | ⟨-, -, h⟩
  · rw [h]; exact k
  · rw [h]
    exact Formed.unwanted_kept (Formed.setLocks (s := s.setWear { s.wear with lifeHold := false }) k.formed _)

theorem clamp_bounds {lo hi : Nat} (h : lo ≤ hi) (x : Nat) : lo ≤ clamp lo hi x ∧ clamp lo hi x ≤ hi := by
  unfold clamp; omega

theorem Kept.judgeGroup (k : Kept s) : Kept (judgeGroup s) := by
  rw [judgeGroup_spec]
  have hp := k.formed.power
  have hheld : 60 ≤ judgedHeldP s ∧ judgedHeldP s ≤ 100 := by
    unfold judgedHeldP
    split
    · exact hp.heldP
    · exact clamp_bounds (by decide) _
  exact Kept.relamp (s := s.setGroup (judgedGroup s)) k ⟨hp.cap, hheld, hp.off, hp.byState⟩ id rfl rfl

theorem Kept.withdrawTest (k : Kept s) (b : State) : Kept (withdrawTest b s) := by
  unfold Machine.withdrawTest
  split
  · exact Kept.onDecision (s := clearSelection s) k _
  · exact k

theorem Kept.settle (k : Kept s) (b : State) : Kept (settle b s) := by
  have h := ((k.lifeJudge.startTest.strikeTest.lifeJudge.judgeGroup).withdrawTest b).judgeGroup
  refine h.of_view ?_
  unfold Machine.settle
  simp only [lampView_beaconJudge, lampView_idleJudge, lampView_fanStallJudge, lampView_retarget]

end Sys2Proof.Machine
end

section
/-! ## Every command keeps the lamp's invariants -/

namespace Sys2Proof.Machine

variable {s u : State}

/-! ### Lamp Control (01) -/

theorem Kept.litSenseArrives (k : Kept s) : Kept (litSenseArrives s) := by
  unfold Machine.litSenseArrives
  simp only [State.setPins_lamp]
  cases hs : s.lamp.state with
  | striking p =>
    obtain ⟨⟨hp, hc⟩, hlocked, -⟩ := k
    have hin : committedState s.lamp.state = true := by rw [hs]; rfl
    exact ⟨⟨⟨hp.cap, hp.heldP, nofun, rfl⟩, hc.release rfl rfl rfl⟩,
      fun h => absurd (hin.symm.trans (hlocked h)) (by decide), nofun⟩
  | dark | waiting | warming | lit | cooling | fault => exact k

theorem Kept.extinguish (k : Kept s) (hl : litSide s.lamp.state = true) : Kept (extinguish .cooling s) :=
  (k.formed.extinguish hl).kept (by rw [extinguish_state]; rfl)

theorem litSide_of_burning {l : LampState} (h : burning l = true) : litSide l = true := by
  cases l <;> first | rfl | cases h

theorem Kept.dropsOut (k : Kept s) (hb : burning s.lamp.state = true) : Kept (dropsOut s) := by
  unfold Machine.dropsOut
  split
  · exact k.latchFault _
  · exact (k.extinguish (litSide_of_burning hb)).of_view rfl

theorem Kept.litSenseLost (k : Kept s) : Kept (litSenseLost s) := by
  unfold Machine.litSenseLost
  simp only
  split
  · next hb => exact Kept.dropsOut (s := s.setPins { s.pins with litSense := false }) k hb
  · exact k

theorem Kept.litWaitExpired (k : Kept s) : Kept (litWaitExpired s) := by
  unfold Machine.litWaitExpired
  split
  · next h => exact k.failAttempt h.1
  · exact k

/-- The minimum power is at most the cap (R181, R17). -/
theorem pMin_le_cap (k : Kept s) (hset : SettingsSafe s.settings) : s.settings.pMin ≤ s.lamp.cap := by
  have h : s.lamp.cap = 100 ∨ s.lamp.cap = 70 := k.1.power.cap
  unfold SettingsSafe at hset
  omega

theorem Kept.warmUpExpired (k : Kept s) (hset : SettingsSafe s.settings) : Kept (warmUpExpired s) := by
  unfold Machine.warmUpExpired
  split
  · next h =>
    have hp := k.formed.power
    have hby := hp.byState
    simp only [lampView, h.1] at hby
    have hcap := pMin_le_cap k hset
    refine k.relamp ⟨hp.cap, hp.heldP, nofun, ?_⟩ nofun (by rw [h.1]; rfl) (by rw [h.1]; rfl)
    change s.settings.pMin ≤ s.lamp.actual ∧ s.lamp.actual ≤ s.lamp.cap
    omega
  · exact k

/-- A step toward a target within bounds stays within them (R10). -/
theorem rampToward_bounds {lo hi target actual : Nat} (ht : lo ≤ target ∧ target ≤ hi) (ha : lo ≤ actual ∧ actual ≤ hi) :
    lo ≤ rampToward target actual ∧ rampToward target actual ≤ hi := by
  unfold rampToward; split <;> [skip; split] <;> omega

theorem Kept.rampOnce (k : Kept s) (hset : SettingsSafe s.settings) (ht : retarget s = s) : Kept (rampOnce s) := by
  unfold Machine.rampOnce
  split
  · next h =>
    have hp := k.formed.power
    have hby := hp.byState
    simp only [lampView, h] at hby
    have htarget : s.settings.pMin ≤ s.lamp.target ∧ s.lamp.target ≤ s.lamp.cap := by
      rw [retarget_fixed.mp ht h]; exact clamp_bounds (pMin_le_cap k hset) _
    have hburns (hb : burning s.lamp.state = false) : rampToward s.lamp.target s.lamp.actual = 0 := by
      rw [h] at hb; cases hb
    refine k.relamp ⟨hp.cap, hp.heldP, hburns, ?_⟩ id rfl rfl
    simp only [lampView, State.setLamp_lamp, h]
    exact rampToward_bounds htarget hby
  · exact k

theorem Kept.coolDownEnds (k : Kept s) : Kept (s.setLamp { s.lamp with coolDown := none }) := by
  have hp := k.formed.power
  refine k.relamp ⟨hp.cap, hp.heldP, hp.off, ?_⟩ id rfl rfl
  have hby := hp.byState
  simp only [lampView, State.setLamp_lamp] at hby ⊢
  split at hby <;> simp_all

/-- Out of COOLING into DARK (R15). -/
theorem Kept.darkens (k : Kept s) (hs : s.lamp.state = .cooling) {x : Lamp} (hx : x.state = .dark ∨ x.state = .cooling)
    (hcap : x.cap = s.lamp.cap) (hheld : x.heldP = s.lamp.heldP) (hact : x.actual = s.lamp.actual) :
    Kept (s.setLamp x) := by
  have hp := k.formed.power
  have hoff : s.lamp.actual = 0 := hp.off (by change burning s.lamp.state = false; rw [hs]; rfl)
  have hout : committedState x.state = false := by rcases hx with e | e <;> rw [e] <;> rfl
  have hnf : x.state ≠ .fault := by rcases hx with e | e <;> rw [e] <;> nofun
  have hcl : claiming x.state = false := claiming_of_not_committed hout
  refine k.relamp (hp.out hout (fun e => absurd e hnf) hcap hheld (hact.trans hoff)) (fun h => ?_) ?_ ?_
  · rcases hx with e | e <;> rw [e] at h <;> cases h
  · rw [hcl, hs]; rfl
  · rw [hout, hs]; rfl

theorem Kept.coolDownExpired (k : Kept s) : Kept (coolDownExpired s) := by
  unfold Machine.coolDownExpired
  split
  · simp only
    split
    · next h => exact k.coolDownEnds.darkens h.1 (.inl rfl) rfl rfl rfl
    · exact k.coolDownEnds
  · exact k

theorem Kept.guardEndsCooling (k : Kept s) (hs : s.lamp.state = .cooling) : Kept (guardEndsCooling s) := by
  unfold Machine.guardEndsCooling
  split
  · next h =>
    rw [Bool.and_eq_true] at h
    exact k.enterWaiting (by rw [hs]; rfl) h.2
  · exact k.darkens hs (by simp only; split <;> simp) rfl rfl rfl

theorem Kept.restrikeExpired (k : Kept s) : Kept (restrikeExpired s) := by
  unfold Machine.restrikeExpired
  split
  · simp only
    split
    · next h => exact Kept.guardEndsCooling (s := s.setLamp { s.lamp with restrike := none }) k h
    · exact k
  · exact k

theorem Kept.fanStalls (k : Kept s) : Kept (fanStalls s) := by
  unfold Machine.fanStalls
  split
  · simp only
    split
    · exact k
    · exact Kept.latchFault (s := s.setLamp { s.lamp with fanStall := none }) k _
  · exact k

theorem Kept.tachoStalls (k : Kept s) : Kept (tachoStalls s) := by
  unfold Machine.tachoStalls
  simp only
  split
  · next h => exact Kept.failAttempt (s := s.setPins { s.pins with tacho := .stalled }) k h
  · exact k

theorem Kept.supplyFails (k : Kept s) : Kept (supplyFails s) := by
  unfold Machine.supplyFails
  simp only
  split
  · exact Kept.latchFault (s := s.setPins { s.pins with supplyLow := true }) k _
  · exact k

/-- A cap put in force moves the power in WARMING and LIT alone (R9, R10, R17). -/
theorem putCap_eq (cap : Nat) (l : Lamp) : putCap cap l =
    { l with
      cap := cap
      actual := if l.state = .warming then cap else if l.state = .lit then min l.actual cap else l.actual } := by
  unfold putCap; cases l.state <;> simp

/-- A new cap in force keeps the power in its bounds (R9, R10, R17). -/
theorem Kept.putCap (k : Kept s) (hset : SettingsSafe s.settings) {cap : Nat} (hcap : cap = 100 ∨ cap = 70) :
    Kept (s.setLamp (putCap cap s.lamp)) := by
  have hp := k.formed.power
  have hby := hp.byState
  have hoff (h : burning s.lamp.state = false) : s.lamp.actual = 0 := hp.off h
  have hmin : s.settings.pMin ≤ 70 := by unfold SettingsSafe at hset; omega
  rw [putCap_eq]
  refine k.relamp ⟨hcap, hp.heldP, fun h => ?_, ?_⟩ id rfl rfl
  · change burning s.lamp.state = false at h
    have h1 : s.lamp.state ≠ .warming := fun e => by rw [e] at h; cases h
    have h2 : s.lamp.state ≠ .lit := fun e => by rw [e] at h; cases h
    simpa [lampView, h1, h2] using hoff h
  · simp only [lampView, State.setLamp_lamp, State.setLamp_settings] at hby ⊢
    split at hby <;> simp_all; omega

theorem capBy_cases {x : Settings} {sample cap : Nat} (h : cap = 100 ∨ cap = 70) :
    capBy x sample cap = 100 ∨ capBy x sample cap = 70 := by
  unfold capBy; split <;> [exact .inr rfl; (split <;> [exact .inl rfl; exact h])]

/-- The state with a sample taken and its cap put in force (R17). -/
def sampled (r : Sensor) (s : State) : State :=
  let cap := capBy s.settings (sampleOf r) s.lamp.cap
  s.setLamp { (if cap = s.lamp.cap then s.lamp else putCap cap s.lamp) with temperature := sampleOf r }

theorem takeSample_eq (r : Sensor) (s : State) : takeSample r s =
    if s.settings.tShut ≤ sampleOf r then latchFault .thermal (sampled r s) else sampled r s := rfl

theorem Kept.sampled (k : Kept s) (hset : SettingsSafe s.settings) (r : Sensor) : Kept (sampled r s) := by
  unfold Machine.sampled
  simp only
  split
  · exact k
  · exact k.putCap hset (capBy_cases k.1.power.cap)

theorem Kept.takeSample (k : Kept s) (hset : SettingsSafe s.settings) (r : Sensor) : Kept (takeSample r s) := by
  rw [takeSample_eq]
  split
  · exact (k.sampled hset r).latchFault _
  · exact k.sampled hset r

/-! ### Lamp Wear (02) -/

@[simp] theorem lampView_reportLitSecond (s : State) : lampView (reportLitSecond s) = lampView s := by
  unfold reportLitSecond; split <;> [(simp only; split); skip] <;> simp
@[simp] theorem lampView_zoneHolds (bs : List Byte) (s : State) : lampView (zoneHolds bs s) = lampView s := by
  unfold zoneHolds; split <;> rfl
@[simp] theorem lampView_writeEnds (o : WriteOutcome) (s : State) : lampView (writeEnds o s) = lampView s := by
  unfold writeEnds; simp only; split <;> simp
@[simp] theorem lampView_writeFails (w : RecordWrite) (s : State) : lampView (writeFails w s) = lampView s := by
  unfold writeFails; split <;> simp
@[simp] theorem lampView_readBackTaken (bs : List Byte) (s : State) : lampView (readBackTaken bs s) = lampView s := by
  unfold readBackTaken; split <;> [(simp only; split); skip] <;> simp
@[simp] theorem lampView_writeTimesOut (bs : List Byte) (s : State) : lampView (writeTimesOut bs s) = lampView s := by
  unfold writeTimesOut; split <;> simp

/-! ### Geometry Engine (03) -/

@[simp] theorem lampView_sendSwapRequest (s : State) : lampView (sendSwapRequest s) = lampView s := by
  unfold sendSwapRequest; split <;> rfl
@[simp] theorem lampView_computationEnds (s : State) : lampView (computationEnds s) = lampView s := by
  unfold computationEnds; split <;> rfl
@[simp] theorem lampView_lastRecordSent (s : State) : lampView (lastRecordSent s) = lampView s := by
  unfold lastRecordSent; split <;> rfl
@[simp] theorem lampView_takeAcknowledgement (i n : Nat) (s : State) :
    lampView (takeAcknowledgement i n s) = lampView s := by
  unfold takeAcknowledgement; split <;> simp
@[simp] theorem lampView_attemptFails (s : State) : lampView (attemptFails s) = lampView s := by
  unfold attemptFails; simp only; split <;> simp
@[simp] theorem lampView_takeRefusal (i n : Nat) (s : State) : lampView (takeRefusal i n s) = lampView s := by
  unfold takeRefusal; split <;> simp
@[simp] theorem lampView_loadWaitExpired (s : State) : lampView (loadWaitExpired s) = lampView s := by
  unfold loadWaitExpired; split <;> simp
@[simp] theorem lampView_takeSwapReport (i : Nat) (s : State) : lampView (takeSwapReport i s) = lampView s := by
  unfold takeSwapReport; split <;> [(simp only; split); skip] <;> simp
@[simp] theorem lampView_repeatSwapRequest (s : State) : lampView (repeatSwapRequest s) = lampView s := by
  unfold repeatSwapRequest; split <;> simp
@[simp] theorem lampView_swapWaitEnds (s : State) : lampView (swapWaitEnds s) = lampView s := by
  unfold swapWaitEnds; split <;> simp

/-! ### Power Circuits and Strike Claims (05) -/

/-- Other claims than the own one come and go: the own claim keeps its place or moves up (R86 to R89). -/
theorem Kept.setClaims (k : Kept s) {xs : List ClaimEntry}
    (hown : claimedBy s.straps.number xs = claimedBy s.straps.number s.claims)
    (hahead : claimedBy s.straps.number s.claims = true →
      aheadOf s.straps.number xs ≤ aheadOf s.straps.number s.claims)
    (hnodup : (xs.map fun c => c.claimant).Nodup)
    (hentries : ∀ c ∈ xs, 1 ≤ c.claimant ∧ c.claimant ≤ 31 ∧ (c.age = none ↔ c.claimant = s.straps.number)) :
    Kept (s.setClaims xs) := by
  obtain ⟨⟨hp, hc⟩, hout⟩ := k
  refine ⟨⟨⟨hp.cap, hp.heldP, hp.off, hp.byState⟩, ⟨fun h => ?_, fun h => ?_, hnodup, hentries, hc.number⟩⟩,
    hout.locked, hout.free⟩
  · obtain ⟨h1, h2⟩ := hc.striking h
    exact ⟨hown.trans h1, lt_of_le_of_lt (hahead h1) h2⟩
  · exact hc.claimed (hown.symm.trans h)

theorem claimed_claimants {n : Nat} {xs : List ClaimEntry} (h : (xs.any fun c => c.claimant == n) = true) :
    (claimed n xs).map (fun c => c.claimant) = xs.map fun c => c.claimant := by
  unfold claimed
  rw [if_pos h, List.map_map]
  refine List.map_congr_left fun c _ => ?_
  simp only [Function.comp]; split <;> rfl

theorem claimedBy_eq (n : Nat) (xs : List ClaimEntry) : claimedBy n xs = (xs.map fun c => c.claimant).contains n := by
  induction xs with
  | nil => rfl
  | cons c rest ih =>
    simp only [claimedBy, List.any_cons, List.map_cons, List.contains_cons] at ih ⊢
    rw [ih, Bool.beq_comm]

theorem aheadOf_congr {n : Nat} : ∀ {xs ys : List ClaimEntry},
    (xs.map fun c => c.claimant) = ys.map (fun c => c.claimant) → aheadOf n xs = aheadOf n ys
  | [], [], _ => rfl
  | c :: xs, d :: ys, h => by
    simp only [List.map_cons, List.cons.injEq] at h
    simp only [aheadOf, h.1, aheadOf_congr h.2]

theorem aheadOf_append {n : Nat} {xs : List ClaimEntry} (c : ClaimEntry) (h : claimedBy n xs = true) :
    aheadOf n (xs ++ [c]) = aheadOf n xs := by
  induction xs with
  | nil => cases h
  | cons d rest ih =>
    simp only [List.cons_append, aheadOf]
    split
    · rfl
    · next hd => rw [ih (by simpa [claimedBy, hd] using h)]

/-- A CLAIM of another station leaves the own claim its place (R86). -/
theorem Kept.takeClaim (k : Kept s) (t : Telegram) (ht : t.origin.toNat ≤ 31) : Kept (takeClaim t s) := by
  unfold Machine.takeClaim
  split
  · next h =>
    simp only [claimTelegram, Bool.and_eq_true, bne_iff_ne] at h
    obtain ⟨⟨-, hzero⟩, hown⟩ := h
    have hpos : 1 ≤ t.origin.toNat := Nat.one_le_iff_ne_zero.mpr fun e => hzero (BitVec.eq_of_toNat_eq e)
    have hc := k.1.claims
    by_cases hany : (s.claims.any fun c => c.claimant == t.origin.toNat) = true
    · have hsame := claimed_claimants hany
      refine k.setClaims ?_ (fun _ => (aheadOf_congr hsame).le) (hsame ▸ hc.nodup) ?_
      · rw [claimedBy_eq, claimedBy_eq, hsame]
      · unfold claimed
        rw [if_pos hany]
        intro c hmem
        obtain ⟨d, hd, rfl⟩ := List.mem_map.mp hmem
        have hd := hc.entries d hd
        split
        · next e => exact ⟨hd.1, hd.2.1, by simp only [reduceCtorEq, false_iff]; exact fun h => hown (e.symm.trans h)⟩
        · exact hd
    · have hnew : claimed t.origin.toNat s.claims = s.claims ++ [⟨t.origin.toNat, some 12000⟩] := if_neg hany
      rw [hnew]
      refine k.setClaims ?_ (fun h => (aheadOf_append _ h).le) ?_ ?_
      · simp [claimedBy, hown]
      · rw [List.map_append, List.nodup_append]
        refine ⟨hc.nodup, by simp, ?_⟩
        simp only [List.map_cons, List.map_nil, List.mem_singleton, forall_eq]
        intro n hn e
        obtain ⟨c, hmem, rfl⟩ := List.mem_map.mp hn
        exact hany (List.any_eq_true.mpr ⟨c, hmem, by simpa using e⟩)
      · intro c hmem
        rcases List.mem_append.mp hmem with hm | hm
        · exact hc.entries c hm
        · obtain rfl := List.mem_singleton.mp hm
          exact ⟨hpos, ht, by simpa using hown⟩
  · exact k

theorem aheadOf_unclaimed {n m : Nat} (h : n ≠ m) (xs : List ClaimEntry) : aheadOf m (unclaimed n xs) ≤ aheadOf m xs := by
  induction xs with
  | nil => exact le_rfl
  | cons c rest ih =>
    unfold unclaimed at ih ⊢
    rw [List.filter_cons]
    split
    · simp only [aheadOf]; split <;> omega
    · next hc =>
      have hcm : c.claimant ≠ m := fun e => by simp [e, h.symm] at hc
      simp only [aheadOf, hcm, if_false]; omega

/-- A claim of another station leaves the list (R87 to R89). -/
theorem Kept.unclaim (k : Kept s) {n : Nat} (hn : n ≠ s.straps.number) : Kept (s.setClaims (unclaimed n s.claims)) := by
  have hc := k.1.claims
  refine k.setClaims ?_ (fun _ => aheadOf_unclaimed hn _) (hc.nodup.sublist (List.filter_sublist.map _))
    fun c hmem => hc.entries c (List.mem_of_mem_filter hmem)
  rw [Bool.eq_iff_iff]
  simp only [claimedBy, unclaimed, List.any_eq_true, List.mem_filter, bne_iff_ne, beq_iff_eq]
  exact ⟨fun ⟨c, h, e⟩ => ⟨c, h.1, e⟩, fun ⟨c, h, e⟩ => ⟨c, ⟨h, fun h' => hn (h'.symm.trans e)⟩, e⟩⟩

theorem Kept.takeRelease (k : Kept s) (t : Telegram) : Kept (takeRelease t s) := by
  unfold Machine.takeRelease
  split
  · next h =>
    refine k.unclaim ?_
    simp only [claimTelegram, Bool.and_eq_true, bne_iff_ne] at h
    exact h.2
  · exact k

theorem Kept.claimAged (k : Kept s) (n : Nat) : Kept (claimAged n s) := by
  unfold Machine.claimAged
  split
  · next h =>
    refine k.unclaim fun hn => ?_
    obtain ⟨c, hmem, hc⟩ := List.any_eq_true.mp h
    simp only [Bool.and_eq_true, beq_iff_eq] at hc
    have hage := (k.1.claims.entries c hmem).2.2.mpr (hc.1.trans hn)
    rw [hage] at hc; cases hc.2
  · exact k

@[simp] theorem lampView_renewClaim (s : State) : lampView (renewClaim s) = lampView s := by
  unfold renewClaim
  split
  · cases s.lamp.state <;> simp only <;> (try split) <;> rfl
  · rfl

/-- The own claim is added while claiming, once (R90). -/
theorem Kept.addOwnClaim (k : Kept s) (hs : claiming s.lamp.state = true) :
    Kept (if ownClaimed s then s else s.setClaims (s.claims ++ [⟨s.straps.number, none⟩])) := by
  split
  · exact k
  · next hno =>
    have hno : claimedBy s.straps.number s.claims ≠ true := hno
    obtain ⟨⟨hp, hc⟩, hout⟩ := k
    refine ⟨⟨⟨hp.cap, hp.heldP, hp.off, hp.byState⟩, ⟨fun h => absurd (hc.striking h).1 hno, fun _ => hs, ?_, ?_, hc.number⟩⟩,
      hout.locked, hout.free⟩
    · change (List.map (fun c : ClaimEntry => c.claimant) (s.claims ++ [⟨s.straps.number, none⟩])).Nodup
      rw [List.map_append, List.nodup_append]
      refine ⟨hc.nodup, by simp, ?_⟩
      simp only [List.map_cons, List.map_nil, List.mem_singleton, forall_eq]
      intro n hn e
      obtain ⟨c, hmem, rfl⟩ := List.mem_map.mp hn
      exact hno (List.any_eq_true.mpr ⟨c, hmem, by simpa using e⟩)
    · intro c hmem
      rcases List.mem_append.mp hmem with hm | hm
      · exact hc.entries c hm
      · obtain rfl := List.mem_singleton.mp hm
        exact ⟨hc.number.1, hc.number.2, by simp [lampView]⟩

theorem Kept.ownClaimEcho (k : Kept s) : Kept (ownClaimEcho s) := by
  unfold Machine.ownClaimEcho
  cases hs : s.lamp.state with
  | waiting | striking => exact k.addOwnClaim (by rw [hs]; rfl)
  | dark | warming | lit | cooling | fault => exact k

/-! ### Peer View (04) -/

theorem lampView_setListen (s : State) {x : Listen} (hf : x.fresh.isSome = s.listen.fresh.isSome)
    (hd : x.duplicate.isSome = s.listen.duplicate.isSome) : lampView (s.setListen x) = lampView s := by
  simp only [lampView, isFresh, freshFlag, isDuplicate, inService, State.setListen_listen, hf, hd]
  rfl

@[simp] theorem lampView_startBeaconTimer (s : State) : lampView (startBeaconTimer s) = lampView s := rfl
@[simp] theorem lampView_beaconEnded (s : State) : lampView (beaconEnded s) = lampView s := by
  unfold beaconEnded; simp only; split <;> rfl
@[simp] theorem lampView_periodicBeacon (s : State) : lampView (periodicBeacon s) = lampView s := by
  unfold periodicBeacon; split <;> rfl
@[simp] theorem lampView_spacingEnds (s : State) : lampView (spacingEnds s) = lampView s := rfl

/-- What holds the lamp out changes while the lamp does not claim (R74, R76, R151). -/
theorem Kept.hold (k : Kept s) (hs : claiming s.lamp.state = false)
    (hu : lampView u = { lampView s with fresh := isFresh u, duplicate := isDuplicate u, service := inService u }) :
    Kept u := by
  unfold Kept
  rw [hu]
  obtain ⟨⟨hp, hc⟩, hout⟩ := k
  exact ⟨⟨⟨hp.cap, hp.heldP, hp.off, hp.byState⟩, ⟨hc.striking, hc.claimed, hc.nodup, hc.entries, hc.number⟩⟩, hout.locked,
    fun h => absurd (hs.symm.trans h) (by decide)⟩

/-- What holds the lamp out ends. -/
theorem Kept.free (k : Kept s)
    (hu : lampView u = { lampView s with fresh := isFresh u, duplicate := isDuplicate u, service := inService u })
    (hf : isFresh u = true → isFresh s = true) (hd : isDuplicate u = true → isDuplicate s = true)
    (hv : inService u = true → inService s = true) : Kept u := by
  unfold Kept
  rw [hu]
  obtain ⟨⟨hp, hc⟩, hout⟩ := k
  refine ⟨⟨⟨hp.cap, hp.heldP, hp.off, hp.byState⟩, ⟨hc.striking, hc.claimed, hc.nodup, hc.entries, hc.number⟩⟩, hout.locked,
    fun h => ?_⟩
  obtain ⟨h1, h2, h3⟩ := hout.free h
  have h1 : isFresh s = false := h1
  have h2 : isDuplicate s = false := h2
  have h3 : inService s = false := h3
  simp only [Bool.eq_false_iff] at *
  exact ⟨fun h => h1 (hf h), fun h => h2 (hd h), fun h => h3 (hv h)⟩

theorem Kept.beginFresh (k : Kept s) (hs : claiming s.lamp.state = false) : Kept (beginFresh s) :=
  k.hold hs rfl

theorem Kept.freshEnds (k : Kept s) : Kept (freshEnds s) := by
  unfold Machine.freshEnds
  split
  · refine Kept.electIfAvailable (Kept.startTest ?_) s
    refine k.free rfl ?_ id id
    unfold isFresh freshFlag
    simp only [State.setListen_listen, State.setListen_start, Bool.or_eq_true]
    rintro (h | h)
    · cases h
    · exact .inr h
  · exact k

theorem Kept.duplicateEnds (k : Kept s) : Kept (duplicateEnds s) := by
  unfold Machine.duplicateEnds
  split
  · refine Kept.electIfAvailable (Kept.startTest ?_) s
    exact k.free rfl id (fun h => by cases h) id
  · exact k

/-- A foreign beacon sets DUPLICATE, which puts the lamp out (R76, R77). -/
theorem Kept.foreignBeacon (k : Kept s) : Kept (foreignBeacon s) := by
  unfold Machine.foreignBeacon
  simp only
  split
  · next h => exact k.of_view (lampView_setListen s rfl h.symm)
  · have hf : Formed (s.setListen { s.listen with duplicate := some (3 * s.settings.interval * 1000) }) := by
      obtain ⟨hp, hc⟩ := k.formed
      exact ⟨⟨hp.cap, hp.heldP, hp.off, hp.byState⟩, ⟨hc.striking, hc.claimed, hc.nodup, hc.entries, hc.number⟩⟩
    exact hf.unwanted_kept

theorem Kept.takeBeacon (k : Kept s) (t : Telegram) : Kept (takeBeacon t s) := by
  unfold Machine.takeBeacon
  split
  · exact k
  · split
    · exact k.foreignBeacon
    · split <;> exact k

theorem removeLock_straps (h : Holder) (s : State) : (removeLock h s).straps = s.straps :=
  (congrArg State.straps (outside_removeLock h s) :)

/-- A station other than the own one goes LOST (R71). -/
theorem Kept.lose (k : Kept s) {n : Nat} (hn : n ≠ s.straps.number) : Kept (lose n s) := by
  have hk : Kept (Machine.removeLock (.station n) (s.setPeers (s.peers.filter fun p => p.station != n))) := by
    refine Kept.removeLock ?_ _
    exact k
  have hu := hk.unclaim (n := n) (by rw [removeLock_straps]; exact hn)
  unfold Machine.lose
  simp only
  split <;> exact hu

theorem lose_straps (n : Nat) (s : State) : (lose n s).straps = s.straps := by
  unfold lose
  simp only
  split <;> exact removeLock_straps _ _

theorem Kept.loseAll {ns : List Nat} (k : Kept s) (hn : ∀ n ∈ ns, n ≠ s.straps.number) : Kept (loseAll ns s) := by
  induction ns generalizing s with
  | nil => exact k
  | cons n rest ih =>
    refine ih (k.lose (hn n (by simp))) fun m hm => ?_
    rw [lose_straps]
    exact hn m (by simp [hm])

/-- No entry of the Peer Table is of the own number (R64). -/
theorem PeersSafe.station_ne (h : PeersSafe s) {p : Peer} (hp : p ∈ s.peers) : p.station ≠ s.straps.number := by
  have hform := h.2 p hp
  unfold peerFormed at hform
  simp only [Bool.and_eq_true, bne_iff_ne] at hform
  tauto

theorem peerOf_ne (h : PeersSafe s) {n : Nat} {p : Peer} (hp : peerOf n s.peers = some p) : n ≠ s.straps.number := by
  have hn : p.station = n := by simpa using List.find?_some hp
  exact hn ▸ h.station_ne (List.mem_of_find?_eq_some hp)

theorem Kept.confirmExpired (k : Kept s) (h : PeersSafe s) (n : Nat) : Kept (confirmExpired n s) := by
  unfold Machine.confirmExpired
  split
  · next p hp =>
    split
    · exact k.lose (peerOf_ne h hp)
    · exact k
  · exact k

theorem Kept.presenceExpired (k : Kept s) (h : PeersSafe s) (n : Nat) : Kept (presenceExpired n s) := by
  unfold Machine.presenceExpired
  split
  · next p hp =>
    split
    · split
      · exact k.lose (peerOf_ne h hp)
      · exact k
    · exact k
  · exact k

theorem Kept.qualityMinute (k : Kept s) (h : PeersSafe s) : Kept (qualityMinute s) := by
  unfold Machine.qualityMinute
  split
  · simp only
    split
    · refine Kept.loseAll (by exact k) fun n hn => ?_
      obtain ⟨p, hp, rfl⟩ := List.mem_map.mp hn
      exact h.station_ne (List.mem_of_mem_filter hp)
    · exact k
  · exact k

/-! ### Screen Groups (06), Source Selection (07) -/

theorem Kept.growthStep (k : Kept s) : Kept (growthStep s) := by
  unfold Machine.growthStep
  split
  · simp only
    split
    · refine Kept.onDecision ?_ _
      exact k
    · exact k
  · exact k

theorem Kept.signalWake (k : Kept s) : Kept (signalWake s) := by
  unfold Machine.signalWake
  split
  · exact k
  · split
    · exact (k.groupOn _).of_view rfl
    · exact k

theorem Kept.idleOff (k : Kept s) : Kept (idleOff s) := by
  unfold Machine.idleOff
  split
  · exact k
  · exact k
  · split
    · exact k.groupOff.of_view rfl
    · exact k

theorem Kept.samplePresence (k : Kept s) (lines : Six Bool) : Kept (samplePresence lines s) := by
  unfold Machine.samplePresence
  simp only
  split
  · refine Kept.signalWake (k.of_view ?_)
    (repeat' split) <;> simp
  · refine k.of_view ?_
    (repeat' split) <;> simp

@[simp] theorem lampView_takeLockReport (i : Input) (s : State) : lampView (takeLockReport i s) = lampView s := by
  unfold takeLockReport endSwitch; split <;> simp
@[simp] theorem lampView_switchExpired (s : State) : lampView (switchExpired s) = lampView s := by
  unfold switchExpired endSwitch; split <;> simp
@[simp] theorem lampView_holdExpired (s : State) : lampView (holdExpired s) = lampView s := by
  unfold holdExpired; split <;> simp

theorem Kept.idleExpired (k : Kept s) : Kept (idleExpired s) := by
  unfold Machine.idleExpired
  split
  · refine Kept.idleOff ?_
    exact k
  · exact k

end Sys2Proof.Machine
end

section
namespace Sys2Proof.Machine

variable {s u : State}

/-! ### Clock and Room Schedule (09) -/

theorem Kept.scheduleLock (k : Kept s) (x : Option Slot) : Kept (scheduleLock x s) := by
  unfold Machine.scheduleLock
  split
  · exact k.addLock _
  · exact k.removeLock _

theorem Kept.enterEffective (k : Kept s) (x : Option Slot) : Kept (enterEffective x s) := by
  have hlevel : Kept (s.setGroup { s.group with slotLevel := slotLevelOf x }) := k
  unfold Machine.enterEffective
  simp only
  split <;> split
  · refine Kept.groupOff (hlevel.of_view ?_); exact lampView_push _ _ _
  · exact hlevel.groupOff
  · exact hlevel.of_view (lampView_push _ _ _)
  · exact hlevel

theorem Kept.enterOn (k : Kept s) (eff on : Option Slot) : Kept (enterOn eff on s) := by
  have hlevel : Kept (s.setGroup { s.group with slotLevel := none }) := k
  unfold Machine.enterOn leaveSlot
  simp only
  split
  · exact k.groupOn _
  · split
    · exact k
    · split
      · exact hlevel.groupOff
      · exact hlevel

theorem Kept.evaluate (k : Kept s) : Kept (evaluate s) := by
  have hlock := k.scheduleLock (effectiveSlot s.clock.minute s.schedule.slots)
  unfold Machine.evaluate
  simp only
  refine Kept.of_view (lampView_setSchedule _ _) ?_
  split <;> split
  · exact (hlock.enterEffective _).enterOn _ _
  · exact hlock.enterOn _ _
  · exact hlock.enterEffective _
  · exact hlock

theorem Kept.evaluateIfSure (k : Kept s) : Kept (evaluateIfSure s) := by
  unfold Machine.evaluateIfSure
  split
  · exact k.evaluate
  · exact k

theorem Kept.setSlots (k : Kept s) (xs : List Slot) : Kept (setSlots xs s) := by
  unfold Machine.setSlots
  split
  · exact k
  · refine Kept.evaluateIfSure ?_; exact k

theorem Kept.advanceSecond (k : Kept s) : Kept (advanceSecond s) := by
  unfold Machine.advanceSecond
  split
  · refine Kept.evaluateIfSure ?_; exact k
  · exact k

theorem Kept.secondEnds (k : Kept s) : Kept (secondEnds s) := by
  unfold Machine.secondEnds
  split
  · exact k
  · exact k.advanceSecond

theorem Kept.minuteEnds (k : Kept s) : Kept (minuteEnds s) := by
  unfold Machine.minuteEnds
  split
  · exact k.secondEnds
  · exact k

theorem Kept.adopt (k : Kept s) (minute seconds : Nat) : Kept (adopt minute seconds s) := by
  have hstep : Kept (stepClock minute seconds s) := by
    unfold stepClock
    refine Kept.evaluate ?_; exact k
  unfold Machine.adopt
  simp only
  split
  · exact hstep
  · split
    · exact hstep
    · exact k

theorem Kept.takeTime (k : Kept s) (t : Telegram) : Kept (takeTime t s) := by
  unfold Machine.takeTime
  split
  · simp only
    split
    · refine Kept.adopt ?_ _ _; exact k
    · exact k
  · exact k

@[simp] theorem lampView_sureExpired (s : State) : lampView (sureExpired s) = lampView s := by
  unfold sureExpired; split <;> rfl

theorem Kept.slewOnce (k : Kept s) : Kept (slewOnce s) := by
  unfold Machine.slewOnce
  split
  · split
    · refine Kept.advanceSecond ?_; exact k
    · split <;> exact k
  · exact k

/-! ### The warm reset (R183) -/

/-- Without any claim a lamp that does not claim is in form. -/
theorem ClaimForm.empty {v w : LampView} (h : ClaimForm v) (hs : committedState w.state = false)
    (hn : w.number = v.number) (hcl : w.claims = []) : ClaimForm w := by
  refine ⟨fun hst => ?_, fun hown => ?_, ?_, fun c hc => ?_, ?_⟩
  · unfold inStrike at hst; cases hw : w.state <;> simp_all [committedState, litSide]
  · rw [hcl] at hown; cases hown
  · rw [hcl]; exact List.nodup_nil
  · rw [hcl] at hc; cases hc
  · rw [hn]; exact h.number

theorem extinguish_noClaims {t : State} (h : t.claims = []) (n : LampState) : (extinguish n t).claims = [] := by
  have hclaims := congrArg LampView.claims (lampView_extinguish n t)
  change (extinguish n t).claims = if inStrike t.lamp.state = true then t.claims.filter _ else t.claims at hclaims
  rw [hclaims, h]; split <;> rfl

/-- The lamp after its warm reset, its claims dropped before (R28). -/
theorem Formed.resetLamp (h : Formed s) {t : State} (ht : t = s.setClaims []) : Formed (resetLamp t) ∧
    committedState (resetLamp t).lamp.state = false := by
  have hact (hb : burning s.lamp.state = false) : s.lamp.actual = 0 := h.power.off hb
  have hlamp := extinguish_lamp .cooling t
  have hstraps : (Machine.extinguish .cooling t).straps = s.straps :=
    ((congrArg State.straps (outside_extinguish .cooling t) :)).trans (by rw [ht]; rfl)
  have hclaims := extinguish_noClaims (t := t) (by rw [ht]; rfl) .cooling
  have emptied {u : State} (h1 : committedState u.lamp.state = false)
      (h2 : u.lamp.state = .fault → anyFault u.lamp.faults = true) (h3 : u.lamp.cap = s.lamp.cap)
      (h4 : u.lamp.heldP = s.lamp.heldP) (h5 : u.lamp.actual = 0) (h6 : u.claims = []) (h7 : u.straps = s.straps) :
      Formed u ∧ committedState u.lamp.state = false :=
    ⟨⟨h.power.out h1 h2 h3 h4 h5, h.claims.empty h1 (congrArg Straps.number h7) h6⟩, h1⟩
  have hby := h.power.byState
  have htl : t.lamp = s.lamp := by rw [ht]; rfl
  unfold Machine.resetLamp
  rw [htl]
  simp only [lampView] at hby
  cases hs : s.lamp.state with
  | striking | warming | lit =>
    refine emptied ?_ ?_ ?_ ?_ ?_ hclaims hstraps <;>
      simp only [State.setLamp_lamp, hlamp, darkened, htl] <;> first | rfl | nofun
  | waiting =>
    subst ht
    exact emptied rfl nofun rfl rfl (hact (by rw [hs]; rfl)) rfl rfl
  | dark | cooling | fault =>
    subst ht
    rw [hs] at hby
    exact emptied (by simp only [State.setLamp_lamp, State.setClaims_lamp, hs]; rfl)
      (fun e => by first | exact hby | exact absurd (hs.symm.trans e) nofun) rfl rfl (hact (by rw [hs]; rfl)) rfl rfl

/-- The SCHEDULE lock of a held effective slot handed again (R167). -/
def lockAgain (x : Option Slot) (s : State) : State :=
  match lockWanted x with
  | some sc => addLock ⟨.schedule, sc, none⟩ s
  | none => s

/-- The actions of a held effective slot handed again (R167). -/
def enterAgain (x : Option Slot) (s : State) : State := if x.isSome then enterEffective x s else s

/-- The schedule ON of a held ON slot handed again (R167). -/
def onAgain (s : State) : State := if s.schedule.heldOn.isSome then groupOn .schedule s else s

theorem resetSchedule_unsure (h : s.clock.sure.isSome = false) : resetSchedule s =
    onAgain (enterAgain s.schedule.heldEffective (lockAgain s.schedule.heldEffective
      (s.setClock { s.clock with source := none }))) := by
  unfold resetSchedule
  exact if_neg (by rw [State.setClock_clock, h]; decide)

theorem Kept.lockAgain (k : Kept s) (x : Option Slot) : Kept (lockAgain x s) := by
  unfold Machine.lockAgain
  split
  · exact k.addLock _
  · exact k

theorem Kept.enterAgain (k : Kept s) (x : Option Slot) : Kept (enterAgain x s) := by
  unfold Machine.enterAgain
  split
  · exact k.enterEffective _
  · exact k

theorem Kept.onAgain (k : Kept s) : Kept (onAgain s) := by
  unfold Machine.onAgain
  split
  · exact k.groupOn _
  · exact k

theorem Kept.resetSchedule (k : Kept s) : Kept (resetSchedule s) := by
  cases hsure : s.clock.sure.isSome with
  | true =>
    unfold Machine.resetSchedule
    simp only [State.setClock_clock, hsure, if_true]
    refine Kept.evaluate ?_; exact k
  | false =>
    rw [resetSchedule_unsure hsure]
    refine Kept.onAgain (Kept.enterAgain (Kept.lockAgain ?_ _) _); exact k

theorem Kept.warmReset (k : Kept s) : Kept (warmReset s) := by
  obtain ⟨hform, hout⟩ := Formed.resetLamp (s := s.setLine (resetLine s.line)) k.formed rfl
  unfold Machine.warmReset
  simp only
  refine Kept.resetSchedule ?_
  set r := resetLamp ((s.setLine (resetLine s.line)).setClaims []) with hr
  have hlocks : Kept (resetLocks r) := by
    unfold resetLocks
    refine (hform.setLocks _).kept hout
  have hgeo : Kept ((linkProgress (resetLocks r)).setGeometry (resetEngine (linkProgress (resetLocks r)).geometry)) :=
    hlocks.of_view (by simp)
  set g := (linkProgress (resetLocks r)).setGeometry (resetEngine (linkProgress (resetLocks r)).geometry) with hg
  have hstate : committedState g.lamp.state = false := by
    have : lampView g = lampView (resetLocks r) := by simp [hg]
    have := congrArg LampView.state this
    rw [show g.lamp.state = r.lamp.state from this]; exact hout
  have hclaiming := claiming_of_not_committed hstate
  have hpeers : Kept (resetPeers g) := hgeo.hold hclaiming rfl
  have hgroup : Kept ((resetPeers g).setGroup (resetGroup (resetPeers g).group)) := hpeers
  have hfresh := hgroup.beginFresh hclaiming
  refine hfresh.of_view ?_
  unfold resetSelector
  simp

/-! ### Keys (08) -/

theorem Kept.setPanel (k : Kept s) {x : Panel} (hx : x.switch.settled = s.panel.switch.settled) :
    Kept (s.setPanel x) := by
  refine k.of_view ?_
  simp only [lampView, inService, State.setPanel_panel, hx]
  rfl

theorem Kept.whenSettled (k : Kept s) {press : State → State} (hp : ∀ s, Kept s → Kept (press s)) :
    Kept (whenSettled press s) := by
  unfold Machine.whenSettled
  split
  · exact (hp s k).settle s
  · exact k

theorem Kept.sampleKey {get : Panel → Key} {put : Panel → Key → Panel} {press : State → State}
    (hput : ∀ p k, (put p k).switch = p.switch) (hp : ∀ s, Kept s → Kept (press s)) (samples : List Bool) (k : Kept s) :
    Kept (sampleKey get put press samples s) := by
  induction samples generalizing s with
  | nil => exact k
  | cons x rest ih =>
    have hk : Kept (s.setPanel (put s.panel (keySample (get s.panel) x).1)) := k.setPanel (by rw [hput])
    unfold Machine.sampleKey
    refine ih ?_
    split
    · exact hk.whenSettled hp
    · exact hk

theorem Kept.pressPower (k : Kept s) : Kept (pressPower s) := by
  unfold Machine.pressPower
  split
  · unfold powerInService
    split
    · cases hs : s.lamp.state with
      | warming | lit => exact (k.extinguish (by rw [hs]; rfl)).setRelight false
      | dark | waiting | striking | cooling | fault => exact k
    · exact k
  · unfold powerForGroup
    split <;> split
    · exact (k.groupOn _).of_view rfl
    · exact k
    · exact k.groupOff.of_view rfl
    · exact k

theorem Kept.pressSource (k : Kept s) : Kept (pressSource s) := by
  unfold Machine.pressSource
  split
  · exact k.of_view (by simp)
  · exact k

theorem Kept.pressKeystone (k : Kept s) (n : Int) : Kept (pressKeystone n s) := by
  unfold Machine.pressKeystone
  split <;> exact k

theorem Kept.pressClear (k : Kept s) : Kept (pressClear s) := by
  unfold Machine.pressClear
  split
  · exact k.tryClear
  · exact k

theorem Kept.applyDecision (k : Kept s) : Kept (applyDecision s) := by
  unfold Machine.applyDecision
  split
  · exact k.nowWanted
  · exact k.unwanted

/-- The own station is not available in SERVICE (R111). -/
theorem lampUncovered_inService (h : inService s = true) (b : State) : lampUncovered b s = s := by
  unfold lampUncovered electIfAvailable ownAvailable
  split
  · exact if_neg (by simp [h])
  · rfl

/-- A lamp that no lock holds out goes into SERVICE, out of WAITING and STRIKING (R26). -/
theorem Formed.lampIntoService (h : Formed s) (hl : lampLocked s.locks = true → committedState s.lamp.state = false) :
    Kept (lampIntoService s) := by
  unfold Machine.lampIntoService
  simp only
  cases hs : s.lamp.state with
  | waiting => exact Kept.setRelight ((h.leaveWaiting hs).kept rfl) false
  | striking p => exact Kept.setRelight ((h.extinguish (by rw [hs]; rfl)).kept (by rw [extinguish_state]; rfl)) false
  | dark | cooling | fault => exact Kept.setRelight (h.kept (by rw [hs]; rfl)) false
  | warming | lit =>
    refine Kept.setRelight ⟨h, ⟨hl, fun hc => ?_⟩⟩ false
    rw [show claiming (lampView s).state = claiming s.lamp.state from rfl, hs] at hc; cases hc

theorem inService_setPosition (p : KeyPosition) (s : State) : inService (setPosition p s) = (p == .service) := by
  unfold inService setPosition; cases p <;> rfl

theorem Kept.settlePosition (k : Kept s) (p : KeyPosition) : Kept (settlePosition p s) := by
  unfold Machine.settlePosition
  simp only
  split
  · exact k
  · refine Kept.settle ?_ s
    by_cases hp : p = .service
    · subst hp
      have hform : Formed (setPosition .service s) := by
        obtain ⟨hp, hc⟩ := k.formed
        exact ⟨⟨hp.cap, hp.heldP, hp.off, hp.byState⟩, ⟨hc.striking, hc.claimed, hc.nodup, hc.entries, hc.number⟩⟩
      obtain ⟨ls, hls, hleave⟩ : ∃ ls, (lampLocked ls = true → lampLocked s.locks = true) ∧
          leavePosition s.panel.switch.settled s (setPosition .service s) = (setPosition .service s).setLocks ls := by
        unfold leavePosition
        split
        · refine ⟨withoutHolder .keySwitch s.locks, lampLocked_withoutHolder, lampUncovered_inService ?_ _⟩
          exact inService_setPosition .service s
        · contradiction
        · exact ⟨s.locks, id, rfl⟩
        · exact ⟨s.locks, id, rfl⟩
      rw [hleave]
      exact Formed.lampIntoService (Formed.setLocks hform _) fun hl => k.2.locked (hls hl)
    · have hk : Kept (setPosition p s) := by
        refine k.free rfl id id fun h => ?_
        rw [inService_setPosition] at h
        exact absurd (by simpa using h) hp
      have hleft : Kept (leavePosition s.panel.switch.settled s (setPosition p s)) := by
        unfold leavePosition
        split
        · exact hk.removeLock _
        · exact (hk.electIfAvailable s).applyDecision
        · exact hk
        · exact hk
      cases p with
      | normal => exact hleft
      | locked => exact hleft.addLock _
      | service => exact absurd rfl hp

theorem Kept.sampleSwitch (samples : List KeyReading) (k : Kept s) : Kept (sampleSwitch samples s) := by
  induction samples generalizing s with
  | nil => exact k
  | cons r rest ih =>
    have hkept : (switchSample s.panel.switch r).1.settled = s.panel.switch.settled := by
      unfold switchSample; split <;> rfl
    have hk : Kept (s.setPanel { s.panel with switch := (switchSample s.panel.switch r).1 }) := k.setPanel hkept
    unfold Machine.sampleSwitch
    refine ih ?_
    split
    · exact hk.settlePosition _
    · exact hk

theorem lampLocked_lowerMinutes (n : Nat) (ls : List Lock) : lampLocked (ls.map (lowerMinutes n)) = lampLocked ls := by
  unfold lampLocked
  rw [List.any_map]
  congr 1
  funext l
  simp only [Function.comp, lowerMinutes]; split <;> rfl

theorem Kept.lockMinute (k : Kept s) (n : Nat) : Kept (lockMinute n s) := by
  unfold Machine.lockMinute
  (repeat' split)
  · exact k.removeLock _
  · exact k.setLocks (by rw [lampLocked_lowerMinutes]; exact id)
  · exact k
  · exact k

/-! ### The Hall Line (10) -/

@[simp] theorem lampView_hear (x : LineSignal) (s : State) : lampView (hear x s) = lampView s := rfl

@[simp] theorem lampView_beginSending (n : Nat) (s : State) : lampView (beginSending n s) = lampView s := by
  unfold beginSending; simp only; (repeat' split) <;> simp

theorem Kept.reserveForHead (k : Kept s) : Kept (reserveForHead s) := k.of_view (lampView_reserveForHead s)

theorem Kept.ownerDrop (k : Kept s) (p : Payload) : Kept (ownerDrop p s) := by
  unfold Machine.ownerDrop
  split
  · exact k.of_view (lampView_beaconEnded s)
  · exact k.reserveForHead
  · exact k.reserveForHead
  · exact k.reserveForHead
  · exact k.warmReset
  · exact k.reserveForHead

theorem Kept.ownerEcho (k : Kept s) (p : Payload) : Kept (ownerEcho p s) := by
  unfold Machine.ownerEcho
  split
  · exact k.of_view (lampView_beaconEnded s)
  · exact k.ownClaimEcho.reserveForHead
  · exact k.reserveForHead
  · exact k.reserveForHead
  · exact k.warmReset
  · exact k.reserveForHead

theorem Kept.attemptFailed (k : Kept s) : Kept (attemptFailed s) := by
  unfold Machine.attemptFailed
  split
  · exact k
  · simp only
    split
    · exact Kept.reserveForHead k
    · split
      · refine Kept.ownerDrop ?_ _; exact k
      · exact k

theorem Kept.lineLost (k : Kept s) : Kept (lineLost s) := by
  unfold Machine.lineLost
  split
  · simp only
    split
    · exact k
    · refine Kept.attemptFailed ?_; exact k
  · exact k

theorem Kept.lineFaulted (k : Kept s) : Kept (lineFaulted s) := by
  unfold Machine.lineFaulted
  split
  · simp only
    split
    · exact k
    · refine Kept.attemptFailed ?_; exact k
  · exact k

theorem Kept.sentComplete (k : Kept s) : Kept (sentComplete s) := by
  unfold Machine.sentComplete
  split
  · simp only
    split
    · exact k
    · split
      · refine Kept.ownerEcho ?_ _; exact k
      · exact k
  · exact k

theorem Kept.deliver (k : Kept s) (t : Telegram) : Kept (deliver t s) := by
  unfold Machine.deliver
  split
  · exact k
  · next hknown =>
    have horigin : t.origin.toNat ≤ 31 := by
      simp only [Bool.or_eq_true, decide_eq_true_eq, not_or] at hknown; omega
    split
    · unfold handTo takeRequest
      (repeat' split)
      · exact k.takeBeacon t
      · exact k.takeClaim t horigin
      · exact k.takeRelease t
      · exact k.takeTime t
      all_goals exact k
    · exact k

theorem Kept.receiveAll (signals : List LineSignal) (k : Kept s) : Kept (receiveAll signals s) := by
  induction signals generalizing s with
  | nil => exact k
  | cons x rest ih =>
    have hk : Kept (hear x s) := k
    unfold Machine.receiveAll receiveOne
    refine ih ?_
    split
    · exact (hk.deliver _).settle s
    · exact hk

theorem Kept.receive (k : Kept s) (signals : List LineSignal) : Kept (receive signals s) := by
  unfold Machine.receive
  split
  · exact k.receiveAll signals
  · exact k

/-! ### Requests -/

/-- An owner keeps the lamp's invariants, so the dispatch of a request to it does (R175, R176). -/
theorem Kept.dispatch (k : Kept s) {accepts : Telegram → Bool} {owner : Owner}
    (ho : ∀ t s, Kept s → Kept (owner t s).1) : Kept (dispatch accepts owner s) := by
  have answer (t : Telegram) (x : Result) {u : State} (hu : Kept u) : Kept (giveAnswer t x u) := hu
  have free {u : State} (hu : Kept u) : Kept (freeReservation u) := by
    refine Kept.reserveForHead ?_; exact hu
  unfold Machine.dispatch
  split
  · exact k
  · next t rest _ =>
    split
    · have hr : Kept (if t.origin = 0 then (takeHead t rest s, none) else owner t (takeHead t rest s)).1 := by
        split
        · exact k
        · exact ho t _ k
      simp only
      generalize (if t.origin = 0 then (takeHead t rest s, none) else owner t (takeHead t rest s)) = r at hr
      split
      · split
        · exact answer t _ hr
        · exact free hr
      · exact hr
    · exact k

theorem Kept.ownGroupOn (k : Kept s) (t : Telegram) : Kept (ownGroupOn t s).1 := by
  unfold Machine.ownGroupOn refuse
  (repeat' split) <;> first | exact k | exact k.groupOn _

theorem Kept.ownGroupOff (k : Kept s) (t : Telegram) : Kept (ownGroupOff t s).1 := by
  unfold Machine.ownGroupOff refuse
  (repeat' split) <;> first | exact k | exact k.groupOff

theorem Kept.ownLevel (k : Kept s) (t : Telegram) : Kept (ownLevel t s).1 := by
  unfold Machine.ownLevel refuse
  (repeat' split) <;> exact k

theorem Kept.ownShow (k : Kept s) (t : Telegram) : Kept (ownShow t s).1 := by
  unfold Machine.ownShow refuse
  (repeat' split) <;> first | exact k | exact k.of_view (lampView_push _ _ _)

theorem Kept.ownCorners (k : Kept s) (t : Telegram) : Kept (ownCorners t s).1 := by
  unfold Machine.ownCorners refuse
  (repeat' split) <;> exact k

theorem Kept.ownLock (k : Kept s) (t : Telegram) : Kept (ownLock t s).1 := by
  unfold Machine.ownLock takeLock refuse
  simp only
  (repeat' split) <;> first | exact k | exact k.addLock _

theorem Kept.ownUnlock (k : Kept s) (t : Telegram) : Kept (ownUnlock t s).1 := by
  unfold Machine.ownUnlock refuse
  (repeat' split) <;> first | exact k | exact k.removeLock _

theorem Kept.ownSlotPut (k : Kept s) (t : Telegram) : Kept (ownSlotPut t s).1 := by
  unfold Machine.ownSlotPut refuse
  split <;> first | exact k | exact k.setSlots _

theorem Kept.ownSlotDrop (k : Kept s) (t : Telegram) : Kept (ownSlotDrop t s).1 := by
  unfold Machine.ownSlotDrop refuse
  (repeat' split) <;> first | exact k | exact k.setSlots _

theorem Kept.ownClearFault (k : Kept s) (t : Telegram) : Kept (ownClearFault t s).1 := by
  unfold Machine.ownClearFault refuse
  split <;> first | exact k | exact k.tryClear

theorem Kept.newLamp (k : Kept s) : Kept (newLamp s) := by
  unfold Machine.newLamp
  refine Kept.of_view (lampView_requestWrite _) (Kept.removeLock ?_ _); exact k

theorem Kept.ownLampNew (k : Kept s) (t : Telegram) : Kept (ownLampNew t s).1 := by
  unfold Machine.ownLampNew refuse
  (repeat' split) <;> first | exact k | exact k.newLamp

theorem Kept.ownRestart (k : Kept s) (t : Telegram) : Kept (ownRestart t s).1 := by
  unfold Machine.ownRestart refuse
  (repeat' split) <;> first | exact k | exact k.warmReset

theorem queryForm_state (t : Telegram) (s : State) (r : Option Result) : (queryForm t s r).1 = s := by
  unfold queryForm refuse; (repeat' split) <;> rfl

/-! ### Start-up (11) -/

/-- The personality is read while no lamp is committed (R182). -/
theorem Kept.secondPassOnce (k : Kept s) (h : StartSafe s) (silent : List Nat) : Kept (secondPassOnce silent s) := by
  unfold Machine.secondPassOnce
  split
  · exact k
  · next hpass =>
    obtain ⟨-, hout, -⟩ := h
    have hs : committedState s.lamp.state = false := (hout (by simpa using hpass)).1
    have hp := k.formed.power
    have hcl := claiming_of_not_committed hs
    have hact : s.lamp.actual = 0 := hp.off (burning_of_not_litSide (litSide_of_not_committed hs))
    have hf (e : s.lamp.state = .fault) : anyFault s.lamp.faults = true := by
      have hby := hp.byState
      simp only [lampView, e] at hby; exact hby
    unfold secondPass
    simp only
    refine Kept.of_view (lampView_startSelector _) (Formed.kept ⟨hp.out hs hf rfl rfl hact, ?_⟩ hs)
    exact k.1.claims.release hcl rfl (k.1.claims.released_eq hcl).symm

theorem Kept.enableReceiver (k : Kept s) : Kept (enableReceiver s) := by
  unfold Machine.enableReceiver
  split
  · next h =>
    simp only [Bool.and_eq_true, Bool.not_eq_true'] at h
    have hfresh : isFresh s = true := by simp [isFresh, h.2]
    have hcl : claiming s.lamp.state = false := by
      rw [Bool.eq_false_iff]
      exact fun hc => absurd (hfresh.symm.trans (k.2.free hc).1) (by decide)
    exact k.hold hcl rfl
  · exact k

theorem kept_poweredOn (p : PowerUp) (s : State) : Kept (poweredOn p s) := by
  have hnumber : 1 ≤ (strapsRead p).number ∧ (strapsRead p).number ≤ 31 := by
    have := p.station.isLt
    unfold strapsRead; simp only; split <;> omega
  refine Formed.kept ⟨⟨.inl rfl, ⟨(by decide : 60 ≤ 100), le_rfl⟩, fun _ => rfl, trivial⟩,
    ⟨nofun, nofun, List.nodup_nil, nofun, hnumber⟩⟩ rfl

/-! ### Every step keeps the lamp's invariants -/

theorem kept_of_finish {op : State → State} {t : State} (hop : Kept (op s)) (e : finish op s = .next t) : Kept t := by
  obtain rfl := Host.Outcome.next.inj e
  exact hop.settle s

theorem kept_of_view {op : State → State} {t : State} (k : Kept s) (hop : lampView (op s) = lampView s)
    (e : finish op s = .next t) : Kept t := kept_of_finish (k.of_view hop) e

theorem kept_of_owner {accepts : Telegram → Bool} {owner : Owner} {t : State} (k : Kept s)
    (ho : ∀ t s, Kept s → Kept (owner t s).1) (e : finish (dispatch accepts owner) s = .next t) : Kept t :=
  kept_of_finish (k.dispatch ho) e

/-- An owner of a QUERY changes nothing (R177). -/
theorem kept_of_query {accepts : Telegram → Bool} {read : Telegram → State → Option Result} {t : State} (k : Kept s)
    (e : finish (dispatch accepts fun t s => queryForm t s (read t s)) s = .next t) : Kept t :=
  kept_of_owner k (fun t s k => by rw [queryForm_state]; exact k) e

theorem kept_of_key {get : Panel → Key} {put : Panel → Key → Panel} {press : State → State} {samples : List Bool}
    {t : State} (k : Kept s)
    (e : (Host.Outcome.next (sampleKey get put press samples s) : Host.Outcome State Fault Refusal) = .next t)
    (hput : ∀ p k, (put p k).switch = p.switch) (hp : ∀ s, Kept s → Kept (press s)) : Kept t := by
  obtain rfl := Host.Outcome.next.inj e
  exact Kept.sampleKey hput hp samples k

/-- What a command's rule may lean on beyond the lamp's invariants. -/
structure Grounds (s : State) : Prop where
  start : StartSafe s
  settings : SettingsSafe s.settings
  target : retarget s = s
  peers : PeersSafe s

theorem exec_kept {i : Instr} {t : State} (k : Kept s) (g : Grounds s) (e : exec i s = .next t) : Kept t := by
  cases i with
  | powerOn p =>
    have e : execPowerOn p s = .next t := e
    unfold execPowerOn at e
    split at e
    · cases e
    · obtain rfl := Host.Outcome.next.inj e
      exact (kept_poweredOn p s).settle _
  | secondPass silent => exact kept_of_finish (k.secondPassOnce g.start silent) e
  | receiverEnabled => exact kept_of_finish k.enableReceiver e
  | sendingAttempt idle => exact kept_of_view k (lampView_beginSending idle s) e
  | loss => exact kept_of_finish k.lineLost e
  | lineFault => exact kept_of_finish k.lineFaulted e
  | ownEcho => exact kept_of_finish k.sentComplete e
  | receiveError | requestArrival | answer | beacon | claim | release | time | telegramOfUnknownKind =>
    obtain rfl := Host.Outcome.next.inj e
    exact k.receive _
  | groupOn => exact kept_of_owner k (fun t _ k => k.ownGroupOn t) e
  | groupOff => exact kept_of_owner k (fun t _ k => k.ownGroupOff t) e
  | level => exact kept_of_owner k (fun t _ k => k.ownLevel t) e
  | showInput => exact kept_of_owner k (fun t _ k => k.ownShow t) e
  | corners => exact kept_of_owner k (fun t _ k => k.ownCorners t) e
  | lock => exact kept_of_owner k (fun t _ k => k.ownLock t) e
  | unlock => exact kept_of_owner k (fun t _ k => k.ownUnlock t) e
  | slotPut => exact kept_of_owner k (fun t _ k => k.ownSlotPut t) e
  | slotDrop => exact kept_of_owner k (fun t _ k => k.ownSlotDrop t) e
  | clearFault => exact kept_of_owner k (fun t _ k => k.ownClearFault t) e
  | lampNew => exact kept_of_owner k (fun t _ k => k.ownLampNew t) e
  | restart => exact kept_of_owner k (fun t _ k => k.ownRestart t) e
  | queryWear | queryLocks | querySlot | queryCorners => exact kept_of_query k e
  | confirmWindowExpiry station => exact kept_of_finish (k.confirmExpired g.peers station) e
  | presenceTimerExpiry station => exact kept_of_finish (k.presenceExpired g.peers station) e
  | freshEnd => exact kept_of_finish k.freshEnds e
  | duplicateTimerExpiry => exact kept_of_finish k.duplicateEnds e
  | beaconTimerExpiry => exact kept_of_view k (lampView_periodicBeacon s) e
  | beaconSpacingExpiry => exact kept_of_view k (lampView_spacingEnds s) e
  | lineQualityMinute => exact kept_of_finish (k.qualityMinute g.peers) e
  | ageTimerExpiry station => exact kept_of_finish (k.claimAged station) e
  | claimRenewal => exact kept_of_view k (lampView_renewClaim s) e
  | litSense => exact kept_of_finish k.litSenseArrives e
  | dropout => exact kept_of_finish k.litSenseLost e
  | litSenseWaitExpiry => exact kept_of_finish k.litWaitExpired e
  | warmUpExpiry => exact kept_of_finish (k.warmUpExpired g.settings) e
  | rampStep => exact kept_of_finish (k.rampOnce g.settings g.target) e
  | litSecond => exact kept_of_view k (lampView_reportLitSecond s) e
  | coolDownExpiry => exact kept_of_finish k.coolDownExpired e
  | restrikeGuardExpiry => exact kept_of_finish k.restrikeExpired e
  | retryGapExpiry | dropoutWindowExpiry | fanTestExpiry | tachometerRunning | supplyLowReleased =>
    exact kept_of_view k rfl e
  | fanStall => exact kept_of_finish k.fanStalls e
  | tachometerStalled => exact kept_of_finish k.tachoStalls e
  | supplyLowAsserted => exact kept_of_finish k.supplyFails e
  | temperatureSample reading => exact kept_of_finish (k.takeSample g.settings reading) e
  | writeCompletion readBack => exact kept_of_view k (lampView_readBackTaken readBack s) e
  | writeTimeout held => exact kept_of_view k (lampView_writeTimesOut held s) e
  | computationEnd => exact kept_of_view k (lampView_computationEnds s) e
  | loadSent => exact kept_of_view k (lampView_lastRecordSent s) e
  | loadAcknowledgement i n => exact kept_of_view k (lampView_takeAcknowledgement i n s) e
  | loadRefusal i n => exact kept_of_view k (lampView_takeRefusal i n s) e
  | loadWaitExpiry => exact kept_of_view k (lampView_loadWaitExpired s) e
  | swapReport i => exact kept_of_view k (lampView_takeSwapReport i s) e
  | swapRequestRepeat => exact kept_of_view k (lampView_repeatSwapRequest s) e
  | swapWaitTimeout => exact kept_of_view k (lampView_swapWaitEnds s) e
  | presenceSample lines => exact kept_of_finish (k.samplePresence lines) e
  | lockReport input => exact kept_of_view k (lampView_takeLockReport input s) e
  | switchTimerExpiry => exact kept_of_view k (lampView_switchExpired s) e
  | holdTimerExpiry => exact kept_of_view k (lampView_holdExpired s) e
  | idleTimerExpiry => exact kept_of_finish k.idleExpired e
  | keypadPower => exact kept_of_key k e (fun _ _ => rfl) (fun _ => Kept.pressPower)
  | keypadSource => exact kept_of_key k e (fun _ _ => rfl) (fun _ => Kept.pressSource)
  | keypadVPlus => exact kept_of_key k e (fun _ _ => rfl) (fun _ k => k.pressKeystone 8)
  | keypadVMinus => exact kept_of_key k e (fun _ _ => rfl) (fun _ k => k.pressKeystone (-8))
  | keypadClear => exact kept_of_key k e (fun _ _ => rfl) (fun _ => Kept.pressClear)
  | keySwitchSettle samples =>
    obtain rfl := Host.Outcome.next.inj e
    exact Kept.sampleSwitch samples k
  | lockMinuteTimerExpiry station => exact kept_of_finish (k.lockMinute station) e
  | clockSecond => exact kept_of_finish k.secondEnds e
  | minuteChange => exact kept_of_finish k.minuteEnds e
  | sureTimerExpiry => exact kept_of_view k (lampView_sureExpired s) e
  | slewTimerExpiry => exact kept_of_finish k.slewOnce e
  | shortfallTimerExpiry => exact kept_of_finish k.growthStep e

theorem Safe.grounds (h : Safe s) (q : List Instr) : Grounds (s.setPending q) := by
  obtain ⟨hstart, hsettings, ⟨-, -, -, -, htarget, -⟩, -, -, -, -, -, -, -, -, -, hpeers, -⟩ := h
  exact ⟨hstart, hsettings, retarget_fixed.mpr (retarget_fixed (s := s).mp htarget), hpeers⟩

/-- A step from a safe state keeps what is kept of the lamp. -/
theorem step_kept {t : State} (h : Safe s) (e : step s = .next t) : Kept t := by
  unfold step at e
  split at e
  · cases e; exact h.kept
  · next c rest _ => exact exec_kept (s := s.setPending rest) h.kept (h.grounds rest) e

/-- Settles O53: every operation that commits the lamp tests the LAMP locks, and every one that adds such a lock puts the
lamp out. -/
theorem lampLocksKeepTheLampOut : Obligations.LampLocksKeepTheLampOut := fun _ _ h e => (step_kept h e).2.locked

/-- Settles O54, by the claims that every operation keeps. -/
theorem strikesHavePermission : Obligations.StrikesHavePermission := by
  intro s t h e
  have k := step_kept h e
  exact ((claimForm_iff t).mp ⟨k.1.claims, k.2.free⟩).1

/-- Settles O55, by the powers that every operation keeps and the target that the settling sets. -/
theorem powerFollowsTheLampState : Obligations.PowerFollowsTheLampState := by
  intro s t h e
  obtain ⟨-, -, -, -, htarget, -⟩ := stepsEndSettled s t h e
  exact (step_kept h e).1.power.safe htarget

end Sys2Proof.Machine
end

section
/-! ## The state after reset (R27, R29, R61, R79, R120, R123, R138, R150, R154, R167, R179, R182) -/

namespace Sys2Proof.Machine

/-- Settles O4, value by value. -/
theorem resetValues : Obligations.ResetValues := by
  unfold Obligations.ResetValues
  have hinputs : ∀ i ∈ allInputs, (sixGet State.reset.source.inputs i).presence = .unsettled ∧
      (sixGet State.reset.source.inputs i).run = 0 := by
    intro i _; cases i <;> exact ⟨rfl, rfl⟩
  have hkeys : ∀ k ∈ [State.reset.panel.power, State.reset.panel.source, State.reset.panel.vPlus,
      State.reset.panel.vMinus, State.reset.panel.clear], k.down = false ∧ k.foundOpen = false ∧ k.run = 0 := by
    decide
  intro s
  and_intros
  all_goals first | rfl | exact hinputs | exact hkeys | exact fun _ => rfl

/-! ### The plain set lets the whole panel shine (R53, R61) -/

theorem lineSpan_plain (fmt : Fin 4) (t : Nat) : lineSpan fmt .plain t = panelWidth fmt - 1 := by
  have hround (n : Nat) : roundQuot 0 n = 0 := by
    have : n / (2 * n) = 0 := by
      rcases Nat.eq_zero_or_pos n with h | h
      · rw [h]
      · exact Nat.div_eq_of_lt (by omega)
    simp [roundQuot, this]
  simp [lineSpan, rightEdge, leftEdge, CornerSet.plain, hround]

theorem areaTo_plain (fmt : Fin 4) (t : Nat) : areaTo fmt .plain t = (panelWidth fmt * (t + 1) : Nat) := by
  induction t with
  | zero => simp [areaTo, lineSpan_plain]
  | succ t ih =>
    rw [areaTo, ih, lineSpan_plain]
    push_cast; ring

/-- The light fraction of the plain set is 1024 in every panel format (R53, R61). -/
theorem lightFraction_plain (fmt : Fin 4) : lightFraction fmt .plain = 1024 := by
  have hpos : 0 < panelWidth fmt * panelHeight fmt := by fin_cases fmt <;> decide
  have hspan : pictureSpan fmt .plain + 1 = panelHeight fmt := by fin_cases fmt <;> rfl
  unfold lightFraction
  rw [areaTo_plain, hspan, Int.toNat_natCast, Nat.mul_div_cancel _ hpos]

theorem reset_power : PowerSafe State.reset :=
  (kept_poweredOn ⟨1, 0, 0, true, false, false, []⟩ State.reset).1.power.safe rfl

theorem reset_geometry : GeometrySafe State.reset.straps.format State.reset.geometry := by
  unfold GeometrySafe
  exact ⟨rfl, nofun, nofun, (lightFraction_plain _).symm, by decide, by decide, nofun, by decide, by decide, rfl, .inl rfl,
    rfl, rfl, rfl, rfl⟩

/-- Settles O5: property by property, each by the values of reset. -/
theorem resetIsSafe : Obligations.ResetIsSafe := by
  unfold Obligations.ResetIsSafe
  unfold Safe
  refine ⟨?_, ?_, ?_, ?_, reset_power, ?_, ?_, ?_, ?_, ?_, ?_, ?_, ?_, reset_geometry, ?_, ?_⟩
  · unfold StartSafe; decide
  · unfold SettingsSafe; decide
  · decide
  · unfold LampHeldOut; decide
  · unfold ClaimsSafe; decide
  · unfold LocksSafe; decide
  · exact ⟨by decide, List.nodup_nil, rfl, rfl, rfl⟩
  · unfold SlotsSafe; decide
  · unfold ClockSafe; decide
  · unfold RequestsSafe; decide
  · unfold SendQueueSafe; decide
  · unfold PeersSafe; decide
  · unfold GroupSafe; decide
  · decide

end Sys2Proof.Machine
end

section
/-! ## What the settling of a step does after a command of the lamp's family -/

namespace Sys2Proof.Machine

variable {s u b : State}

/-! ### The settling where some of its judgements have nothing to do -/

theorem withdrawTest_state (h : s.lamp.state ≠ .dark ∧ s.lamp.state ≠ .waiting ∧ s.lamp.state ≠ .cooling) :
    withdrawTest b s = s := by
  rcases withdrawTest_cases b s with hw | ⟨-, hs, -⟩
  · exact hw
  · tauto

/-- Without committed peers there is no withdrawal (R119). -/
theorem withdrawTest_alone (h : committedPeers s = []) : withdrawTest b s = s := by
  rcases withdrawTest_cases b s with hw | ⟨hw, -⟩
  · exact hw
  · simp [withdraws, h] at hw

theorem settle_timers (h1 : lifeJudge u = u) (h2 : startTest u = u) (h3 : strikeTest u = u) (h4 : judgeGroup u = u)
    (h5 : withdrawTest b u = u) : settle b u = beaconJudge b (idleJudge (fanStallJudge (retarget u))) := by
  unfold settle; simp only [h1, h2, h3, h4, h5]

theorem settle_fixed (h1 : lifeJudge u = u) (h2 : startTest u = u) (h3 : strikeTest u = u) (h4 : judgeGroup u = u)
    (h5 : withdrawTest b u = u) (h6 : retarget u = u) (h7 : fanStallJudge u = u) (h8 : idleJudge u = u) :
    settle b u = beaconJudge b u := by
  rw [settle_timers h1 h2 h3 h4 h5, h6, h7, h8]

theorem beaconJudge_same (h : beaconCauses b = beaconCauses u) : beaconJudge b u = u := if_pos h

/-- A command that changes nothing leaves a settled state. -/
theorem finish_unchanged {op : State → State} (h : Settled s) (hop : op s = s) : finish op s = .next s := by
  have hq : Quiet s s := ⟨rfl, rfl, rfl, rfl, rfl, rfl, rfl, rfl, rfl, rfl, rfl, rfl, rfl, rfl, rfl, rfl, rfl⟩
  unfold finish
  rw [hop, settle_quiet h hq, beaconJudge_same rfl]

/-- `u` has what life limit, group and idle timer are judged by as `s` has it, the lamp on the same side. -/
structure SameSide (s u : State) : Prop where
  wear : u.wear = s.wear
  locks : u.locks = s.locks
  group : u.group = s.group
  peers : u.peers = s.peers
  settings : u.settings = s.settings
  f : u.geometry.f = s.geometry.f
  source : u.source = s.source
  cap : u.lamp.cap = s.lamp.cap
  litSide : litSide u.lamp.state = litSide s.lamp.state
  committed : committedState u.lamp.state = committedState s.lamp.state

theorem SameSide.life (r : SameSide s u) (h : Settled s) : lifeJudge u = u :=
  lifeJudge_fixed.mpr ((lifeJudge_fixed.mp h.1).congr r.wear r.settings r.locks r.litSide)

theorem SameSide.judgeGroup (r : SameSide s u) (h : Settled s) : judgeGroup u = u :=
  judgeGroup_fixed_congr ⟨r.group, r.peers, r.settings, r.cap, r.committed, r.f⟩ h.2.2.2.1

theorem SameSide.idleJudge (r : SameSide s u) (h : Settled s) : idleJudge u = u := by
  have hi := idleJudge_fixed.mp h.2.2.2.2.2.2
  rw [idleJudge_fixed, r.source, hi]
  simp only [idleCondition, shownPresent, inputPresent, r.group, r.committed, r.source]

/-- A command that leaves the lamp on its side, with no start, strike or withdrawal to come, is settled but for the
target and the fan stall timer. -/
theorem settle_sameSide (h : Settled s) (r : SameSide s u) (hstart : startTest u = u) (hstrike : strikeTest u = u)
    (hwithdraw : withdrawTest s u = u) : settle s u = beaconJudge s (fanStallJudge (retarget u)) := by
  have hidle : idleJudge (fanStallJudge (retarget u)) = fanStallJudge (retarget u) := by
    refine SameSide.idleJudge (s := s) ?_ h
    rw [retarget_eq]
    exact { r with }
  rw [settle_timers (r.life h) hstart hstrike (r.judgeGroup h) hwithdraw, hidle]

/-- The same for a lamp in the state it was in. -/
theorem settle_steadyReads (h : Settled s) (r : SameSide s u) (rs : SteadyReads s u)
    (hp : powerInputs s = powerInputs u) :
    settle s u = beaconJudge s (fanStallJudge (retarget u)) := by
  obtain ⟨hlife, hstart, hstrike, -⟩ := id h
  have hsteady := Steady.congr rs ⟨lifeJudge_fixed.mp hlife, startTest_fixed.mp hstart, hstrike⟩
  exact settle_sameSide h r (startTest_fixed.mpr hsteady.start) hsteady.strike (withdrawTest_same hp)

theorem settle_setLamp {x : Lamp} (h : Settled s) (hstate : x.state = s.lamp.state) (hfaults : x.faults = s.lamp.faults)
    (hcap : x.cap = s.lamp.cap) (hgap : x.retryGap = s.lamp.retryGap) :
    settle s (s.setLamp x) = beaconJudge s (fanStallJudge (retarget (s.setLamp x))) := by
  have hinputs : powerInputs s = powerInputs (s.setLamp x) := by
    simp only [powerInputs, State.setLamp_lamp, hcap, hstate]; rfl
  have r : SameSide s (s.setLamp x) :=
    ⟨rfl, rfl, rfl, rfl, rfl, rfl, rfl, hcap, by simp [hstate], by simp [hstate]⟩
  exact settle_steadyReads h r ⟨hstate, hgap, hfaults, rfl, rfl, rfl, rfl, rfl, rfl, rfl, rfl, rfl, rfl⟩ hinputs

theorem retarget_congr (h : retarget s = s) (hstate : u.lamp.state = s.lamp.state)
    (htarget : u.lamp.target = s.lamp.target)
    (hcap : u.lamp.cap = s.lamp.cap) (hheld : u.lamp.heldP = s.lamp.heldP) (hset : u.settings = s.settings) :
    retarget u = u := by
  rw [retarget_fixed] at h ⊢; rwa [hstate, htarget, hcap, hheld, hset]

theorem fanStallJudge_congr (h : fanStallJudge s = s) (h1 : u.lamp.fanStall = s.lamp.fanStall)
    (h2 : fanDriven u.lamp = fanDriven s.lamp) (h3 : u.pins.tacho = s.pins.tacho) : fanStallJudge u = u := by
  rw [fanStallJudge_fixed] at h ⊢; rw [h1, h2, h3, h]

/-! ### What every settling keeps -/

/-- The part of the lamp that no settling changes. -/
def enduring (l : Lamp) : Lamp :=
  { l with
    state := .dark, attempts := 0, relight := false, heldP := 0, target := 0, litWait := none, retryGap := none
    coolDown := none, renewal := none, fanStall := none }

/-- The settling leaves a lamp in COOLING and in FAULT there, and in DARK where it may not start. -/
def Still (s : State) : Prop :=
  s.lamp.state = .cooling ∨ s.lamp.state = .fault ∨ s.lamp.state = .dark ∧ startConditions s = false

/-- What the settling keeps between `s` and `u`, and what it keeps of a lamp that it leaves where it is. -/
structure SettleKeeps (s u : State) : Prop where
  lamp : enduring u.lamp = enduring s.lamp
  coolDown : s.lamp.coolDown = none → u.lamp.coolDown = none
  relight : u.lamp.relight = true → s.lamp.relight = true
  selection : s.group.selection = .unselected → u.group.selection = .unselected
  queue : ∀ e ∈ s.line.queue, e.payload ≠ .claim → e ∈ u.line.queue
  still : Still s → Still u
  stillLamp : Still s → u.lamp = { s.lamp with
    relight := u.lamp.relight, heldP := u.lamp.heldP, target := u.lamp.target, fanStall := u.lamp.fanStall }
  stillWear : Still s → u.wear = { s.wear with lifeHold := u.wear.lifeHold }
  stillClaims : Still s → u.claims = s.claims

namespace SettleKeeps

theorem refl (s : State) : SettleKeeps s s :=
  ⟨rfl, id, id, id, fun _ h _ => h, id, fun _ => rfl, fun _ => rfl, fun _ => rfl⟩

theorem trans {t : State} (h : SettleKeeps s t) (k : SettleKeeps t u) : SettleKeeps s u where
  lamp := k.lamp.trans h.lamp
  coolDown e := k.coolDown (h.coolDown e)
  relight e := h.relight (k.relight e)
  selection e := k.selection (h.selection e)
  queue e he hp := k.queue e (h.queue e he hp) hp
  still e := k.still (h.still e)
  stillLamp e := by rw [k.stillLamp (h.still e), h.stillLamp e]
  stillWear e := by rw [k.stillWear (h.still e), h.stillWear e]
  stillClaims e := by rw [k.stillClaims (h.still e), h.stillClaims e]

end SettleKeeps

theorem still_of_state (h : Still s) (hs : u.lamp.state = s.lamp.state)
    (hc : startConditions s = false → startConditions u = false) : Still u := by
  unfold Still at *; rw [hs]; tauto

theorem mem_releaseClaim {e : QueueEntry} (h : e ∈ s.line.queue) (hp : e.payload ≠ .claim) :
    e ∈ (releaseClaim s).line.queue := by
  have hw : e ∈ (withdrawClaims s.line).queue := by
    unfold withdrawClaims
    refine List.mem_map.mpr ⟨e, List.mem_filter.mpr ⟨h, by simp [hp]⟩, if_neg (by simpa using hp)⟩
  change e ∈ (handOver .release (withdrawClaims s.line)).queue
  rw [handOver_queue]
  split
  · exact List.mem_append_left _ hw
  · exact hw

/-- A lamp that is not lit-side loses its wish, or its claim, alone (R13). -/
theorem unwanted_keeps (hl : litSide s.lamp.state = false) : SettleKeeps s (unwanted s) := by
  unfold unwanted
  cases hs : s.lamp.state with
  | striking | warming | lit => rw [hs] at hl; cases hl
  | dark | fault => exact .refl s
  | waiting =>
    have hstill : ¬Still s := by simp [Still, hs]
    exact ⟨rfl, id, id, id, fun e h hp => mem_releaseClaim h hp, fun h => absurd h hstill, fun h => absurd h hstill,
      fun h => absurd h hstill, fun h => absurd h hstill⟩
  | cooling => exact ⟨rfl, id, nofun, id, fun _ h _ => h, fun _ => .inl hs, fun _ => rfl, fun _ => rfl, fun _ => rfl⟩

theorem clearSelection_keeps (s : State) : SettleKeeps s (clearSelection s) :=
  ⟨rfl, id, id, fun _ => rfl, fun _ h _ => h,
    fun h => still_of_state h rfl fun _ => startConditions_unwanted (by simp [wanted, clearSelection]),
    fun _ => rfl, fun _ => rfl, fun _ => rfl⟩

theorem lifeJudge_keeps (s : State) : SettleKeeps s (lifeJudge s) := by
  rcases lifeJudge_cases s with ⟨b, h, -⟩ | ⟨hl, -, h⟩
  · rw [h]
    exact ⟨rfl, id, id, id, fun _ h _ => h, fun h => h, fun _ => rfl, fun _ => rfl, fun _ => rfl⟩
  · rw [h]
    set t := (s.setWear { s.wear with lifeHold := false }).setLocks (withoutHolder .wear s.locks ++ [wearLock]) with ht
    have hlocked : lampLocked t.locks = true := lampLocked_append rfl _
    have hset : SettleKeeps s t := ⟨rfl, id, id, id, fun _ h _ => h,
      fun h => still_of_state h rfl fun _ => startConditions_locked hlocked, fun _ => rfl, fun _ => rfl, fun _ => rfl⟩
    exact (hset.trans (unwanted_keeps hl)).trans (clearSelection_keeps _)

theorem mem_send {e : QueueEntry} {p : Payload} (h : e ∈ s.line.queue) : e ∈ (send p s).line.queue := by
  change e ∈ (handOver p s.line).queue
  rw [handOver_queue]; split
  · exact List.mem_append_left _ h
  · exact h

theorem startTest_keeps (s : State) : SettleKeeps s (startTest s) := by
  unfold startTest
  split
  · next h =>
    have hstill : ¬Still s := by simp [Still, h]
    exact ⟨rfl, fun _ => rfl, nofun, id, fun e he _ => mem_send he, fun h => absurd h hstill, fun h => absurd h hstill,
      fun h => absurd h hstill, fun h => absurd h hstill⟩
  · exact .refl s

theorem strikeTest_keeps (s : State) : SettleKeeps s (strikeTest s) := by
  have hbegin (hs : ¬Still s) : SettleKeeps s (beginAttempt s) :=
    ⟨rfl, id, id, id, fun _ h _ => h, fun h => absurd h hs, fun h => absurd h hs, fun h => absurd h hs, fun h => absurd h hs⟩
  unfold strikeTest
  cases hs : s.lamp.state with
  | waiting =>
    simp only; split
    · exact hbegin (by simp [Still, hs])
    · exact .refl s
  | striking p =>
    cases p with
    | attempt => exact .refl s
    | gap =>
      simp only; split
      · exact hbegin (by simp [Still, hs])
      · exact .refl s
  | dark | warming | lit | cooling | fault => exact .refl s

theorem judgeGroup_keeps (s : State) : SettleKeeps s (judgeGroup s) := by
  rw [judgeGroup_spec]
  exact ⟨rfl, id, id, id, fun _ h _ => h, fun h => h, fun _ => rfl, fun _ => rfl, fun _ => rfl⟩

theorem withdrawTest_keeps (b s : State) : SettleKeeps s (withdrawTest b s) := by
  rcases withdrawTest_cases b s with h | ⟨-, hs, h⟩
  · rw [h]; exact .refl s
  · rw [h]
    split
    · exact clearSelection_keeps s
    · have hl : litSide s.lamp.state = false := by rcases hs with e | e | e <;> rw [e] <;> rfl
      exact (clearSelection_keeps s).trans (unwanted_keeps hl)

theorem retarget_keeps (s : State) : SettleKeeps s (retarget s) := by
  rw [retarget_eq]
  exact ⟨rfl, id, id, id, fun _ h _ => h, fun h => h, fun _ => rfl, fun _ => rfl, fun _ => rfl⟩

theorem fanStallJudge_keeps (s : State) : SettleKeeps s (fanStallJudge s) :=
  ⟨rfl, id, id, id, fun _ h _ => h, fun h => h, fun _ => rfl, fun _ => rfl, fun _ => rfl⟩

theorem idleJudge_keeps (s : State) : SettleKeeps s (idleJudge s) :=
  ⟨rfl, id, id, id, fun _ h _ => h, fun h => h, fun _ => rfl, fun _ => rfl, fun _ => rfl⟩

theorem beaconJudge_keeps (b s : State) : SettleKeeps s (beaconJudge b s) := by
  have hq : ∀ e ∈ s.line.queue, e.payload ≠ .claim → e ∈ (beaconJudge b s).line.queue := by
    intro e he _
    unfold beaconJudge
    split
    · exact he
    · exact mem_beaconDue he
  rw [beaconJudge_eq] at hq ⊢
  exact ⟨rfl, id, id, id, hq, fun h => h, fun _ => rfl, fun _ => rfl, fun _ => rfl⟩

/-- What the settling of a step keeps. -/
theorem settle_keeps (b s : State) : SettleKeeps s (settle b s) :=
  (lifeJudge_keeps s).trans <| (startTest_keeps _).trans <| (strikeTest_keeps _).trans <| (lifeJudge_keeps _).trans <|
    (judgeGroup_keeps _).trans <| (withdrawTest_keeps b _).trans <| (judgeGroup_keeps _).trans <|
    (retarget_keeps _).trans <| (fanStallJudge_keeps _).trans <| (idleJudge_keeps _).trans (beaconJudge_keeps b _)

/-! ### Commands whose effect the settling does not read -/

/-- A command that changes nothing the settling reads and no cause of a beacon is its own effect. -/
theorem finish_quiet {op : State → State} (h : Settled s) (q : Quiet s (op s))
    (hc : beaconCauses s = beaconCauses (op s)) : finish op s = .next (op s) := by
  unfold finish
  rw [settle_quiet h q, beaconJudge_same hc]

/-- Alone in its group a station does not withdraw: the settling starts the lamp, or leaves it. -/
theorem settle_alone (h1 : lifeJudge s = s) (h2 : startTest s = u) (h3 : strikeTest u = u) (h4 : lifeJudge u = u)
    (h5 : committedPeers u = []) :
    settle b s = beaconJudge b (idleJudge (fanStallJudge (retarget (judgeGroup u)))) := by
  have hpeers : committedPeers (judgeGroup u) = [] := by rw [judgeGroup_spec]; exact h5
  unfold settle
  simp only [h1, h2, h3, h4, withdrawTest_alone hpeers, judgeGroup_idem]

theorem lastJudgements_lamp (b s : State) :
    (beaconJudge b (idleJudge (fanStallJudge (retarget (judgeGroup s))))).lamp =
      { s.lamp with
        heldP := judgedHeldP s
        target := (retarget (judgeGroup s)).lamp.target
        fanStall := (fanStallJudge (retarget (judgeGroup s))).lamp.fanStall } := by
  rw [beaconJudge_eq, retarget_eq, judgeGroup_spec]; rfl

/-! ### The wear over an extinction (R11, R36) -/

theorem requestWrite_wear (s : State) : (requestWrite s).wear =
    { s.wear with
      write := (requestWrite s).wear.write
      writeAgain := (requestWrite s).wear.writeAgain
      outcome := (requestWrite s).wear.outcome } := by
  unfold requestWrite startWrite
  (repeat' split) <;> rfl

theorem extinguish_wear (n : LampState) (s : State) : (extinguish n s).wear =
    { s.wear with
      litTime := if burning s.lamp.state = true then 0 else s.wear.litTime
      write := (extinguish n s).wear.write
      writeAgain := (extinguish n s).wear.writeAgain
      outcome := (extinguish n s).wear.outcome } := by
  unfold extinguish
  cases s.lamp.state with
  | warming | lit => simp only [burning, if_true, reportExtinction]; rw [requestWrite_wear]; rfl
  | striking | dark | waiting | cooling | fault => rfl

end Sys2Proof.Machine
end

section
/-! ## The commands of Lamp Control (01) -/

namespace Sys2Proof.Machine

variable {s u b : State}

/-! ### LIT_SENSE (R7 to R9) -/

theorem inStrike_iff {l : LampState} : inStrike l = true ↔ ∃ p, l = .striking p := by
  cases l with
  | striking p => cases p <;> simp [inStrike]
  | dark | waiting | warming | lit | cooling | fault => simp [inStrike]

/-- The state in which lit sense has brought a lamp out of STRIKING (R7 to R9). -/
def struck (s : State) : State :=
  (((s.setPins { s.pins with litSense := true }).setClaims
    (s.claims.filter fun c => c.claimant != s.straps.number)).setLamp
      { s.lamp with
        state := .warming, litWait := none, retryGap := none, renewal := none, actual := s.lamp.cap
        warmUp := some (s.settings.warmUp * 1000) }).setLine (handOver .release (withdrawClaims s.line))

theorem litSenseArrives_striking {p : Phase} (hs : s.lamp.state = .striking p) : litSenseArrives s = struck s := by
  unfold litSenseArrives
  simp only [State.setPins_lamp, hs]
  rfl

theorem litSenseArrives_other (hs : inStrike s.lamp.state = false) :
    litSenseArrives s = s.setPins { s.pins with litSense := true } := by
  unfold litSenseArrives
  cases h : s.lamp.state with
  | striking p => rw [h] at hs; cases p <;> cases hs
  | dark | waiting | warming | lit | cooling | fault => simp only [State.setPins_lamp, h]

/-- The pin of lit sense is read by no judgement of the settling. -/
theorem litSense_quiet (s : State) (x : Bool) : Quiet s (s.setPins { s.pins with litSense := x }) :=
  ⟨rfl, rfl, rfl, rfl, rfl, rfl, rfl, rfl, rfl, rfl, rfl, rfl, rfl, rfl, rfl, rfl, rfl⟩

/-- A lit-side lamp drives the fan whatever its timers (R2). -/
theorem fanDriven_litSide {l : Lamp} (h : litSide l.state = true) : fanDriven l = true := by
  unfold fanDriven; cases hs : l.state <;> simp_all [litSide]

/-- Settles O32: nothing that the settling judges changes with the lamp's coming from STRIKING into WARMING. -/
theorem litSenseEntersWarming : Obligations.LitSenseEntersWarming := by
  intro s h
  refine ⟨fun hs => ?_, fun hs => ?_⟩
  · obtain ⟨p, hp⟩ := inStrike_iff.mp hs
    obtain ⟨-, -, -, -, -, hfan, -⟩ := id h
    have hlit : litSide s.lamp.state = true := by rw [hp]; rfl
    have r : SameSide s (struck s) := ⟨rfl, rfl, rfl, rfl, rfl, rfl, rfl, rfl, by rw [hlit]; rfl, by rw [hp]; rfl⟩
    have hdriven : fanDriven (struck s).lamp = fanDriven s.lamp :=
      (fanDriven_litSide rfl).trans (fanDriven_litSide hlit).symm
    have hsettle : settle s (struck s) = beaconJudge s (struck s) :=
      settle_fixed (r.life h) (if_neg nofun) rfl (r.judgeGroup h) (withdrawTest_state ⟨nofun, nofun, nofun⟩)
        (if_neg nofun) (fanStallJudge_congr hfan rfl hdriven rfl) (r.idleJudge h)
    change Host.Outcome.next (settle s (litSenseArrives s)) = _
    rw [litSenseArrives_striking hp, hsettle]
    rfl
  · have hop := litSenseArrives_other hs
    refine (finish_quiet (op := litSenseArrives) h ?_ ?_).trans (by rw [hop])
    · rw [hop]; exact litSense_quiet s true
    · rw [hop]; rfl

end Sys2Proof.Machine
end

section
/-! ## Faults and dropouts (01) -/

namespace Sys2Proof.Machine

variable {s u b : State}

/-- A strike begins from WAITING and from the retry gap alone (R6, R8). -/
theorem strikeTest_idle (h : s.lamp.state ≠ .waiting ∧ s.lamp.state ≠ .striking .gap) : strikeTest s = s := by
  unfold strikeTest
  cases hs : s.lamp.state with
  | striking p => cases p <;> simp_all
  | dark | waiting | warming | lit | cooling | fault => simp_all

/-! ### A fault latched (R21) -/

theorem ownClaimed_releaseClaim (s : State) : ownClaimed (releaseClaim s) = false := by
  simp [ownClaimed, releaseClaim]

theorem ownClaimed_extinguish {p : Phase} (n : LampState) (h : s.lamp.state = .striking p) :
    ownClaimed (extinguish n s) = false := by
  unfold extinguish
  simp only [h]
  exact ownClaimed_releaseClaim s

theorem settings_extinguish (n : LampState) (s : State) : (extinguish n s).settings = s.settings :=
  (congrArg State.settings (outside_extinguish n s) :)

theorem FaultEntered.congr {v : State} (h : FaultEntered v u) (hl : v.lamp.state = s.lamp.state)
    (hs : v.settings = s.settings) (hw : v.wear = s.wear) : FaultEntered s u := by
  unfold FaultEntered at *
  rwa [← hl, ← hs, ← hw]

/-- What the settling leaves in FAULT is the lamp that entered it. -/
theorem FaultEntered.settle (b : State) (h : FaultEntered s u) : FaultEntered s (settle b u) := by
  obtain ⟨hstate, hcool, hrelight, hattempts, hselection, hclaim, hlit, hburning, haccumulator⟩ := h
  have k := settle_keeps b u
  have hstill : Still u := .inr (.inl hstate)
  have hlamp := k.stillLamp hstill
  have hwear := k.stillWear hstill
  have hclaimed : ownClaimed (Machine.settle b u) = ownClaimed u := by
    unfold ownClaimed; rw [k.stillClaims hstill, settle_straps]
  have hunlit : (Machine.settle b u).lamp.relight = false := by
    by_contra hn; rw [k.relight (by simpa using hn)] at hrelight; cases hrelight
  unfold FaultEntered
  rw [hclaimed, hunlit, k.selection hselection, hlamp, hwear]
  exact ⟨hstate, hcool, rfl, hattempts, rfl, hclaim, hlit, hburning, haccumulator⟩

/-- A lamp put out into FAULT (R12, R21). -/
theorem faultEntered_extinguish (hlit : litSide s.lamp.state = true) :
    FaultEntered s (intoFault (extinguish .fault s)) := by
  have hclaim (hc : claiming s.lamp.state = true) :
      ownClaimed (extinguish .fault s) = false ∧ (extinguish .fault s).lamp.renewal = none := by
    obtain ⟨p, hp⟩ : ∃ p, s.lamp.state = .striking p := by
      cases hs : s.lamp.state with
      | striking p => exact ⟨p, rfl⟩
      | waiting => rw [hs] at hlit; cases hlit
      | warming | lit | dark | cooling | fault => rw [hs] at hc; cases hc
    exact ⟨ownClaimed_extinguish .fault hp, by rw [extinguish_lamp, hp]; rfl⟩
  have hwear := extinguish_wear .fault s
  refine ⟨rfl, by simp [intoFault, clearSelection, settings_extinguish], rfl, rfl, rfl, hclaim, fun _ => ?_,
    fun hb => ?_, ?_⟩
  · simp only [intoFault, clearSelection_lamp, State.setLamp_lamp, extinguish_lamp]
    exact ⟨rfl, rfl, rfl, rfl, rfl⟩
  · exact (congrArg Wear.litTime hwear).trans (if_pos hb)
  · exact (congrArg Wear.accumulator hwear :)

/-- A fault latched outside FAULT puts the lamp there (R21). -/
theorem latchFault_enters (f : LampFault) (h : s.lamp.state ≠ .fault) : FaultEntered s (latchFault f s) := by
  rw [latchFault_entered f h]
  unfold outForFault
  cases hs : (withFault f s).lamp.state with
  | fault => exact absurd hs h
  | dark | cooling =>
    have hs' : s.lamp.state = _ := hs
    exact ⟨rfl, rfl, rfl, rfl, rfl, by rw [hs']; nofun, by rw [hs']; nofun, by rw [hs']; nofun, rfl⟩
  | waiting =>
    have hs' : s.lamp.state = _ := hs
    exact ⟨rfl, rfl, rfl, rfl, rfl, fun _ => ⟨ownClaimed_releaseClaim _, rfl⟩, by rw [hs']; nofun, by rw [hs']; nofun, rfl⟩
  | striking | warming | lit =>
    exact (faultEntered_extinguish (s := withFault f s) (by rw [hs]; rfl)).congr rfl rfl rfl

theorem latchFault_faults (f : LampFault) (s : State) : (latchFault f s).lamp.faults = addFault f s.lamp.faults ∧
    (latchFault f s).lamp.temperature = s.lamp.temperature := by
  by_cases h : s.lamp.state = .fault
  · rw [latchFault_again f h]; exact ⟨rfl, rfl⟩
  · rw [latchFault_entered f h]
    unfold outForFault
    cases (withFault f s).lamp.state with
    | dark | waiting | cooling | fault => exact ⟨rfl, rfl⟩
    | striking | warming | lit =>
      simp only [intoFault, clearSelection_lamp, State.setLamp_lamp, extinguish_lamp]
      exact ⟨rfl, rfl⟩

theorem latchFault_state (f : LampFault) (s : State) : (latchFault f s).lamp.state = .fault := by
  by_cases h : s.lamp.state = .fault
  · rw [latchFault_again f h]; exact h
  · exact (latchFault_enters f h).1

theorem latchFault_coolDown (f : LampFault) (s : State) :
    (latchFault f s).lamp.coolDown = some (s.settings.coolDown * 1000) := by
  by_cases h : s.lamp.state = .fault
  · rw [latchFault_again f h]; rfl
  · obtain ⟨-, hcool, -⟩ := latchFault_enters f h
    exact hcool

/-- What a fault latched by a command leaves at the end of its step. -/
theorem settle_latchFault (b : State) (f : LampFault) (s : State) :
    (settle b (latchFault f s)).lamp.faults = addFault f s.lamp.faults ∧
    (settle b (latchFault f s)).lamp.state = .fault ∧
    (settle b (latchFault f s)).lamp.coolDown = some (s.settings.coolDown * 1000) ∧
    (settle b (latchFault f s)).lamp.temperature = s.lamp.temperature := by
  have hstate := latchFault_state f s
  have hlamp := (settle_keeps b (latchFault f s)).stillLamp (.inr (.inl hstate))
  rw [hlamp]
  obtain ⟨hfaults, htemperature⟩ := latchFault_faults f s
  exact ⟨hfaults, hstate, latchFault_coolDown f s, htemperature⟩

/-- A command whose change of `s` to `u` latches a fault enters FAULT by it. -/
theorem settle_latchFault_enters (b : State) (f : LampFault) (hn : s.lamp.state ≠ .fault)
    (hl : u.lamp.state = s.lamp.state) (hs : u.settings = s.settings) (hw : u.wear = s.wear) :
    FaultEntered s (settle b (latchFault f u)) :=
  ((latchFault_enters f (by rwa [hl])).settle b).congr hl hs hw

/-! ### DROPOUT (R12, R16) -/

/-- The lamp after a first dropout (R16). -/
theorem dropsOut_lamp (hb : burning s.lamp.state = true) (hw : s.lamp.dropoutWindow = none) : (dropsOut s).lamp =
    { darkened s .cooling with relight := true, dropoutWindow := some 600000 } := by
  unfold dropsOut
  rw [if_neg (by rw [hw]; decide)]
  simp only [State.setLamp_lamp, extinguish_lamp, hb, Bool.not_true, Bool.and_false]
  rfl

theorem dropsOut_again (hw : s.lamp.dropoutWindow.isSome = true) : dropsOut s = latchFault .dropout s := if_pos hw

theorem dropsOut_first (hw : s.lamp.dropoutWindow = none) : dropsOut s =
    (extinguish .cooling s).setLamp
      { (extinguish .cooling s).lamp with relight := true, dropoutWindow := some 600000 } :=
  if_neg (by rw [hw]; decide)

theorem litSenseLost_burning (hb : burning s.lamp.state = true) :
    litSenseLost s = dropsOut (s.setPins { s.pins with litSense := false }) := if_pos hb

theorem litSenseLost_other (hb : burning s.lamp.state = false) :
    litSenseLost s = s.setPins { s.pins with litSense := false } :=
  if_neg fun h => absurd (hb.symm.trans h) (by decide)

theorem committedPeers_outside (h : outside u = outside s) : committedPeers u = committedPeers s := by
  have hpeers : u.peers = s.peers := (congrArg State.peers h :)
  have hsettings : u.settings = s.settings := (congrArg State.settings h :)
  unfold committedPeers peerMembers; rw [hpeers, hsettings]

/-- Alone and short of the life limit, a lamp relights after a first dropout (R16, R39). -/
theorem settle_dropsOut_relight (h : LifeJudged s) (hb : burning s.lamp.state = true) (hw : s.lamp.dropoutWindow = none)
    (hpeers : committedPeers s = []) (hhold : s.wear.lifeHold = false) (b : State) :
    (settle b (dropsOut s)).lamp.relight = true := by
  have hlamp := dropsOut_lamp hb hw
  have hreached : lifeReached s = false := by
    by_contra hr
    obtain ⟨hset, -⟩ := h (by rw [Bool.not_eq_false] at hr; rw [hr]; rfl)
    rw [hset (litSide_of_burning hb)] at hhold; cases hhold
  have hlife : lifeJudge (dropsOut s) = dropsOut s := by
    refine lifeJudge_fixed.mpr fun hj => absurd hj ?_
    have hw' : (dropsOut s).wear = (extinguish .cooling s).wear := by rw [dropsOut_first hw]; rfl
    have hset : (dropsOut s).settings = s.settings := by rw [dropsOut_first hw]; exact settings_extinguish _ _
    unfold lifeReached wearHours at hreached ⊢
    rw [hw', hset, extinguish_wear]
    simp only [hreached, hhold, Bool.or_self]; decide
  have hstate : (dropsOut s).lamp.state = .cooling := by rw [hlamp]; rfl
  have halone : committedPeers (dropsOut s) = [] := by
    rw [committedPeers_outside (s := s) (by simp [dropsOut_first hw]), hpeers]
  have hstart : startTest (dropsOut s) = dropsOut s := startTest_fixed.mpr (by rw [hstate]; nofun)
  have hstrike : strikeTest (dropsOut s) = dropsOut s := strikeTest_idle (by rw [hstate]; exact ⟨nofun, nofun⟩)
  rw [settle_alone hlife hstart hstrike hlife halone, lastJudgements_lamp, hlamp]

/-- Settles O33: the settling leaves a lamp in COOLING and in FAULT where it is. -/
theorem dropoutsRelightOnce : Obligations.DropoutsRelightOnce := by
  intro s h
  refine ⟨fun hb hw => ⟨_, rfl, ?_⟩, fun hb hw => ⟨_, rfl, ?_⟩, fun hb => ?_⟩
  · have hop := litSenseLost_burning hb
    set v := s.setPins { s.pins with litSense := false }
    have hlamp : (dropsOut v).lamp = _ := dropsOut_lamp hb hw
    have hwear : (dropsOut v).wear = (extinguish .cooling v).wear := by rw [dropsOut_first (s := v) hw]; rfl
    have hstill : Still (dropsOut v) := .inl (by rw [hlamp]; rfl)
    have k := settle_keeps s (dropsOut v)
    rw [hop, k.stillLamp hstill, hlamp, k.stillWear hstill, hwear, extinguish_wear]
    refine ⟨rfl, rfl, rfl, rfl, rfl, rfl, fun ⟨hpeers, _⟩ hhold => ?_, rfl, if_pos hb, rfl, ?_⟩
    · exact settle_dropsOut_relight (s := v) ((lifeJudge_fixed.mp h.1).congr rfl rfl rfl rfl) hb hw hpeers hhold s
    · simp [dropsOut_first (s := v) hw]
  · rw [litSenseLost_burning hb, dropsOut_again (s := s.setPins { s.pins with litSense := false }) hw]
    have hnot : s.lamp.state ≠ .fault := fun e => by rw [e] at hb; cases hb
    obtain ⟨hstate, hcool, hrelight, hattempts, hselection, -, hlit, hburning, -⟩ :=
      settle_latchFault_enters s .dropout (u := s.setPins { s.pins with litSense := false }) hnot rfl rfl rfl
    obtain ⟨hrestrike, hactual, -⟩ := hlit (litSide_of_burning hb)
    exact ⟨hstate, (settle_latchFault s .dropout _).1, hactual, hrelight, hattempts, hselection, hrestrike, hcool,
      hburning hb, by simp⟩
  · refine (finish_quiet (op := litSenseLost) h ?_ ?_).trans ?_ <;> rw [litSenseLost_other hb]
    · exact litSense_quiet s false
    · rfl

end Sys2Proof.Machine
end

section
/-! ## The causes of a fault (01, R17 to R21) -/

namespace Sys2Proof.Machine

variable {s u b : State}

theorem fanStalls_latches (ht : s.lamp.fanStall.isSome = true) (hf : s.lamp.faults.fan = false) :
    fanStalls s = latchFault .fan (s.setLamp { s.lamp with fanStall := none }) := by
  unfold fanStalls
  rw [if_pos ht]
  exact if_neg (by simp [hf])

theorem fanStalls_again (ht : s.lamp.fanStall.isSome = true) (hf : s.lamp.faults.fan = true) :
    fanStalls s = s.setLamp { s.lamp with fanStall := none } := by
  unfold fanStalls
  rw [if_pos ht]
  exact if_pos hf

/-- With FAN latched the fan stall timer of 5 s starts again, and nothing else changes (R20; log 27). -/
theorem finish_fanStalls_again (h : Settled s) (hf : s.lamp.faults.fan = true) (ht : s.lamp.fanStall = some 5000) :
    finish fanStalls s = .next s := by
  obtain ⟨-, -, -, -, hretarget, hfan, -⟩ := id h
  have hop := fanStalls_again (by rw [ht]; rfl) hf
  have htarget : retarget (s.setLamp { s.lamp with fanStall := none }) = s.setLamp { s.lamp with fanStall := none } :=
    retarget_congr hretarget rfl rfl rfl rfl rfl
  have hruns : (fanDriven s.lamp && s.pins.tacho == .stalled) = true := by
    rw [← fanStallJudge_fixed.mp hfan, ht]; rfl
  have hback : fanStallJudge (s.setLamp { s.lamp with fanStall := none }) = s := by
    have hagain : fanStallJudge (s.setLamp { s.lamp with fanStall := none }) =
        s.setLamp { s.lamp with fanStall := some 5000 } := by
      unfold fanStallJudge
      have hdriven : fanDriven { s.lamp with fanStall := none } = fanDriven s.lamp := rfl
      simp only [State.setLamp_lamp, State.setLamp_pins, State.setLamp_setLamp, hdriven, hruns]
      rfl
    rw [hagain, ← ht]
    rfl
  unfold finish
  rw [hop, settle_setLamp (x := { s.lamp with fanStall := none }) h rfl rfl rfl rfl, htarget, hback, beaconJudge_same rfl]

theorem supplyFails_latches (hl : litSide s.lamp.state = true) :
    supplyFails s = latchFault .supply (s.setPins { s.pins with supplyLow := true }) := if_pos hl

theorem supplyFails_other (hl : litSide s.lamp.state = false) :
    supplyFails s = s.setPins { s.pins with supplyLow := true } :=
  if_neg fun h => absurd (hl.symm.trans h) (by decide)

/-- Supply-low starts and strikes no lamp (R4, R6). -/
theorem settle_supplyLow (h : Settled s) (hl : litSide s.lamp.state = false) :
    settle s (s.setPins { s.pins with supplyLow := true }) = s.setPins { s.pins with supplyLow := true } := by
  obtain ⟨-, -, -, -, hretarget, hfan, -⟩ := id h
  set v := s.setPins { s.pins with supplyLow := true } with hv
  have r : SameSide s v := ⟨rfl, rfl, rfl, rfl, rfl, rfl, rfl, rfl, rfl, rfl⟩
  have hstart : startTest v = v := startTest_fixed.mpr fun ⟨_, hc⟩ => by simp [startConditions, hv] at hc
  have hstrike : strikeTest v = v := by
    refine strikeTest_fixed.mpr ⟨fun _ ⟨_, _, hp⟩ => ?_, fun hg => ?_⟩
    · simp [hv] at hp
    · rw [show s.lamp.state = .striking .gap from hg] at hl; cases hl
  have htarget : retarget v = v := retarget_congr hretarget rfl rfl rfl rfl rfl
  have hstall : fanStallJudge v = v := fanStallJudge_congr hfan rfl rfl rfl
  rw [settle_sameSide h r hstart hstrike (withdrawTest_same rfl), htarget, hstall]
  exact beaconJudge_same rfl

theorem sampled_lamp (r : Sensor) (s : State) :
    (sampled r s).lamp.state = s.lamp.state ∧ (sampled r s).lamp.faults = s.lamp.faults := by
  unfold sampled
  simp only [State.setLamp_lamp, putCap_eq]
  split <;> exact ⟨rfl, rfl⟩

/-- Settles O34: each cause latches its fault, or leaves what the settling does not act on. -/
theorem faultsPutTheLampOut : Obligations.FaultsPutTheLampOut := by
  intro s reading h
  refine ⟨fun ht hf => ⟨_, rfl, ?_⟩, fun hf ht => ?_, fun hl => ⟨_, rfl, ?_⟩, fun hl => ?_, fun hx => ⟨_, rfl, ?_⟩⟩
  · rw [fanStalls_latches ht hf]
    obtain ⟨hfaults, hstate, hcool, -⟩ := settle_latchFault s .fan (s.setLamp { s.lamp with fanStall := none })
    exact ⟨hfaults, by simp, hstate, hcool, fun hn => settle_latchFault_enters s .fan hn rfl rfl rfl⟩
  · cases hn : s.lamp.fanStall with
    | none => exact finish_unchanged h (if_neg (by rw [hn]; nofun))
    | some n =>
      obtain rfl : n = 5000 := ht n hn
      exact finish_fanStalls_again h hf hn
  · rw [supplyFails_latches hl]
    have hnot : s.lamp.state ≠ .fault := fun e => by rw [e] at hl; cases hl
    exact ⟨(settle_latchFault s .supply _).1, settle_latchFault_enters s .supply hnot rfl rfl rfl, by simp⟩
  · change Host.Outcome.next (settle s (supplyFails s)) = _
    rw [supplyFails_other hl, settle_supplyLow h hl]
  · have hop : takeSample reading s = latchFault .thermal (sampled reading s) := if_pos hx
    rw [hop]
    obtain ⟨hfaults, hstate, hcool, htemperature⟩ := settle_latchFault s .thermal (sampled reading s)
    obtain ⟨hstate', hfaults'⟩ := sampled_lamp reading s
    exact ⟨by rw [hfaults, hfaults']; rfl, by simp [sampled], hstate, hcool,
      fun hn => settle_latchFault_enters s .thermal hn hstate' rfl rfl, htemperature⟩

end Sys2Proof.Machine
end

section
/-! ## Warm-up, ramp, windows and wear (01, 02) -/

namespace Sys2Proof.Machine

variable {s u b : State}

/-! ### Timers of a lamp that stays where it is (R10, R16, R23) -/

/-- A step in the lamp's state that moves no target is settled but for the fan stall timer. -/
theorem settle_setLamp_target {x : Lamp} (h : Settled s) (hstate : x.state = s.lamp.state)
    (hfaults : x.faults = s.lamp.faults) (hcap : x.cap = s.lamp.cap) (hgap : x.retryGap = s.lamp.retryGap)
    (htarget : x.target = s.lamp.target) (hheld : x.heldP = s.lamp.heldP) :
    settle s (s.setLamp x) = beaconJudge s (fanStallJudge (s.setLamp x)) := by
  obtain ⟨-, -, -, -, hretarget, -⟩ := id h
  rw [settle_setLamp h hstate hfaults hcap hgap, retarget_congr (u := s.setLamp x) hretarget hstate htarget hcap hheld rfl]

/-- The same with the fan driven as it was: the step is settled. -/
theorem settle_setLamp_still {x : Lamp} (h : Settled s) (hstate : x.state = s.lamp.state)
    (hfaults : x.faults = s.lamp.faults) (hcap : x.cap = s.lamp.cap) (hgap : x.retryGap = s.lamp.retryGap)
    (htarget : x.target = s.lamp.target) (hheld : x.heldP = s.lamp.heldP) (hfan : x.fanStall = s.lamp.fanStall)
    (hdriven : fanDriven x = fanDriven s.lamp) : settle s (s.setLamp x) = beaconJudge s (s.setLamp x) := by
  obtain ⟨-, -, -, -, -, hstall, -⟩ := id h
  rw [settle_setLamp_target h hstate hfaults hcap hgap htarget hheld,
    fanStallJudge_congr (u := s.setLamp x) hstall hfan hdriven rfl]

/-- The state with the warm-up ended (R9, R10). -/
theorem settle_warmUpExpired (h : Settled s) (hs : s.lamp.state = .warming) (hw : s.lamp.warmUp.isSome = true) :
    settle s (warmUpExpired s) = beaconJudge s (s.setLamp
      { s.lamp with
        state := .lit, warmUp := none, target := clamp s.settings.pMin s.lamp.cap s.lamp.heldP }) := by
  obtain ⟨-, -, -, -, -, hstall, -⟩ := id h
  have hop : warmUpExpired s = s.setLamp { s.lamp with state := .lit, warmUp := none } := if_pos ⟨hs, hw⟩
  have r : SameSide s (s.setLamp { s.lamp with state := .lit, warmUp := none }) :=
    ⟨rfl, rfl, rfl, rfl, rfl, rfl, rfl, rfl, by rw [hs]; rfl, by rw [hs]; rfl⟩
  have hdriven (x : Lamp) (hx : x.state = .lit) : fanDriven x = fanDriven s.lamp :=
    (fanDriven_litSide (by rw [hx]; rfl)).trans (fanDriven_litSide (by rw [hs]; rfl)).symm
  rw [hop, settle_sameSide h r (startTest_fixed.mpr nofun) (strikeTest_idle ⟨nofun, nofun⟩)
    (withdrawTest_state ⟨nofun, nofun, nofun⟩)]
  refine congrArg (beaconJudge s) (fanStallJudge_congr hstall rfl (hdriven _ rfl) rfl)

/-- With the fan test ended the fan follows R2, and its stall timer with it (R23). -/
theorem fanTestEnds_fanStall (h : Settled s) :
    let u := fanStallJudge (fanTestEnds s)
    (fanDriven u.lamp = true → u.lamp.fanStall = s.lamp.fanStall) ∧
    (fanDriven u.lamp = false → u.lamp.fanStall = none) := by
  obtain ⟨-, -, -, -, -, hstall, -⟩ := h
  have hruns := fanStallJudge_fixed.mp hstall
  intro u
  have hu : u.lamp.fanStall = runWhile (fanDriven u.lamp && s.pins.tacho == .stalled) 5000 s.lamp.fanStall := rfl
  refine ⟨fun hd => ?_, fun hd => ?_⟩
  · have hs : fanDriven s.lamp = true := by
      have hd' : (none.isSome || _) = true := hd
      exact Bool.or_eq_true_iff.mpr (.inr hd')
    rw [hu, hd, runWhile_fixed, hruns, hs]
  · rw [hu, hd]; rfl

/-- Settles O36: the lamp stays on its side, and the settling sets the target and the fan stall timer. -/
theorem warmUpRampAndWindows : Obligations.WarmUpRampAndWindows := by
  intro s h
  refine ⟨fun hs hw => congrArg _ (settle_warmUpExpired h hs hw), fun hn => finish_unchanged h (if_neg (by grind)),
    fun hs => ?_, fun hs => finish_unchanged h (if_neg hs), ?_, ?_⟩
  · have hop : rampOnce s = s.setLamp { s.lamp with actual := rampToward s.lamp.target s.lamp.actual } := if_pos hs
    change Host.Outcome.next (settle s (rampOnce s)) = _
    rw [hop]
    exact congrArg _ (settle_setLamp_still (x := { s.lamp with actual := rampToward s.lamp.target s.lamp.actual }) h
      rfl rfl rfl rfl rfl rfl rfl rfl)
  · change Host.Outcome.next (settle s (s.setLamp { s.lamp with dropoutWindow := none })) = _
    rw [settle_setLamp_still (x := { s.lamp with dropoutWindow := none }) h rfl rfl rfl rfl rfl rfl rfl rfl]
    exact congrArg _ (beaconJudge_same rfl)
  · have hsettle : settle s (fanTestEnds s) = fanStallJudge (fanTestEnds s) :=
      (settle_setLamp_target (x := { s.lamp with fanTest := none }) h rfl rfl rfl rfl rfl rfl).trans (beaconJudge_same rfl)
    exact ⟨fanStallJudge (fanTestEnds s), congrArg Host.Outcome.next hsettle, rfl, fanTestEnds_fanStall h⟩

/-! ### Lit seconds (R11, R30, R36, R39) -/

/-- The life limit sets the hold of a lit-side lamp (R39). -/
theorem lifeJudge_litSide (hl : litSide s.lamp.state = true) :
    lifeJudge s = s.setWear { s.wear with lifeHold := lifeReached s || s.wear.lifeHold } := by
  unfold lifeJudge
  cases hr : lifeReached s || s.wear.lifeHold with
  | true => rw [if_pos rfl, if_pos hl]
  | false =>
    obtain ⟨-, hhold⟩ := Bool.or_eq_false_iff.mp hr
    rw [if_neg (by decide)]
    exact ((setLifeHold_fixed false).mpr hhold).symm

/-- Of a change of the wear under a burning lamp the settling judges the life limit alone. -/
theorem settle_setWear (h : Settled s) (hb : burning s.lamp.state = true) (w : Wear) : settle s (s.setWear w) =
    beaconJudge s (s.setWear { w with lifeHold := lifeReached (s.setWear w) || w.lifeHold }) := by
  obtain ⟨-, -, -, hgroup, hretarget, hfan, hidle⟩ := id h
  have hlit := litSide_of_burning hb
  have hdark : s.lamp.state ≠ .dark := fun e => by rw [e] at hb; cases hb
  have hidle' : s.lamp.state ≠ .waiting ∧ s.lamp.state ≠ .striking .gap := by
    constructor <;> intro e <;> rw [e] at hb <;> cases hb
  set t := s.setWear { w with lifeHold := lifeReached (s.setWear w) || w.lifeHold } with ht
  have hlife : lifeJudge (s.setWear w) = t := lifeJudge_litSide (s := s.setWear w) hlit
  have hlife' : lifeJudge t = t := by
    refine lifeJudge_fixed.mpr fun hr => ⟨fun _ => ?_, fun hn => absurd (hlit.symm.trans hn) (by decide)⟩
    have hsame : lifeReached t = lifeReached (s.setWear w) := rfl
    rw [hsame] at hr
    simpa [ht] using hr
  have hsettle : settle s (s.setWear w) = settle s t := by
    unfold settle; rw [hlife, hlife']
  rw [hsettle]
  exact settle_fixed hlife' (startTest_fixed.mpr fun hc => hdark hc.1) (strikeTest_idle hidle')
    (judgeGroup_fixed_congr (s := s) ⟨rfl, rfl, rfl, rfl, rfl, rfl⟩ hgroup) (withdrawTest_same rfl)
    (retarget_congr hretarget rfl rfl rfl rfl rfl) (fanStallJudge_congr hfan rfl rfl rfl)
    (idleJudge_fixed.mpr (idleJudge_fixed.mp hidle :))

theorem requestWrite_eq (s : State) : requestWrite s = s.setWear (requestWrite s).wear := by
  unfold requestWrite startWrite; (repeat' split) <;> rfl

theorem requestWrite_starts (hv : s.wear.valid = true) (hn : s.wear.write = none) (hc : canWrite s = true) :
    (requestWrite s).wear.write = some ⟨s.wear.accumulator, s.wear.strikes, 1⟩ := by
  unfold requestWrite startWrite
  rw [if_pos hv, if_neg (by rw [hn]; nofun), if_pos hc]; rfl

theorem requestWrite_again (hv : s.wear.valid = true) (hn : s.wear.write.isSome = true) :
    (requestWrite s).wear.write = s.wear.write ∧ (requestWrite s).wear.writeAgain = true := by
  unfold requestWrite
  rw [if_pos hv, if_pos hn]; exact ⟨rfl, rfl⟩

/-- The state in which a burning lamp's second is reported (R11, R36). -/
theorem reportLitSecond_eq (hb : burning s.lamp.state = true) : reportLitSecond s =
    if s.wear.litTime + 1 < 360 then s.setWear { addUse s.lamp.actual s.wear with litTime := s.wear.litTime + 1 }
    else requestWrite (s.setWear { addUse s.lamp.actual s.wear with litTime := 0 }) := by
  unfold reportLitSecond
  rw [if_pos hb]
  simp only [← Nat.not_lt, ite_not]
  rfl

/-- What a reported second does to the wear but for the write that it may request. -/
theorem reportLitSecond_wear (hb : burning s.lamp.state = true) : (reportLitSecond s).wear =
    { s.wear with
      accumulator := min (s.wear.accumulator + s.lamp.actual) 1099511627775
      litTime := if s.wear.litTime + 1 < 360 then s.wear.litTime + 1 else 0
      write := (reportLitSecond s).wear.write
      writeAgain := (reportLitSecond s).wear.writeAgain
      outcome := (reportLitSecond s).wear.outcome } := by
  rw [reportLitSecond_eq hb]
  split
  · rfl
  · rw [requestWrite_wear]; rfl

theorem reportLitSecond_setWear (hb : burning s.lamp.state = true) :
    reportLitSecond s = s.setWear (reportLitSecond s).wear := by
  rw [reportLitSecond_eq hb]
  split
  · rfl
  · rw [requestWrite_eq]; rfl

/-- Settles O37: the settling judges the life limit alone. -/
theorem litSecondsWearTheLamp : Obligations.LitSecondsWearTheLamp := by
  intro s h a
  refine ⟨fun hb => ⟨settle s (reportLitSecond s), rfl, ?_⟩, fun hb => finish_unchanged h (if_neg (by rw [hb]; decide))⟩
  have hwear := reportLitSecond_wear hb
  set w := (reportLitSecond s).wear with hw
  have hsettle : settle s (reportLitSecond s) =
      beaconJudge s (s.setWear { w with lifeHold := lifeReached (s.setWear w) || w.lifeHold }) := by
    rw [reportLitSecond_setWear hb, ← hw]; exact settle_setWear h hb w
  have hreached : lifeReached (s.setWear w) = (s.wear.valid && decide (s.settings.life ≤ a / 360000)) := by
    rw [hwear]; rfl
  have hout : outside (settle s (reportLitSecond s)) = outside s := by
    rw [outside_settle, reportLitSecond_setWear hb]; rfl
  rw [hsettle, beaconJudge_eq, hreached] at hout ⊢
  have hlow (hl : s.wear.litTime + 1 < 360) : w.write = s.wear.write ∧ w.writeAgain = s.wear.writeAgain := by
    rw [hw, reportLitSecond_eq hb, if_pos hl]; exact ⟨rfl, rfl⟩
  have hdue (hl : 360 ≤ s.wear.litTime + 1) :
      w = (requestWrite (s.setWear { addUse s.lamp.actual s.wear with litTime := 0 })).wear := by
    rw [hw, reportLitSecond_eq hb, if_neg (Nat.not_lt.mpr hl)]
  refine ⟨(congrArg Wear.accumulator hwear :), (congrArg Wear.strikes hwear :), (congrArg Wear.valid hwear :),
    (congrArg Wear.litTime hwear :), ?_, hlow, fun hl hv hn hc => ?_, fun hl hv hn => ?_, rfl, rfl, rfl, rfl, ?_⟩
  · have hhold : w.lifeHold = s.wear.lifeHold := (congrArg Wear.lifeHold hwear :)
    exact (Bool.or_comm _ _).trans (congrArg (· || _) hhold)
  · rw [hdue hl]
    exact requestWrite_starts (s := s.setWear { addUse s.lamp.actual s.wear with litTime := 0 }) hv hn hc
  · rw [hdue hl]
    exact requestWrite_again (s := s.setWear { addUse s.lamp.actual s.wear with litTime := 0 }) hv hn
  · exact hout

end Sys2Proof.Machine
end

section
/-! ## Strike attempts (01, R6 to R8) -/

namespace Sys2Proof.Machine

variable {s u b : State}

theorem reportStrike_wear (w : Wear) : reportStrike w =
    { w with
      accumulator := min (w.accumulator + 18000) 1099511627775, strikes := min (w.strikes + 1) 16777215 } := by
  unfold reportStrike addUse maxAccumulator; rfl

/-- A strike begun from WAITING or the retry gap leaves an attempt at the end of the step (R6 to R8). -/
theorem strikeBegun_settle (h : Settled s) (r : SameSide s u)
    (hs : u.lamp.state = .waiting ∨ u.lamp.state = .striking .gap) (hstrike : strikeTest u = beginAttempt u)
    (hattempts : u.lamp.attempts = s.lamp.attempts) (hfaults : u.lamp.faults = s.lamp.faults)
    (hclaims : u.claims = s.claims) : StrikeBegun s (settle s u) := by
  obtain ⟨-, -, -, hgroup, -⟩ := id h
  have hcommitted : committedState s.lamp.state = true := by
    rw [← r.committed]; rcases hs with e | e <;> rw [e] <;> rfl
  have hstart : startTest u = u := startTest_fixed.mpr fun hc => by
    rcases hs with e | e <;> rw [e] at hc <;> cases hc.1
  set t := lifeJudge (beginAttempt u) with ht
  obtain ⟨x, hlife⟩ : ∃ x, t = (beginAttempt u).setWear { reportStrike u.wear with lifeHold := x } :=
    ⟨_, lifeJudge_litSide rfl⟩
  have hjudged : judgeGroup t = t := by
    refine judgeGroup_fixed_congr (s := s) ?_ hgroup
    rw [hlife]
    exact ⟨r.group, r.peers, r.settings, r.cap, by rw [hcommitted]; rfl, r.f⟩
  have hstate : t.lamp.state = .striking .attempt := by rw [hlife]; rfl
  have hsettle : settle s u = beaconJudge s (idleJudge (fanStallJudge t)) := by
    unfold settle
    simp only [r.life h, hstart, hstrike, ← ht, hjudged]
    rw [withdrawTest_state (by rw [hstate]; exact ⟨nofun, nofun, nofun⟩), hjudged,
      retarget_fixed.mpr (by rw [hstate]; nofun)]
  have hwear : (settle s u).wear =
      { s.wear with
        accumulator := min (s.wear.accumulator + 18000) 1099511627775, strikes := min (s.wear.strikes + 1) 16777215
        lifeHold := (settle s u).wear.lifeHold } := by
    rw [hsettle, beaconJudge_eq, hlife]
    simp only [State.setLine_wear]
    rw [reportStrike_wear, r.wear]; rfl
  unfold StrikeBegun
  rw [hwear, hsettle, beaconJudge_eq, hlife]
  exact ⟨rfl, congrArg (· + 1) hattempts, rfl, rfl, hfaults, hclaims, r.locks, r.group, rfl, rfl, rfl⟩

theorem strikeTest_waiting (hs : s.lamp.state = .waiting) (hp : permission s = true) (ht : s.pins.tacho = .running)
    (hl : s.pins.supplyLow = false) : strikeTest s = beginAttempt s := by
  unfold strikeTest
  simp [hs, hp, ht, hl]

theorem strikeTest_gap (hs : s.lamp.state = .striking .gap) (hg : s.lamp.retryGap = none) (ht : s.pins.tacho = .running) :
    strikeTest s = beginAttempt s := by
  unfold strikeTest
  simp [hs, hg, ht]

theorem failAttempt_gap (hn : s.lamp.attempts < 3) : failAttempt s =
    s.setLamp { s.lamp with litWait := none, state := .striking .gap, retryGap := some 10000 } := if_pos hn

theorem failAttempt_fault (hn : 3 ≤ s.lamp.attempts) :
    failAttempt s = latchFault .noStrike (s.setLamp { s.lamp with litWait := none }) := if_neg (Nat.not_lt.mpr hn)

/-- A failed attempt before the third leaves the retry gap at the end of the step (R7). -/
theorem gapEntered_settle (h : Settled s) (hs : s.lamp.state = .striking .attempt) (hn : s.lamp.attempts < 3) (p : Pins) :
    GapEntered s (settle s (failAttempt (s.setPins p))) := by
  rw [failAttempt_gap (s := s.setPins p) hn]
  set v := (s.setPins p).setLamp { s.lamp with litWait := none, state := .striking .gap, retryGap := some 10000 } with hv
  have r : SameSide s v := ⟨rfl, rfl, rfl, rfl, rfl, rfl, rfl, rfl, by rw [hs]; rfl, by rw [hs]; rfl⟩
  have hsettle : settle s v = beaconJudge s (fanStallJudge v) :=
    settle_sameSide h r (startTest_fixed.mpr nofun) rfl (withdrawTest_state ⟨nofun, nofun, nofun⟩)
  have hgap : GapEntered s (beaconJudge s (fanStallJudge v)) := by
    rw [beaconJudge_eq]; exact ⟨rfl, rfl, rfl, rfl, rfl, rfl, rfl, rfl, rfl⟩
  exact hsettle ▸ hgap

/-- The third failed attempt latches NO_STRIKE (R7, R21). -/
theorem noStrike_settle (hs : s.lamp.state = .striking .attempt) (hn : 3 ≤ s.lamp.attempts) (p : Pins) :
    FaultEntered s (settle s (failAttempt (s.setPins p))) ∧
    (settle s (failAttempt (s.setPins p))).lamp.faults = { s.lamp.faults with noStrike := true } := by
  rw [failAttempt_fault (s := s.setPins p) hn]
  have hnot : s.lamp.state ≠ .fault := by rw [hs]; nofun
  exact ⟨settle_latchFault_enters s .noStrike hnot rfl rfl rfl, (settle_latchFault s .noStrike _).1⟩

/-- Without the tachometer RUNNING the gap's end begins no attempt (R8). -/
theorem settle_retryGapExpired (h : Settled s) (hs : s.lamp.state = .striking .gap) (ht : s.pins.tacho ≠ .running) :
    settle s (retryGapExpired s) = retryGapExpired s := by
  obtain ⟨-, -, -, -, hretarget, hfan, -⟩ := id h
  have r : SameSide s (retryGapExpired s) := ⟨rfl, rfl, rfl, rfl, rfl, rfl, rfl, rfl, rfl, rfl⟩
  have hstate : (retryGapExpired s).lamp.state = .striking .gap := hs
  have hstart : startTest (retryGapExpired s) = retryGapExpired s := startTest_fixed.mpr (by rw [hstate]; nofun)
  have hstrike : strikeTest (retryGapExpired s) = retryGapExpired s :=
    strikeTest_fixed.mpr ⟨(by rw [hstate]; nofun), fun _ hc => ht hc.2⟩
  rw [settle_sameSide h r hstart hstrike (withdrawTest_same rfl),
    retarget_congr (u := retryGapExpired s) hretarget rfl rfl rfl rfl rfl,
    fanStallJudge_congr (u := retryGapExpired s) hfan rfl rfl rfl]
  exact beaconJudge_same rfl

theorem litWaitExpired_fails (hs : s.lamp.state = .striking .attempt) (hw : s.lamp.litWait.isSome = true) :
    litWaitExpired s = failAttempt s := if_pos ⟨hs, hw⟩

theorem tachoStalls_fails (hs : s.lamp.state = .striking .attempt) :
    tachoStalls s = failAttempt (s.setPins { s.pins with tacho := .stalled }) := if_pos hs

/-- Settles O35: an attempt begins in the settling, and fails by the command. -/
theorem strikeAttemptsBeginAndFail : Obligations.StrikeAttemptsBeginAndFail := by
  intro s h
  refine ⟨fun hs hp hl => ⟨_, rfl, ?_, by simp [tachoRuns]⟩, fun hs hp ht => ⟨_, rfl, ?_, by simp [supplyReturns]⟩,
    fun hs ht _ => ⟨_, rfl, ?_, by simp [retryGapExpired]⟩,
    fun hs ht => congrArg Host.Outcome.next (settle_retryGapExpired h hs ht),
    fun hs hg => ⟨_, rfl, ?_, by simp [tachoRuns]⟩,
    fun hs => ⟨fun hw => ⟨fun hn => ?_, fun hn => ?_⟩, fun hw => ?_, fun hn => ?_, fun hn => ?_⟩⟩
  · exact strikeBegun_settle h ⟨rfl, rfl, rfl, rfl, rfl, rfl, rfl, rfl, rfl, rfl⟩ (.inl hs)
      (strikeTest_waiting hs hp rfl hl) rfl rfl rfl
  · exact strikeBegun_settle h ⟨rfl, rfl, rfl, rfl, rfl, rfl, rfl, rfl, rfl, rfl⟩ (.inl hs)
      (strikeTest_waiting hs hp ht rfl) rfl rfl rfl
  · exact strikeBegun_settle h ⟨rfl, rfl, rfl, rfl, rfl, rfl, rfl, rfl, rfl, rfl⟩ (.inr hs)
      (strikeTest_gap hs rfl ht) rfl rfl rfl
  · exact strikeBegun_settle h ⟨rfl, rfl, rfl, rfl, rfl, rfl, rfl, rfl, rfl, rfl⟩ (.inr hs)
      (strikeTest_gap hs hg rfl) rfl rfl rfl
  · exact ⟨_, congrArg (fun x => Host.Outcome.next (settle s x)) (litWaitExpired_fails hs hw),
      gapEntered_settle h hs hn s.pins, by simp⟩
  · obtain ⟨hentered, hfaults⟩ := noStrike_settle hs hn s.pins
    exact ⟨_, congrArg (fun x => Host.Outcome.next (settle s x)) (litWaitExpired_fails hs hw), hentered, hfaults, by simp⟩
  · exact finish_unchanged h (if_neg (by rw [hw]; nofun))
  · exact ⟨_, congrArg (fun x => Host.Outcome.next (settle s x)) (tachoStalls_fails hs),
      gapEntered_settle h hs hn _, by simp⟩
  · obtain ⟨hentered, hfaults⟩ := noStrike_settle hs hn { s.pins with tacho := .stalled }
    exact ⟨_, congrArg (fun x => Host.Outcome.next (settle s x)) (tachoStalls_fails hs), hentered, hfaults, by simp⟩

end Sys2Proof.Machine
end

section
/-! ## The ends of the cool-down and of the restrike guard (01, R15, R22) -/

namespace Sys2Proof.Machine

variable {s u b : State}

theorem settle_setLamp_state {x : Lamp} (h : Settled s) (hstate : x.state = s.lamp.state)
    (hfaults : x.faults = s.lamp.faults)
    (hcap : x.cap = s.lamp.cap) (hgap : x.retryGap = s.lamp.retryGap) :
    (settle s (s.setLamp x)).lamp.state = s.lamp.state := by
  rw [settle_setLamp h hstate hfaults hcap hgap, beaconJudge_eq, retarget_eq]
  exact hstate

/-- A lamp that starts alone in its group is in WAITING at the end of the step: nothing it could strike by (R6, R119). -/
theorem settle_enterWaiting (hu : lifeJudge u = u) (hstart : startTest u = enterWaiting s) (hlife : LifeJudged s)
    (hout : litSide s.lamp.state = false) (halone : Alone s) : (settle b u).lamp =
      { (enterWaiting s).lamp with
        heldP := (settle b u).lamp.heldP, target := (settle b u).lamp.target, fanStall := (settle b u).lamp.fanStall } := by
  obtain ⟨hpeers, hclaim⟩ := halone
  have hstrike : strikeTest (enterWaiting s) = enterWaiting s := by
    refine strikeTest_fixed.mpr ⟨fun _ ⟨hp, _⟩ => ?_, nofun⟩
    have hown : permission (enterWaiting s) = (ownClaimed s && _) := rfl
    rw [hown, hclaim] at hp; cases hp
  have hjudged : lifeJudge (enterWaiting s) = enterWaiting s :=
    lifeJudge_fixed.mpr (hlife.congr rfl rfl rfl (by rw [hout]; rfl))
  rw [settle_alone hu hstart hstrike hjudged hpeers, lastJudgements_lamp]

/-- In COOLING with the guard ended the lamp enters DARK (R15). -/
theorem coolDownExpired_dark (ht : s.lamp.coolDown.isSome = true)
    (hs : s.lamp.state = .cooling) (hr : s.lamp.restrike = none) :
    coolDownExpired s = s.setLamp { s.lamp with coolDown := none, state := .dark } := by
  unfold coolDownExpired
  rw [if_pos ht]
  exact if_pos ⟨hs, by simp [hr]⟩

theorem coolDownExpired_stops (ht : s.lamp.coolDown.isSome = true)
    (hn : s.lamp.state ≠ .cooling ∨ s.lamp.restrike.isSome = true) :
    coolDownExpired s = s.setLamp { s.lamp with coolDown := none } := by
  unfold coolDownExpired
  rw [if_pos ht]
  refine if_neg fun ⟨hs, hr⟩ => ?_
  rcases hn with hn | hn
  · exact hn hs
  · rw [State.setLamp_lamp, Option.isNone_iff_eq_none] at hr
    rw [hr] at hn; cases hn

theorem coolDownExpired_lamp (ht : s.lamp.coolDown.isSome = true) : (coolDownExpired s).lamp =
    { s.lamp with coolDown := none, state := (coolDownExpired s).lamp.state } := by
  unfold coolDownExpired
  rw [if_pos ht]
  simp only; split <;> rfl

theorem restrikeExpired_cooling (ht : s.lamp.restrike.isSome = true) (hs : s.lamp.state = .cooling) :
    restrikeExpired s = guardEndsCooling (s.setLamp { s.lamp with restrike := none }) := by
  unfold restrikeExpired
  rw [if_pos ht]
  exact if_pos hs

theorem restrikeExpired_stops (ht : s.lamp.restrike.isSome = true) (hs : s.lamp.state ≠ .cooling) :
    restrikeExpired s = s.setLamp { s.lamp with restrike := none } := by
  unfold restrikeExpired
  rw [if_pos ht]
  exact if_neg hs

theorem guardEndsCooling_relights (hr : s.lamp.relight = true) (hc : startConditions s = true) :
    guardEndsCooling s = enterWaiting s := if_pos (by rw [hr, hc]; rfl)

theorem guardEndsCooling_rests (hn : s.lamp.relight = false ∨ startConditions s = false) : guardEndsCooling s =
    s.setLamp { s.lamp with relight := false, state := if s.lamp.coolDown.isSome then .cooling else .dark } :=
  if_neg (by rcases hn with e | e <;> simp [e])

theorem restrikeExpired_lamp (ht : s.lamp.restrike.isSome = true) :
    (restrikeExpired s).lamp.restrike = none ∧ (restrikeExpired s).lamp.faults = s.lamp.faults := by
  by_cases hs : s.lamp.state = .cooling
  · rw [restrikeExpired_cooling ht hs]
    unfold guardEndsCooling
    split <;> exact ⟨rfl, rfl⟩
  · rw [restrikeExpired_stops ht hs]; exact ⟨rfl, rfl⟩

/-- From DARK the start is tested in the same step (R15, R4). -/
theorem coolDownExpired_settles (h : Settled s) (ht : s.lamp.coolDown.isSome = true) :
    (s.lamp.state = .cooling → s.lamp.restrike = none → startConditions s = false →
      (settle s (coolDownExpired s)).lamp.state = .dark) ∧
    (s.lamp.state = .cooling → s.lamp.restrike = none → startConditions s = true → Alone s →
      (settle s (coolDownExpired s)).lamp.state = .waiting) := by
  refine ⟨fun hs hr hc => ?_, fun hs hr hc halone => ?_⟩ <;> rw [coolDownExpired_dark ht hs hr]
  · set v := s.setLamp { s.lamp with coolDown := none, state := .dark }
    have hstill : Still v := .inr (.inr ⟨rfl, hc⟩)
    rw [(settle_keeps s v).stillLamp hstill]
    rfl
  · set v := s.setLamp { s.lamp with coolDown := none, state := .dark } with hv
    have hlife : LifeJudged v := (lifeJudge_fixed.mp h.1).congr rfl rfl rfl (by rw [hs]; rfl)
    rw [settle_enterWaiting (s := v) (lifeJudge_fixed.mpr hlife) (if_pos ⟨rfl, hc⟩) hlife rfl halone]
    rfl

/-- With relight-pending and the start conditions the guard's end in COOLING enters WAITING (R15). -/
theorem restrikeExpired_relights (h : Settled s) (ht : s.lamp.restrike.isSome = true) (hs : s.lamp.state = .cooling)
    (hr : s.lamp.relight = true) (hc : startConditions s = true) (halone : Alone s) :
    let u := settle s (restrikeExpired s)
    u.lamp.state = .waiting ∧ u.lamp.relight = false ∧ u.lamp.coolDown = none ∧ u.lamp.renewal = some 4000 := by
  set v := s.setLamp { s.lamp with restrike := none }
  have hop : restrikeExpired s = enterWaiting v := (restrikeExpired_cooling ht hs).trans (guardEndsCooling_relights hr hc)
  have hlife : LifeJudged v := (lifeJudge_fixed.mp h.1).congr rfl rfl rfl rfl
  have hout : litSide v.lamp.state = false := congrArg litSide hs
  have hwaiting : lifeJudge (enterWaiting v) = enterWaiting v :=
    lifeJudge_fixed.mpr (hlife.congr rfl rfl rfl (by rw [hout]; rfl))
  intro u
  have hu : u = settle s (enterWaiting v) := congrArg (settle s) hop
  rw [hu, settle_enterWaiting hwaiting (startTest_fixed.mpr nofun) hlife hout halone]
  exact ⟨rfl, rfl, rfl, rfl⟩

/-- Else the guard's end in COOLING clears relight-pending, and leaves the lamp in COOLING or in DARK (R15). -/
theorem restrikeExpired_rests (h : s.lamp.restrike.isSome = true) (hs : s.lamp.state = .cooling)
    (hn : s.lamp.relight = false ∨ startConditions s = false) :
    let u := settle s (restrikeExpired s)
    u.lamp.relight = false ∧
    (s.lamp.coolDown.isSome = true → u.lamp.state = .cooling ∧ u.lamp.coolDown = s.lamp.coolDown) ∧
    (s.lamp.coolDown = none → startConditions s = false → u.lamp.state = .dark) := by
  set v := s.setLamp
    { s.lamp with
      restrike := none, relight := false, state := if s.lamp.coolDown.isSome then .cooling else .dark } with hv
  have hop : restrikeExpired s = v := (restrikeExpired_cooling h hs).trans (guardEndsCooling_rests hn)
  intro u
  have hu : u = settle s v := congrArg (settle s) hop
  have k := settle_keeps s v
  rw [hu]
  refine ⟨?_, fun hcool => ?_, fun hcool hc => ?_⟩
  · by_contra hrelight
    have hlit : v.lamp.relight = true := k.relight (by simpa using hrelight)
    cases hlit
  · have hstate : v.lamp.state = .cooling := if_pos hcool
    rw [k.stillLamp (.inl hstate)]
    exact ⟨hstate, rfl⟩
  · have hstate : v.lamp.state = .dark := if_neg (by rw [hcool]; nofun)
    rw [k.stillLamp (.inr (.inr ⟨hstate, hc⟩))]
    exact hstate

@[simp] theorem outside_coolDownExpired (s : State) : outside (coolDownExpired s) = outside s := by
  unfold coolDownExpired
  simp only; split <;> [(split <;> simp); rfl]

@[simp] theorem outside_restrikeExpired (s : State) : outside (restrikeExpired s) = outside s := by
  unfold restrikeExpired guardEndsCooling
  simp only; (repeat' split) <;> simp

/-- Settles O38: by what each timer's end makes of the lamp, and what the settling then leaves or starts. -/
theorem coolDownAndGuardEnd : Obligations.CoolDownAndGuardEnd := by
  intro s h
  refine ⟨fun ht => ⟨_, rfl, ?_⟩, fun hn => finish_unchanged h (if_neg (by rw [hn]; nofun)), fun ht => ⟨_, rfl, ?_⟩,
    fun hn => finish_unchanged h (if_neg (by rw [hn]; nofun))⟩
  · have k := settle_keeps s (coolDownExpired s)
    have hlamp := coolDownExpired_lamp ht
    obtain ⟨hdark, hwaiting⟩ := coolDownExpired_settles h ht
    refine ⟨k.coolDown (by rw [hlamp]), ?_, ?_, by simp, hdark, hwaiting, fun hn => ?_⟩
    · exact (congrArg Lamp.restrike k.lamp :).trans (congrArg Lamp.restrike hlamp :)
    · exact (congrArg Lamp.faults k.lamp :).trans (congrArg Lamp.faults hlamp :)
    · rw [coolDownExpired_stops ht hn]
      exact settle_setLamp_state h rfl rfl rfl rfl
  · have k := settle_keeps s (restrikeExpired s)
    obtain ⟨hrestrike, hfaults⟩ := restrikeExpired_lamp ht
    refine ⟨(congrArg Lamp.restrike k.lamp :).trans hrestrike, (congrArg Lamp.faults k.lamp :).trans hfaults, by simp,
      fun hs hr hc halone => restrikeExpired_relights h ht hs hr hc halone, fun hs hn => restrikeExpired_rests ht hs hn,
      fun hs => ?_⟩
    rw [restrikeExpired_stops ht (by rcases hs with e | e <;> rw [e] <;> nofun)]
    exact settle_setLamp_state h rfl rfl rfl rfl

end Sys2Proof.Machine
end

section
/-! ## Temperature samples (01, R17) -/

namespace Sys2Proof.Machine

variable {s u b : State}

/-- What a step changes once the life limit, the start and the strike have nothing to do. -/
theorem settle_steady (h1 : lifeJudge u = u) (h2 : startTest u = u) (h3 : strikeTest u = u) : settle b u =
    beaconJudge b (idleJudge (fanStallJudge (retarget (judgeGroup (withdrawTest b (judgeGroup u)))))) := by
  unfold settle; simp only [h1, h2, h3]

/-- A withdrawal touches neither the locks nor the wear (R119). -/
theorem withdrawTest_locks (b s : State) : (withdrawTest b s).locks = s.locks ∧ (withdrawTest b s).wear = s.wear := by
  rcases withdrawTest_cases b s with h | ⟨-, hs, h⟩
  · rw [h]; exact ⟨rfl, rfl⟩
  · rw [h]
    split
    · exact ⟨rfl, rfl⟩
    · have hl : litSide (clearSelection s).lamp.state = false := by
        rw [clearSelection_lamp]; rcases hs with e | e | e <;> rw [e] <;> rfl
      exact ⟨unwanted_locks _, unwanted_wear hl⟩

theorem judgeGroup_rest (s : State) : (judgeGroup s).locks = s.locks ∧ (judgeGroup s).wear = s.wear := by
  rw [judgeGroup_spec]; exact ⟨rfl, rfl⟩

/-- The last judgements change the target, the timers and the send queue alone. -/
theorem lastJudgements_rest (b s : State) :
    (beaconJudge b (idleJudge (fanStallJudge (retarget s)))).locks = s.locks ∧
    (beaconJudge b (idleJudge (fanStallJudge (retarget s)))).wear = s.wear ∧
    (beaconJudge b (idleJudge (fanStallJudge (retarget s)))).lamp.state = s.lamp.state := by
  rw [beaconJudge_eq, retarget_eq]; exact ⟨rfl, rfl, rfl⟩

/-- The judgements after the strike's touch neither the locks nor the wear. -/
theorem settle_steady_rest (h1 : lifeJudge u = u) (h2 : startTest u = u) (h3 : strikeTest u = u) :
    (settle b u).locks = u.locks ∧ (settle b u).wear = u.wear := by
  obtain ⟨hl1, hw1⟩ := judgeGroup_rest u
  obtain ⟨hl2, hw2⟩ := withdrawTest_locks b (judgeGroup u)
  obtain ⟨hl3, hw3⟩ := judgeGroup_rest (withdrawTest b (judgeGroup u))
  obtain ⟨hl4, hw4, -⟩ := lastJudgements_rest b (judgeGroup (withdrawTest b (judgeGroup u)))
  rw [settle_steady h1 h2 h3]
  exact ⟨by rw [hl4, hl3, hl2, hl1], by rw [hw4, hw3, hw2, hw1]⟩

/-- They leave a burning lamp in its state. -/
theorem settle_steady_state (h1 : lifeJudge u = u) (h2 : startTest u = u) (h3 : strikeTest u = u)
    (hb : burning u.lamp.state = true) : (settle b u).lamp.state = u.lamp.state := by
  have hw : withdrawTest b (judgeGroup u) = judgeGroup u := by
    refine withdrawTest_state ?_
    rw [judgeGroup_state]
    refine ⟨?_, ?_, ?_⟩ <;> intro e <;> rw [e] at hb <;> cases hb
  obtain ⟨-, -, hstate⟩ := lastJudgements_rest b (judgeGroup u)
  rw [settle_steady h1 h2 h3, hw, judgeGroup_idem, hstate, judgeGroup_state]

/-- After every step P is the unclamped power brought into its bounds (R115). -/
theorem Settled.group_p (h : Settled s) : s.group.p = clamp s.settings.pMin s.lamp.cap s.group.unclamped := by
  obtain ⟨-, -, -, hgroup, -⟩ := h
  have hjudged := judgeGroup_fixed.mp hgroup
  have hp : commonPower s = s.group.p := congrArg Group.p hjudged
  have hu : unclampedPower s = s.group.unclamped := congrArg Group.unclamped hjudged
  rw [← hp, ← hu]; rfl

theorem capBy_eq (hset : SettingsSafe s.settings) (x cap : Nat) : capBy s.settings x cap =
    if s.settings.tWarn ≤ x then 70 else if x + 5 ≤ s.settings.tWarn then 100 else cap := by
  have hwarn : 60 ≤ s.settings.tWarn := by unfold SettingsSafe at hset; omega
  have hbelow : (x ≤ s.settings.tWarn - 5) = (x + 5 ≤ s.settings.tWarn) := propext (by omega)
  unfold capBy
  simp only [hbelow]

/-- The lamp with a sample taken (R17). -/
theorem sampled_eq (r : Sensor) (s : State) : (sampled r s).lamp =
    { s.lamp with
      temperature := sampleOf r
      cap := capBy s.settings (sampleOf r) s.lamp.cap
      actual := if capBy s.settings (sampleOf r) s.lamp.cap = s.lamp.cap then s.lamp.actual
        else if s.lamp.state = .warming then capBy s.settings (sampleOf r) s.lamp.cap
        else if s.lamp.state = .lit then min s.lamp.actual (capBy s.settings (sampleOf r) s.lamp.cap)
        else s.lamp.actual } := by
  unfold sampled
  simp only [State.setLamp_lamp, putCap_eq]
  split
  · next h => simp only [h]
  · rfl

/-- A sample leaves the life limit, the start and the strike nothing to do. -/
theorem sampled_steady (h : Settled s) (r : Sensor) : lifeJudge (sampled r s) = sampled r s ∧
    startTest (sampled r s) = sampled r s ∧ strikeTest (sampled r s) = sampled r s := by
  obtain ⟨hlife, hstart, hstrike, -⟩ := h
  have hlamp := sampled_eq r s
  have rs : SteadyReads s (sampled r s) :=
    ⟨by rw [hlamp], by rw [hlamp], by rw [hlamp], rfl, rfl, rfl, rfl, rfl, rfl, rfl, rfl, rfl, rfl⟩
  have hsteady := Steady.congr rs ⟨lifeJudge_fixed.mp hlife, startTest_fixed.mp hstart, hstrike⟩
  exact ⟨lifeJudge_fixed.mpr hsteady.life, startTest_fixed.mpr hsteady.start, hsteady.strike⟩

/-- Settles O39: a sample moves cap and power; the settling adds the group's judgement. -/
theorem samplesSetThePowerCap : Obligations.SamplesSetThePowerCap := by
  intro s d h hset x cap
  have hcap : capBy s.settings (sampleOf (.celsius d)) s.lamp.cap = cap := capBy_eq hset x s.lamp.cap
  have hbroken {r : Sensor} (hr : sampleOf r = 150) :
      exec (.temperatureSample r) s = exec (.temperatureSample (.celsius 150)) s := by
    change finish (takeSample r) s = finish (takeSample (.celsius 150)) s
    unfold finish takeSample
    rw [hr]; rfl
  refine ⟨fun hx => ⟨settle s (sampled (.celsius d) s), ?_, ?_⟩, hbroken rfl, hbroken rfl⟩
  · exact congrArg (fun v => Host.Outcome.next (settle s v)) (if_neg (Nat.not_le.mpr hx))
  · have hlamp := sampled_eq (.celsius d) s
    rw [hcap] at hlamp
    obtain ⟨h1, h2, h3⟩ := sampled_steady h (.celsius d)
    have hkeeps := (settle_keeps s (sampled (.celsius d) s)).lamp
    rw [hlamp] at hkeeps
    have hstate : (sampled (.celsius d) s).lamp.state = s.lamp.state := (congrArg Lamp.state hlamp :)
    obtain ⟨hlocks, hwear⟩ := settle_steady_rest (b := s) h1 h2 h3
    have hburns (hb : burning s.lamp.state = true) : (settle s (sampled (.celsius d) s)).lamp.state = s.lamp.state := by
      rw [settle_steady_state h1 h2 h3 (by rw [hstate]; exact hb), hstate]
    set u := settle s (sampled (.celsius d) s) with hu
    have hactual : u.lamp.actual =
        if cap = s.lamp.cap then s.lamp.actual else if s.lamp.state = .warming then cap
        else if s.lamp.state = .lit then min s.lamp.actual cap else s.lamp.actual := (congrArg Lamp.actual hkeeps :)
    have hcapU : u.lamp.cap = cap := (congrArg Lamp.cap hkeeps :)
    refine ⟨(congrArg Lamp.temperature hkeeps :), hcapU, (congrArg Lamp.faults hkeeps :),
      fun hs => ⟨(hburns (by rw [hs]; rfl)).trans hs, ?_⟩, fun hs => ⟨(hburns (by rw [hs]; rfl)).trans hs, ?_⟩,
      fun hsame => ?_, ?_, by simp [hu, sampled], hlocks, hwear⟩
    · rw [hactual, if_pos hs]
    · simp [hactual, hs]
    · have hv : sampled (.celsius d) s = s.setLamp { s.lamp with temperature := x } := by
        unfold sampled
        simp only [hcap, hsame, if_true]
        rfl
      rw [hu, hv, settle_setLamp_still (x := { s.lamp with temperature := x }) h rfl rfl rfl rfl rfl rfl rfl rfl]
      exact beaconJudge_same rfl
    · have hp := (settle_settled s (sampled (.celsius d) s)).group_p
      rwa [← hu, hcapU, hu, settle_settings] at hp

end Sys2Proof.Machine
end

section
/-! ## CLEAR_FAULT (01, R23, R24) -/

namespace Sys2Proof.Machine

variable {s u v : State} {t : Telegram} {rest : List Telegram}

/-! ### An owner's answer (R176) -/

/-- The answer of an owner handed over, if the request was directed (R176). -/
def replied (d : Bool) (t : Telegram) (r : Result) (s : State) : State := if d then giveAnswer t r s else s

theorem answered_eq (t : Telegram) (rest : List Telegram) (r : Result) (s : State) :
    answered t rest r s = replied (directed s t) t r (takeHead t rest s) := rfl

theorem replied_eq (d : Bool) (t : Telegram) (r : Result) (s : State) :
    replied d t r s = s.setLine (replied d t r s).line := by
  unfold replied; cases d <;> rfl

theorem replied_outside (d : Bool) (t : Telegram) (r : Result) (h : outside s = outside u) :
    outside (replied d t r s) = outside (replied d t r u) := by
  unfold replied
  cases d with
  | false => exact h
  | true => exact congrArg (fun o => o.setLine { o.line with reserved := o.line.reserved - 1 }) h

/-- The head carried out by an owner that answers. -/
theorem dispatch_replied {kind : Byte} {accepts : Telegram → Bool} {owner : Owner} {r : Result} (h : AtHead kind t rest s)
    (ha : accepts t = true) (ho : owner t (takeHead t rest s) = (u, some r)) :
    dispatch accepts owner s = replied (directed s t) t r u := by
  rw [dispatch_head h ha, ho]; rfl

/-- An answer handed over stands in the send queue at the end of the step. -/
theorem answerQueued_settle (t : Telegram) (r : Result) (b s u : State) :
    answerQueued t r s (settle b (replied (directed s t) t r u)) := by
  intro hd
  refine (settle_keeps b _).queue _ ?_ nofun
  rw [hd]
  exact List.mem_append_right _ (List.mem_singleton.mpr rfl)

theorem answered_quiet (t : Telegram) (rest : List Telegram) (r : Result) (s : State) : Quiet s (answered t rest r s) := by
  rw [answered_eq, replied_eq]
  exact ⟨rfl, rfl, rfl, rfl, rfl, rfl, rfl, rfl, rfl, rfl, rfl, rfl, rfl, rfl, rfl, rfl, rfl⟩

/-! ### What clearing does (R23, R113) -/

theorem nowWanted_enduring (s : State) : enduring (nowWanted s).lamp = enduring s.lamp := by
  unfold nowWanted
  cases s.lamp.state with
  | dark => exact (startTest_keeps s).lamp
  | cooling => simp only; (repeat' split) <;> rfl
  | waiting | striking | warming | lit | fault => rfl

theorem onDecision_enduring (w : Bool) (hl : litSide s.lamp.state = false) :
    enduring (onDecision w s).lamp = enduring s.lamp := by
  unfold onDecision
  split
  · rfl
  · split
    · exact (unwanted_keeps hl).lamp
    · split
      · exact nowWanted_enduring s
      · rfl

/-- The election at the own station's becoming available is a decision, or nothing (R113). -/
theorem electIfAvailable_cases (b s : State) : electIfAvailable b s = s ∨
    ∃ w g, electIfAvailable b s = onDecision w (s.setGroup g) := by
  unfold electIfAvailable elect
  split <;> [(split <;> [exact .inr ⟨_, _, rfl⟩; exact .inl rfl]); exact .inl rfl]

theorem electIfAvailable_enduring (b : State) (hl : litSide s.lamp.state = false) :
    enduring (electIfAvailable b s).lamp = enduring s.lamp := by
  rcases electIfAvailable_cases b s with h | ⟨w, g, h⟩ <;> rw [h]
  exact onDecision_enduring (s := s.setGroup g) w hl

theorem onDecision_cooling (w : Bool) (hs : s.lamp.state = .cooling) (hr : s.lamp.restrike.isSome = true) :
    (onDecision w s).lamp.state = .cooling := by
  have hwanted : (nowWanted s).lamp.state = .cooling := by
    unfold nowWanted
    simp only [hs, hr, if_true]
    exact hs
  have hunwanted : (unwanted s).lamp.state = .cooling := by rw [unwanted_state, hs]
  unfold onDecision
  split
  · exact hs
  · split
    · exact hunwanted
    · split
      · exact hwanted
      · exact hs

/-- While the guard runs a lamp in COOLING stays there whatever is decided (R15). -/
theorem electIfAvailable_cooling (b : State) (hs : s.lamp.state = .cooling) (hr : s.lamp.restrike.isSome = true) :
    (electIfAvailable b s).lamp.state = .cooling := by
  rcases electIfAvailable_cases b s with h | ⟨w, g, h⟩ <;> rw [h]
  · exact hs
  · exact onDecision_cooling (s := s.setGroup g) w hs hr

theorem clearedLamp_state (l : Lamp) (h : l.state = .fault) : (clearedLamp l).state =
    if l.restrike.isSome || l.coolDown.isSome then .cooling else .dark := if_pos h

theorem clearedLamp_unlit {l : Lamp} (h : l.state = .fault) : litSide (clearedLamp l).state = false := by
  rw [clearedLamp_state l h]; split <;> rfl

/-- What clearing leaves of faults and dropout window. -/
theorem clearFaults_lamp (h : s.lamp.state = .fault) :
    enduring (clearFaults s).lamp = enduring (clearedLamp s.lamp) := by
  rw [clearFaults_eq]
  exact electIfAvailable_enduring s (s := s.setLamp (clearedLamp s.lamp)) (clearedLamp_unlit h)

theorem clearFaults_cooling (h : s.lamp.state = .fault) (hr : s.lamp.restrike.isSome = true) :
    (clearFaults s).lamp.state = .cooling := by
  rw [clearFaults_eq]
  refine electIfAvailable_cooling s (s := s.setLamp (clearedLamp s.lamp)) ?_ hr
  exact (clearedLamp_state s.lamp h).trans (by rw [hr]; rfl)

/-- With the group OFF there is no election, and no start. -/
theorem clearFaults_off (h : s.lamp.state = .fault) (hr : s.lamp.restrike = none) (hm : s.group.mode = none) :
    (clearFaults s).lamp.state = (if s.lamp.coolDown.isSome = true then .cooling else .dark) ∧ Still (clearFaults s) := by
  have hop : clearFaults s = s.setLamp (clearedLamp s.lamp) := by
    rw [clearFaults_eq]
    exact if_neg (by simp [hm])
  have hstate : (clearFaults s).lamp.state = if s.lamp.coolDown.isSome = true then .cooling else .dark := by
    rw [hop]; exact (clearedLamp_state s.lamp h).trans (by rw [hr]; rfl)
  refine ⟨hstate, ?_⟩
  have hrest : startConditions (clearFaults s) = false := by
    rw [hop]; exact startConditions_unwanted (by simp [wanted, hm])
  unfold Still
  rw [hstate, hrest]
  split <;> simp

/-! ### CLEAR_FAULT -/

theorem tryClear_cleared (hf : anyFault s.lamp.faults = true) (hg : conditionsGone s = true) :
    tryClear s = (clearFaults s, true) := by
  unfold tryClear; rw [hf, hg]; rfl

theorem tryClear_none (hf : anyFault s.lamp.faults = false) : tryClear s = (s, true) := by
  unfold tryClear; rw [hf]; rfl

theorem tryClear_fanTest (hf : anyFault s.lamp.faults = true) (hg : conditionsGone s = false)
    (hfan : s.lamp.faults.fan = true) (hd : fanDriven s.lamp = false) :
    tryClear s = (s.setLamp { s.lamp with fanTest := some 10000 }, false) := by
  unfold tryClear; rw [hf, hg, hfan, hd]; rfl

theorem tryClear_refused (hf : anyFault s.lamp.faults = true) (hg : conditionsGone s = false)
    (hfan : s.lamp.faults.fan = false ∨ fanDriven s.lamp = true) : tryClear s = (s, false) := by
  have hn : (s.lamp.faults.fan && !fanDriven s.lamp) = false := by rcases hfan with e | e <;> simp [e]
  unfold tryClear; rw [hf, hg, hn]; rfl

theorem ownClearFault_eq (hb : t.body = []) : ownClearFault t s =
    ((tryClear s).1, some (.of (if (tryClear s).2 then .taken else .notNow))) := if_neg (by simp [hb])

/-- CLEAR_FAULT by what its owner does (R23). -/
theorem execClearFault_eq {c : Bool} (h : AtHead kindClearFault t rest s) (hb : t.body = [])
    (hc : tryClear (takeHead t rest s) = (u, c)) : exec .clearFault s =
      .next (settle s (replied (directed s t) t (.of (if c then .taken else .notNow)) u)) := by
  obtain ⟨-, -, hkind, -⟩ := id h
  have ho := ownClearFault_eq (s := takeHead t rest s) hb
  rw [hc] at ho
  exact congrArg (fun x => Host.Outcome.next (settle s x)) (dispatch_replied h (by simp [ofKind, hkind]) ho)

/-- With nothing changed but the answer given, the step is settled. -/
theorem execClearFault_answers {c : Bool} (hs : Settled s) (h : AtHead kindClearFault t rest s) (hb : t.body = [])
    (hc : tryClear (takeHead t rest s) = (takeHead t rest s, c)) : exec .clearFault s =
      .next (beaconJudge s (answered t rest (.of (if c then .taken else .notNow)) s)) := by
  rw [execClearFault_eq h hb hc, ← answered_eq, settle_quiet hs (answered_quiet t rest _ s)]

/-- What clearing leaves at the end of the step, whatever is sent (R23, R24). -/
theorem clearFaults_settles {l : HallLine} (b : State) (h : s.lamp.state = .fault) (hv : v = (clearFaults s).setLine l) :
    let u := settle b v
    anyFault u.lamp.faults = false ∧ (s.lamp.faults.dropout = true → u.lamp.dropoutWindow = none) ∧
    (s.lamp.restrike.isSome = true → u.lamp.state = .cooling) ∧
    (s.lamp.restrike = none → s.group.mode = none →
      u.lamp.state = if s.lamp.coolDown.isSome = true then .cooling else .dark) := by
  subst hv
  intro u
  have k : SettleKeeps ((clearFaults s).setLine l) u := settle_keeps b _
  have hkept : enduring u.lamp = enduring (clearedLamp s.lamp) := k.lamp.trans (clearFaults_lamp h)
  have hfaults : u.lamp.faults = .clear := (congrArg Lamp.faults hkept :)
  refine ⟨by rw [hfaults]; rfl, fun hd => ?_, fun hr => ?_, fun hr hm => ?_⟩
  · exact (congrArg Lamp.dropoutWindow hkept :).trans (if_pos hd)
  · have hstate := clearFaults_cooling h hr
    rw [k.stillLamp (.inl hstate)]
    exact hstate
  · obtain ⟨hstate, hstill⟩ := clearFaults_off h hr hm
    rw [k.stillLamp hstill]
    exact hstate

/-- The fan test begun, the lamp stands in its state with its faults (R23). -/
theorem fanTest_settles {l : HallLine} (h : Settled s)
    (hv : v = (s.setLamp { s.lamp with fanTest := some 10000 }).setLine l) :
    let u := settle s v
    u.lamp.fanTest = some 10000 ∧ u.lamp.state = s.lamp.state ∧ u.lamp.faults = s.lamp.faults := by
  subst hv
  set v := (s.setLamp { s.lamp with fanTest := some 10000 }).setLine l
  have r : SameSide s v := ⟨rfl, rfl, rfl, rfl, rfl, rfl, rfl, rfl, rfl, rfl⟩
  have rs : SteadyReads s v := ⟨rfl, rfl, rfl, rfl, rfl, rfl, rfl, rfl, rfl, rfl, rfl, rfl, rfl⟩
  intro u
  have hu : u = beaconJudge s (fanStallJudge (retarget v)) := settle_steadyReads h r rs rfl
  rw [hu, beaconJudge_eq, retarget_eq]
  exact ⟨rfl, rfl, rfl⟩

/-- Settles O22: by the four outcomes of `tryClear`, the answer apart from what they do to the lamp. -/
theorem clearFaultClears : Obligations.ClearFaultClears := by
  intro s t rest hs h hb
  refine ⟨fun hf => execClearFault_answers (c := true) hs h hb (tryClear_none hf), fun hfault hf hg => ?_,
    fun hf hg => ⟨fun hfan hd => ?_,
      fun hfan => execClearFault_answers (c := false) hs h hb (tryClear_refused hf hg hfan)⟩⟩
  · obtain ⟨hclear, hdrop, hcool, hoff⟩ :=
      clearFaults_settles (s := takeHead t rest s) s hfault (replied_eq (directed s t) t (.of .taken) _)
    refine ⟨_, execClearFault_eq (c := true) h hb (tryClear_cleared hf hg), hclear, ?_, answerQueued_settle _ _ _ _ _,
      hdrop, hcool, hoff⟩
    rw [outside_settle]
    exact replied_outside _ _ _ (outside_clearFaults _)
  · have htry := tryClear_fanTest (s := takeHead t rest s) hf hg hfan hd
    obtain ⟨htest, hstate, hfaults⟩ :=
      fanTest_settles hs (replied_eq (directed s t) t (.of .notNow)
        ((takeHead t rest s).setLamp { s.lamp with fanTest := some 10000 }))
    refine ⟨_, execClearFault_eq (c := false) h hb htry, htest, hstate, hfaults, ?_, answerQueued_settle _ _ _ _ _⟩
    rw [outside_settle]
    exact replied_outside _ _ _ rfl

end Sys2Proof.Machine
end

section
/-! ## LAMP_NEW (02, R41, R42) -/

namespace Sys2Proof.Machine

variable {s : State} {t : Telegram} {rest : List Telegram} {w : Wear} {ks : List Lock} {l : HallLine}

/-! ### An owner that changes nothing (R174 to R176) -/

theorem takeHead_quiet (t : Telegram) (rest : List Telegram) (s : State) : Quiet s (takeHead t rest s) :=
  ⟨rfl, rfl, rfl, rfl, rfl, rfl, rfl, rfl, rfl, rfl, rfl, rfl, rfl, rfl, rfl, rfl, rfl⟩

/-- An undirected head carried out by its owner. -/
theorem dispatch_undirected {kind : Byte} {accepts : Telegram → Bool} {owner : Owner} (h : AtHead kind t rest s)
    (ha : accepts t = true) (hd : directed s t = false) :
    dispatch accepts owner s = (owner t (takeHead t rest s)).1 := by
  rw [dispatch_head h ha, hd]; rfl

/-- An undirected head that its owner disregards: nothing changes but the queues. -/
theorem finish_disregarded {kind : Byte} {accepts : Telegram → Bool} {owner : Owner} (hs : Settled s)
    (h : AtHead kind t rest s) (ha : accepts t = true) (hd : directed s t = false)
    (ho : owner t (takeHead t rest s) = (takeHead t rest s, none)) :
    finish (dispatch accepts owner) s = .next (beaconJudge s (takeHead t rest s)) := by
  unfold finish
  rw [dispatch_undirected h ha hd, ho, settle_quiet hs (takeHead_quiet t rest s)]

/-- A head that its owner answers without doing anything: nothing changes but the queues. -/
theorem finish_answered {kind : Byte} {accepts : Telegram → Bool} {owner : Owner} {r : Result} (hs : Settled s)
    (h : AtHead kind t rest s) (ha : accepts t = true)
    (ho : owner t (takeHead t rest s) = (takeHead t rest s, some r)) :
    finish (dispatch accepts owner) s = .next (beaconJudge s (answered t rest r s)) := by
  unfold finish
  rw [dispatch_answered h ha ho, settle_quiet hs (answered_quiet t rest r s)]

theorem ofKind_atHead {kind : Byte} (h : AtHead kind t rest s) : ofKind kind t = true := by
  obtain ⟨-, -, hkind, -⟩ := h
  simp [ofKind, hkind]

/-! ### The owner of LAMP_NEW -/

theorem ownLampNew_undirected (hd : directed s t = false) : ownLampNew t s = (s, none) := by
  unfold ownLampNew; rw [hd]; rfl

theorem ownLampNew_directed (hd : directed s t = true) (hb : t.body = []) : ownLampNew t s =
    if inService s && s.lamp.state == .dark then (newLamp s, some (.of .taken)) else refuse .notNow s := by
  unfold ownLampNew; rw [hd, hb]; rfl

/-- The wear of a new lamp (R42). -/
def unworn (w : Wear) : Wear :=
  { w with accumulator := 0, strikes := 0, litTime := 0, valid := true, lifeHold := false }

/-- In SERVICE no election follows the end of the WEAR lock: the own station is not available (R111, R113). -/
theorem removeLock_inService (h : Holder) (hs : inService s = true) :
    removeLock h s = s.setLocks (withoutHolder h s.locks) := by
  have hout : ownAvailable (s.setLocks (withoutHolder h s.locks)) = false := by
    have : inService (s.setLocks (withoutHolder h s.locks)) = true := hs
    simp [ownAvailable, this]
  unfold removeLock lampUncovered electIfAvailable
  rw [hout, Bool.and_false]
  exact ite_self _

/-- What a taken LAMP_NEW does in SERVICE (R42). -/
theorem newLamp_inService (hs : inService s = true) :
    newLamp s = requestWrite ((s.setWear (unworn s.wear)).setLocks (withoutHolder .wear s.locks)) :=
  congrArg requestWrite (removeLock_inService (s := s.setWear (unworn s.wear)) .wear hs)

/-- The wear of the new lamp but for the write that is requested (R36, R42). -/
theorem newLamp_wear (hs : inService s = true) : (newLamp s).wear =
    { unworn s.wear with
      write := (newLamp s).wear.write
      writeAgain := (newLamp s).wear.writeAgain
      outcome := (newLamp s).wear.outcome } := by
  rw [newLamp_inService hs, requestWrite_wear]; rfl

theorem newLamp_eq (hs : inService s = true) :
    newLamp s = (s.setWear (newLamp s).wear).setLocks (withoutHolder .wear s.locks) := by
  rw [newLamp_inService hs, requestWrite_eq]; rfl

/-- The record of the new lamp is written at once (R37, R42). -/
theorem newLamp_writes (hs : inService s = true) (hn : s.wear.write = none) (hc : canWrite s = true) :
    (newLamp s).wear.write = some ⟨0, 0, 1⟩ := by
  rw [newLamp_inService hs]
  exact requestWrite_starts (s := (s.setWear (unworn s.wear)).setLocks _) rfl hn hc

/-- While a write runs the record of the new lamp is written after it (R38, R42). -/
theorem newLamp_writesAgain (hs : inService s = true) (hn : s.wear.write.isSome = true) :
    (newLamp s).wear.write = s.wear.write ∧ (newLamp s).wear.writeAgain = true := by
  rw [newLamp_inService hs]
  exact requestWrite_again (s := (s.setWear (unworn s.wear)).setLocks _) rfl hn

/-- A lamp without use is short of every life limit (R39). -/
theorem lifeJudged_unused (hset : SettingsSafe s.settings) (ha : s.wear.accumulator = 0)
    (hh : s.wear.lifeHold = false) : LifeJudged s := by
  have hlife : 500 ≤ s.settings.life := by unfold SettingsSafe at hset; omega
  have hshort : lifeReached s = false := by
    have : ¬s.settings.life = 0 := by omega
    simp [lifeReached, wearHours, ha, this]
  intro h
  rw [hshort, hh] at h; cases h

/-- In SERVICE and in DARK the settling judges of wear and locks the life limit alone. -/
theorem settle_inServiceDark (h : Settled s) (hs : inService s = true) (hd : s.lamp.state = .dark)
    (hlife : LifeJudged ((s.setWear w).setLocks ks)) :
    let u := ((s.setWear w).setLocks ks).setLine l
    settle s u = beaconJudge s u := by
  intro u
  obtain ⟨-, -, -, hgroup, htarget, hfan, hidle⟩ := h
  have hstart : startConditions u = false := by
    have : inService u = true := hs
    simp [startConditions, this]
  have hstrike : u.lamp.state ≠ .waiting ∧ u.lamp.state ≠ .striking .gap := by
    change s.lamp.state ≠ .waiting ∧ s.lamp.state ≠ .striking .gap
    rw [hd]; exact ⟨nofun, nofun⟩
  exact settle_fixed (lifeJudge_fixed.mpr hlife) (startTest_fixed.mpr (by rw [hstart]; nofun)) (strikeTest_idle hstrike)
    (judgeGroup_fixed_congr (s := s) ⟨rfl, rfl, rfl, rfl, rfl, rfl⟩ hgroup) (withdrawTest_same rfl)
    (retarget_congr htarget rfl rfl rfl rfl rfl) (fanStallJudge_congr hfan rfl rfl rfl)
    (idleJudge_fixed.mpr (idleJudge_fixed.mp hidle :))

/-- A taken LAMP_NEW, its answer handed over, leaves the settling only the beacon to judge. -/
theorem settle_newLamp {r : Result} (h : Settled s) (hset : SettingsSafe s.settings) (hs : inService s = true)
    (hd : s.lamp.state = .dark) :
    let u := replied (directed s t) t r (newLamp (takeHead t rest s))
    ∃ l, settle s u =
      ((s.setWear (newLamp (takeHead t rest s)).wear).setLocks (withoutHolder .wear s.locks)).setLine l := by
  intro u
  set w := (newLamp (takeHead t rest s)).wear
  have hwear := newLamp_wear (s := takeHead t rest s) hs
  have hu : u = ((s.setWear w).setLocks (withoutHolder .wear s.locks)).setLine u.line :=
    (replied_eq _ t r _).trans (congrArg (fun x => x.setLine u.line) (newLamp_eq (s := takeHead t rest s) hs))
  have hlife : LifeJudged ((s.setWear w).setLocks (withoutHolder .wear s.locks)) :=
    lifeJudged_unused hset (congrArg Wear.accumulator hwear :) (congrArg Wear.lifeHold hwear :)
  refine ⟨(beaconJudge s u).line, ?_⟩
  rw [hu, settle_inServiceDark h hs hd hlife, beaconJudge_eq]; rfl

/-- A LAMP_NEW in SERVICE with the lamp in DARK is carried out (R41). -/
theorem execLampNew_taken (h : AtHead kindLampNew t rest s) (hdir : directed s t = true) (hb : t.body = [])
    (hs : inService s = true) (hd : s.lamp.state = .dark) : exec .lampNew s =
      .next (settle s (replied (directed s t) t (.of .taken) (newLamp (takeHead t rest s)))) := by
  have ho : ownLampNew t (takeHead t rest s) = (newLamp (takeHead t rest s), some (.of .taken)) :=
    (ownLampNew_directed (s := takeHead t rest s) hdir hb).trans
      (if_pos (Bool.and_eq_true_iff.mpr ⟨hs, beq_iff_eq.mpr hd⟩))
  exact congrArg (fun x => Host.Outcome.next (settle s x)) (dispatch_replied h (ofKind_atHead h) ho)

/-- Settles O23: a taken one by what it does to wear and locks, which the settling in SERVICE leaves. -/
theorem lampNewRestartsWear : Obligations.LampNewRestartsWear := by
  intro s t rest h hset hhead
  have hkind := ofKind_atHead hhead
  refine ⟨fun hdir hb hs hd => ⟨_, execLampNew_taken hhead hdir hb hs hd, ?_⟩, fun hdir hb hno => ?_, fun hdir => ?_⟩
  · have hqueued := answerQueued_settle t (.of .taken) s s (newLamp (takeHead t rest s))
    have hout : outside (settle s (replied (directed s t) t (.of .taken) (newLamp (takeHead t rest s)))) =
        outside (answered t rest (.of .taken) s) := by
      rw [outside_settle]
      exact replied_outside _ _ _ ((congrArg outside (newLamp_inService (s := takeHead t rest s) hs)).trans (by simp))
    obtain ⟨l, hu⟩ := settle_newLamp (t := t) (rest := rest) (r := .of .taken) h hset hs hd
    have hwear := newLamp_wear (s := takeHead t rest s) hs
    rw [hu] at hqueued hout ⊢
    refine ⟨(congrArg Wear.accumulator hwear :), (congrArg Wear.strikes hwear :), (congrArg Wear.litTime hwear :),
      (congrArg Wear.valid hwear :), (congrArg Wear.lifeHold hwear :), rfl, fun hn hm hp => ?_, fun hn => ?_, rfl, rfl,
      rfl, hqueued, hout⟩
    · exact newLamp_writes (s := takeHead t rest s) hs hn (Bool.and_eq_true_iff.mpr ⟨hm, hp⟩)
    · exact newLamp_writesAgain (s := takeHead t rest s) hs hn
  · have hfails : (inService s && s.lamp.state == .dark) = false := by rcases hno with e | e <;> simp [e]
    exact finish_answered h hhead hkind
      ((ownLampNew_directed (s := takeHead t rest s) hdir hb).trans (if_neg (Bool.eq_false_iff.mp hfails)))
  · exact finish_disregarded h hhead hkind hdir (ownLampNew_undirected hdir)

end Sys2Proof.Machine
end

section
/-! ## QUERY (02, 03, 08, 09, R43, R63, R152, R168, R177) -/

namespace Sys2Proof.Machine

variable {s : State} {t : Telegram} {rest : List Telegram} {body b : List Byte} {k v id : Byte}

/-! ### Which row takes a QUERY (log 13) -/

/-- A body that names none of the four selectors. -/
def NoSelector (body : List Byte) : Prop := ∀ k ∈ ([1, 2, 3, 4] : List Byte), ∀ r, body ≠ k :: r

theorem noSelector_of (h : body = [] ∨ body = v :: b ∧ v ≠ 1 ∧ v ≠ 2 ∧ v ≠ 3 ∧ v ≠ 4) : NoSelector body := by
  rintro k hk r rfl
  rcases h with h | ⟨h, h1, h2, h3, h4⟩
  · cases h
  · obtain ⟨rfl, -⟩ := List.cons.inj h
    simp only [List.mem_cons, List.not_mem_nil, or_false] at hk
    tauto

theorem querySelects_named (h : t.kind = kindQuery) (hb : t.body = k :: b) : querySelects k t = true := by
  simp [querySelects, h, hb]

theorem querySelects_unnamed (h : t.kind = kindQuery) (hb : NoSelector t.body) (k : Byte) :
    querySelects k t = true := by
  unfold querySelects
  cases hbody : t.body with
  | nil => simp [h]
  | cons c r =>
    have hc : c ∉ ([1, 2, 3, 4] : List Byte) := fun hmem => hb c hmem r hbody
    simpa [h] using Or.inr hc

theorem querySelects_of (h : t.kind = kindQuery) (hb : t.body = k :: b ∨ NoSelector t.body) : querySelects k t = true :=
  hb.elim (querySelects_named h) fun hb => querySelects_unnamed h hb k

theorem body_ne_selector (h : body = k :: b ∧ b ≠ [] ∨ NoSelector body) (hk : k ∈ ([1, 2, 3, 4] : List Byte)) :
    body ≠ [k] := by
  rcases h with ⟨rfl, hne⟩ | h
  · simpa using hne
  · exact h k hk []

theorem body_ne_operand (h : body = k :: b ∧ b.length ≠ 1 ∨ NoSelector body) (hk : k ∈ ([1, 2, 3, 4] : List Byte))
    (x : Byte) : body ≠ [k, x] := by
  rcases h with ⟨rfl, hne⟩ | h
  · intro hx
    obtain ⟨-, rfl⟩ := List.cons.inj hx
    exact hne rfl
  · exact h k hk [x]

/-! ### The body of a QUERY and the record that answers it -/

/-- What a body asks for, or none if it is not of the selector's form. -/
abbrev QueryRead := List Byte → State → Option Result

/-- A body that is the selector alone. -/
def readAlone (k : Byte) (record : State → List Byte) : QueryRead := fun body s =>
  match body with
  | [b] => if b = k then some (recordResult (record s)) else none
  | _ => none

/-- A body that is the selector and one byte. -/
def readWith (k : Byte) (ask : Byte → State → Option Result) : QueryRead := fun body s =>
  match body with
  | [b, x] => if b = k then ask x s else none
  | _ => none

/-- The three corner sets that can be asked for: active, pending, in flight (R63). -/
def askCorners (w : Byte) (s : State) : Option Result :=
  if w.toNat ≤ 2 then some (recordResult (cornersRecord w.toNat s)) else none

/-- An owner answers a QUERY by what its body asks for, and reads nothing of the queues. -/
structure Answers (owner : Owner) (read : QueryRead) : Prop where
  owner : ∀ t s, owner t s = queryForm t s (read t.body s)
  head : ∀ body t rest s, read body (takeHead t rest s) = read body s

theorem ownQueryWear_answers : Answers ownQueryWear (readAlone 1 wearRecord) := ⟨fun _ _ => rfl, fun _ _ _ _ => rfl⟩

theorem ownQueryLocks_answers : Answers ownQueryLocks (readAlone 2 locksRecord) := ⟨fun _ _ => rfl, fun _ _ _ _ => rfl⟩

theorem ownQuerySlot_answers : Answers ownQuerySlot (readWith 3 fun id s => some (slotAnswer id.toNat s)) :=
  ⟨fun _ _ => rfl, fun _ _ _ _ => rfl⟩

theorem ownQueryCorners_answers : Answers ownQueryCorners (readWith 4 askCorners) where
  owner t s := by
    unfold ownQueryCorners readWith askCorners
    rcases t.body with _ | ⟨b, _ | ⟨x, _ | ⟨y, r⟩⟩⟩
    case cons.cons.nil => simp only [ite_and]
    all_goals rfl
  head _ _ _ _ := rfl

theorem readAlone_named (k : Byte) (record : State → List Byte) (s : State) :
    readAlone k record [k] s = some (recordResult (record s)) := if_pos rfl

theorem readAlone_malformed {record : State → List Byte} (h : body ≠ [k]) : readAlone k record body s = none := by
  unfold readAlone
  split
  · next b => exact if_neg fun hb => h (by rw [hb])
  · rfl

theorem readWith_named (k x : Byte) (ask : Byte → State → Option Result) (s : State) :
    readWith k ask [k, x] s = ask x s := if_pos rfl

theorem readWith_malformed {ask : Byte → State → Option Result} (h : ∀ x, body ≠ [k, x]) :
    readWith k ask body s = none := by
  unfold readWith
  split
  · next b x => exact if_neg fun hb => h x (by rw [hb])
  · rfl

theorem slotAnswer_absent (h : id ≠ 0) (hn : (s.schedule.slots.find? fun x => x.id == id.toNat) = none) :
    slotAnswer id.toNat s = .of .noEntry := by
  have : ¬id.toNat = 0 := fun e => h (BitVec.eq_of_toNat_eq e)
  unfold slotAnswer
  rw [if_neg this, hn]

theorem slotAnswer_stored (h : id ≠ 0) (hn : (s.schedule.slots.find? fun x => x.id == id.toNat).isSome = true) :
    (slotAnswer id.toNat s).code = .taken := by
  have : ¬id.toNat = 0 := fun e => h (BitVec.eq_of_toNat_eq e)
  obtain ⟨x, hx⟩ := Option.isSome_iff_exists.mp hn
  unfold slotAnswer
  rw [if_neg this, hx]; rfl

/-! ### A QUERY carried out -/

section

variable {owner : Owner} {read : QueryRead} (ho : Answers owner read) (hs : Settled s) (h : AtHead kindQuery t rest s)
include ho hs h

theorem finish_query_undirected (hd : directed s t = false) (ha : querySelects k t = true) :
    finish (dispatch (querySelects k) owner) s = .next (beaconJudge s (takeHead t rest s)) := by
  refine finish_disregarded hs h ha hd ((ho.owner t _).trans ?_)
  have : directed (takeHead t rest s) t = false := hd
  unfold queryForm
  rw [this]; rfl

theorem finish_query_directed (hd : directed s t = true) (ha : querySelects k t = true) :
    finish (dispatch (querySelects k) owner) s =
      .next (beaconJudge s (answered t rest ((read t.body s).getD (.of .malformed)) s)) := by
  refine finish_answered hs h ha ((ho.owner t _).trans ?_)
  have : directed (takeHead t rest s) t = true := hd
  unfold queryForm
  rw [this, ho.head]
  cases read t.body s <;> rfl

theorem finish_query_malformed (hd : directed s t = true) (ha : querySelects k t = true) (hn : read t.body s = none) :
    finish (dispatch (querySelects k) owner) s = .next (beaconJudge s (answered t rest (.of .malformed) s)) := by
  rw [finish_query_directed ho hs h hd ha, hn]; rfl

theorem finish_query_record {r : Result} (hd : directed s t = true) (hb : t.body = k :: b)
    (hr : read (k :: b) s = some r) :
    finish (dispatch (querySelects k) owner) s = .next (beaconJudge s (answered t rest r s)) := by
  obtain ⟨-, -, hkind, -⟩ := id h
  rw [finish_query_directed ho hs h hd (querySelects_named hkind hb), hb, hr]; rfl

end

/-- Settles O25: selector by selector, by what the body asks for. -/
theorem queriesAnswerTheRecord : Obligations.QueriesAnswerTheRecord := by
  intro s t rest sel v b hs h other
  obtain ⟨-, -, hkind, -⟩ := id h
  have hselects {k : Byte} (hb : t.body = k :: b ∨ other) : querySelects k t = true :=
    querySelects_of hkind (hb.imp_right noSelector_of)
  refine ⟨fun hd => ⟨fun hb => ?_, fun hb => ?_, fun hb => ?_, fun hb => ?_⟩,
    fun hd => ⟨fun hb => ?_, fun hb => ?_, fun hb => ?_, fun hb => ?_, fun hb => ?_, fun hb => ?_, fun hb => ?_,
      fun hb hid hn => ?_, fun hb hid hn => ⟨?_, slotAnswer_stored hid hn⟩, fun hb hid => ?_⟩⟩
  · exact finish_query_undirected ownQueryWear_answers hs h hd (hselects hb)
  · exact finish_query_undirected ownQueryLocks_answers hs h hd (hselects hb)
  · exact finish_query_undirected ownQuerySlot_answers hs h hd (hselects hb)
  · exact finish_query_undirected ownQueryCorners_answers hs h hd (hselects hb)
  · exact finish_query_malformed ownQueryWear_answers hs h hd (hselects (hb.imp_left And.left))
      (readAlone_malformed (body_ne_selector (hb.imp_right noSelector_of) (by decide)))
  · exact finish_query_malformed ownQueryLocks_answers hs h hd (hselects (hb.imp_left And.left))
      (readAlone_malformed (body_ne_selector (hb.imp_right noSelector_of) (by decide)))
  · exact finish_query_malformed ownQuerySlot_answers hs h hd (hselects (hb.imp_left And.left))
      (readWith_malformed (body_ne_operand (hb.imp_right noSelector_of) (by decide)))
  · rcases hb with hb | ⟨hb, hset⟩ | hb
    · exact finish_query_malformed ownQueryCorners_answers hs h hd (querySelects_named hkind hb.1)
        (readWith_malformed (body_ne_operand (.inl hb) (by decide)))
    · have hread : readWith 4 askCorners t.body s = none := by
        rw [hb, readWith_named]; exact if_neg (Nat.not_le.mpr hset)
      exact finish_query_malformed ownQueryCorners_answers hs h hd (querySelects_named hkind hb) hread
    · exact finish_query_malformed ownQueryCorners_answers hs h hd (hselects (.inr hb))
        (readWith_malformed (noSelector_of hb 4 (by decide) [·]))
  · exact finish_query_record ownQueryWear_answers hs h hd hb (readAlone_named ..)
  · exact finish_query_record ownQueryLocks_answers hs h hd hb (readAlone_named ..)
  · exact finish_query_record ownQuerySlot_answers hs h hd hb (readWith_named ..)
  · exact finish_query_record ownQuerySlot_answers hs h hd hb
      ((readWith_named ..).trans (congrArg some (slotAnswer_absent hid hn)))
  · exact finish_query_record ownQuerySlot_answers hs h hd hb (readWith_named ..)
  · exact finish_query_record ownQueryCorners_answers hs h hd hb ((readWith_named ..).trans (if_pos hid))

end Sys2Proof.Machine
end

section
/-! ## The write of the wear record (02, R37, R38) -/

namespace Sys2Proof.Machine

variable {s : State} {m : List Host.Cell} {a k : Nat} {w : RecordWrite} {o : WriteOutcome}

/-! ### What stands in the memory after bytes are written -/

theorem Memory.read_writeBytes_outside {bs : List Byte} (hm : Memory.wf m = true)
    (ha : a + bs.length ≤ Config.memorySize) (hk : k < a ∨ a + bs.length ≤ k) :
    Memory.read (Memory.writeBytes m a bs) k = Memory.read m k := by
  induction bs generalizing m a with
  | nil => rfl
  | cons b rest ih =>
    rw [List.length_cons] at ha hk
    have hwf : Memory.wf (Memory.write m a b) = true := Memory.wf_write b (by omega) hm
    have hrest := ih (a := a + 1) hwf (by omega) (by omega)
    exact hrest.trans ((Memory.read_write m a k b 0 hm).trans (if_neg (by omega)))

theorem Memory.read_writeBytes_inside {bs : List Byte} (hm : Memory.wf m = true)
    (ha : a + bs.length ≤ Config.memorySize) (hk : k < bs.length) :
    Memory.read (Memory.writeBytes m a bs) (a + k) = bs.getD k 0 := by
  induction bs generalizing m a k with
  | nil => cases hk
  | cons b rest ih =>
    rw [List.length_cons] at ha hk
    have hwf : Memory.wf (Memory.write m a b) = true := Memory.wf_write b (by omega) hm
    cases k with
    | zero =>
      have hrest := Memory.read_writeBytes_outside (a := a + 1) (k := a) (bs := rest) hwf (by omega) (by omega)
      exact hrest.trans ((Memory.read_write m a a b 0 hm).trans (if_pos rfl))
    | succ k =>
      have hrest := ih (a := a + 1) (k := k) hwf (by omega) (by omega)
      rwa [show a + 1 + k = a + (k + 1) by omega] at hrest

/-! ### The end of a write, and of an attempt -/

/-- The write that a write again starts, with the values of the moment (R38). -/
def nextWrite (x : Wear) : Option RecordWrite :=
  if x.writeAgain = true then some ⟨x.accumulator, x.strikes, 1⟩ else none

theorem startWrite_canWrite (h : canWrite s = true) :
    startWrite s = s.setWear { s.wear with write := some ⟨s.wear.accumulator, s.wear.strikes, 1⟩ } := if_pos h

theorem writeEnds_eq (h : canWrite s = true) : writeEnds o s =
    s.setWear { s.wear with write := nextWrite s.wear, writeAgain := false, outcome := o } := by
  unfold writeEnds nextWrite
  cases s.wear.writeAgain with
  | true => exact startWrite_canWrite h
  | false => rfl

theorem writeFails_first (h : w.attempt = 1) : writeFails w s =
    s.setWear { s.wear with write := some ⟨s.wear.accumulator, s.wear.strikes, 2⟩ } := if_pos h

theorem writeFails_last (h : w.attempt ≠ 1) : writeFails w s = writeEnds .failed s := if_neg h

theorem zoneHolds_eq {bytes : List Byte} (hp : s.start.wearPlace = some a) (hb : bytes.length = 10) :
    zoneHolds bytes s = s.setSerial (Memory.writeBytes s.serial a bytes) := by
  unfold zoneHolds
  rw [hp, List.take_of_length_le hb.le]

theorem readBackTaken_writing {bytes : List Byte} (hw : s.wear.write = some w) : readBackTaken bytes s =
    if bytes = recordBytes w.accumulator w.strikes then writeEnds .ok (zoneHolds bytes s)
    else writeFails w (zoneHolds bytes s) := by
  unfold readBackTaken; rw [hw]

theorem writeTimesOut_writing {bytes : List Byte} (hw : s.wear.write = some w) :
    writeTimesOut bytes s = writeFails w (zoneHolds bytes s) := by
  unfold writeTimesOut; rw [hw]

/-- The settling reads neither the memory nor the state of the write. -/
theorem settle_writeState (h : Settled s) (m : List Host.Cell) (x : Option RecordWrite) (again : Bool)
    (o : WriteOutcome) :
    let u := (s.setSerial m).setWear { s.wear with write := x, writeAgain := again, outcome := o }
    settle s u = u := by
  intro u
  obtain ⟨hlife, hstart, hstrike, hgroup, htarget, hfan, hidle⟩ := h
  have hu : settle s u = beaconJudge s u :=
    settle_fixed (lifeJudge_fixed.mpr (lifeJudge_fixed.mp hlife :)) (startTest_fixed.mpr (startTest_fixed.mp hstart :))
      (strikeTest_fixed.mpr (strikeTest_fixed.mp hstrike :))
      (judgeGroup_fixed_congr (s := s) ⟨rfl, rfl, rfl, rfl, rfl, rfl⟩ hgroup) (withdrawTest_same rfl)
      (retarget_fixed.mpr (retarget_fixed.mp htarget :)) (fanStallJudge_fixed.mpr (fanStallJudge_fixed.mp hfan :))
      (idleJudge_fixed.mpr (idleJudge_fixed.mp hidle :))
  exact hu.trans (beaconJudge_same rfl)

/-- A command that changes the memory and the state of the write alone is its own effect. -/
theorem finish_writeState {op : State → State} (h : Settled s) {x : Option RecordWrite} {again : Bool}
    (hop : op s = (s.setSerial m).setWear { s.wear with write := x, writeAgain := again, outcome := o }) :
    finish op s = .next ((s.setSerial m).setWear { s.wear with write := x, writeAgain := again, outcome := o }) := by
  unfold finish
  rw [hop]
  exact congrArg Host.Outcome.next (settle_writeState h m x again o)

/-- Settles O40: by the outcome of the attempt; the bytes by induction on what is written. -/
theorem writesOfTheWearRecord : Obligations.WritesOfTheWearRecord := by
  intro s w a bytes h hw hplace hmem hlen hwf ha serial next
  have hzone : zoneHolds bytes s = s.setSerial serial := zoneHolds_eq hplace hlen
  have hcan : canWrite (s.setSerial serial) = true := by simp [canWrite, hmem, hplace]
  have htaken := readBackTaken_writing (bytes := bytes) hw
  have hlate := writeTimesOut_writing (bytes := bytes) hw
  rw [hzone] at htaken hlate
  have hlast (hn : w.attempt ≠ 1) := (writeFails_last (s := s.setSerial serial) hn).trans (writeEnds_eq hcan)
  refine ⟨fun heq => ?_, fun hne h1 => ?_, fun hne hn => ?_, fun h1 => ?_, fun hn => ?_, fun k hk => ?_, fun k => ?_⟩
  · exact finish_writeState h (htaken.trans ((if_pos heq).trans (writeEnds_eq hcan)))
  · exact finish_writeState h (htaken.trans ((if_neg hne).trans (writeFails_first h1)))
  · exact finish_writeState h (htaken.trans ((if_neg hne).trans (hlast hn)))
  · exact finish_writeState h (hlate.trans (writeFails_first h1))
  · exact finish_writeState h (hlate.trans (hlast hn))
  · exact Memory.read_writeBytes_outside hwf (by rw [hlen]; exact ha) (by rw [hlen]; exact hk)
  · exact Memory.read_writeBytes_inside hwf (by rw [hlen]; exact ha) (by rw [hlen]; exact k.isLt)

end Sys2Proof.Machine
end

section
/-! ## The Geometry Engine's work on a table (03, R54 to R59) -/

namespace Sys2Proof.Machine

variable {s : State} {g : Geometry} {link : List ScalerMessage} {c : CornerSet} {id i n : Nat}

/-! ### Commands that change the engine and the scaler link alone -/

/-- While the published F stands, the settling reads nothing of the engine and of the link (R60). -/
theorem engine_quiet (link : List ScalerMessage) (hf : g.f = s.geometry.f) :
    Quiet s ((s.setGeometry g).setScalerLink link) :=
  ⟨rfl, rfl, rfl, rfl, rfl, rfl, rfl, rfl, rfl, rfl, hf, rfl, rfl, rfl, rfl, rfl, rfl⟩

theorem finish_engine {op : State → State} (h : Settled s) (hop : op s = (s.setGeometry g).setScalerLink link)
    (hf : g.f = s.geometry.f) : finish op s = .next (beaconJudge s ((s.setGeometry g).setScalerLink link)) := by
  unfold finish
  rw [hop, settle_quiet h (engine_quiet link hf)]

/-- Of the engine, F and geometry failure alone are causes of a beacon (R80). -/
theorem engine_causes (link : List ScalerMessage) (hf : g.f = s.geometry.f) (hfail : g.failure = s.geometry.failure) :
    beaconCauses s = beaconCauses ((s.setGeometry g).setScalerLink link) := by
  simp only [beaconCauses, ownFlags, attentionFlag, State.setScalerLink_geometry, State.setGeometry_geometry, hf, hfail]
  rfl

theorem finish_engine_unreported {op : State → State} (h : Settled s)
    (hop : op s = (s.setGeometry g).setScalerLink link) (hf : g.f = s.geometry.f)
    (hfail : g.failure = s.geometry.failure) : finish op s = .next ((s.setGeometry g).setScalerLink link) := by
  rw [finish_engine h hop hf, beaconJudge_same (engine_causes link hf hfail)]

theorem finish_setGeometry {op : State → State} (h : Settled s) (hop : op s = s.setGeometry g)
    (hf : g.f = s.geometry.f) : finish op s = .next (beaconJudge s (s.setGeometry g)) :=
  finish_engine (g := g) (link := s.scalerLink) h hop hf

theorem finish_setGeometry_unreported {op : State → State} (h : Settled s) (hop : op s = s.setGeometry g)
    (hf : g.f = s.geometry.f) (hfail : g.failure = s.geometry.failure) : finish op s = .next (s.setGeometry g) :=
  finish_engine_unreported (g := g) (link := s.scalerLink) h hop hf hfail

/-! ### The records of a table on the link (R55) -/

theorem recordMessages_append (id attempt line : Nat) (xs ys : List LineRecord) :
    recordMessages id attempt line (xs ++ ys) =
      recordMessages id attempt line xs ++ recordMessages id attempt (line + xs.length) ys := by
  induction xs generalizing line with
  | nil => rfl
  | cons x xs ih =>
    rw [List.cons_append, recordMessages, ih, List.length_cons, recordMessages, List.cons_append,
      Nat.add_right_comm, Nat.add_assoc]

theorem recordMessages_getElem? (id attempt line y : Nat) (xs : List LineRecord) :
    (recordMessages id attempt line xs)[y]? = xs[y]?.map fun r => .record id attempt (line + y) r := by
  induction xs generalizing line y with
  | nil => rfl
  | cons x xs ih =>
    cases y with
    | zero => rfl
    | succ y => rw [recordMessages, List.getElem?_cons_succ, List.getElem?_cons_succ, ih, Nat.add_right_comm, Nat.add_assoc]

section
variable {table : List LineRecord} (hid : g.inFlightId = some id) (ht : g.inFlightTable = some table)
include hid ht

theorem recordsBetween_eq (a b : Nat) :
    recordsBetween g a b = recordMessages id g.attempt a ((table.take b).drop a) := by
  unfold recordsBetween; rw [hid, ht]

theorem recordsBetween_whole : recordsBetween g 0 (tableLength g) = recordMessages id g.attempt 0 table := by
  rw [recordsBetween_eq hid ht, tableLength, ht, Option.getD_some, List.take_length, List.drop_zero]

/-- Records sent up to one line and on from there to another are the records up to the latter. -/
theorem recordsBetween_append {a b : Nat} (hab : a ≤ b) :
    recordsBetween g 0 a ++ recordsBetween g a b = recordsBetween g 0 b := by
  have hsplit : table.take b = table.take a ++ (table.take b).drop a := by
    conv_lhs => rw [← List.take_append_drop a (table.take b), List.take_take, Nat.min_eq_left hab]
  rw [recordsBetween_eq hid ht, recordsBetween_eq hid ht, recordsBetween_eq hid ht, List.drop_zero, List.drop_zero]
  rcases Nat.le_total a table.length with hle | hle
  · conv_rhs => rw [hsplit, recordMessages_append, Nat.zero_add, List.length_take, Nat.min_eq_left hle]
  · rw [List.drop_eq_nil_of_le (by rw [List.length_take]; omega), List.take_of_length_le hle,
      List.take_of_length_le (hle.trans hab)]
    exact List.append_nil _

end

/-! ### What each report and timer of a load does (R55, R56, R59) -/

theorem computationEnds_computing (h : s.geometry.state = .computing) (hc : s.geometry.inFlight = some c) :
    computationEnds s = s.setGeometry
      { s.geometry with
        state := .loading, attempt := 1, loadWait := none, linesSent := 0
        inFlightTable := some (warpTable s.straps.format c)
        inFlightF := some (lightFraction s.straps.format c) } := by
  unfold computationEnds; rw [if_pos h, hc]; rfl

theorem lastRecordSent_sending (h : sendingTable s.geometry = true) (hn : s.geometry.linesSent ≤ tableLength s.geometry) :
    lastRecordSent s =
      (s.setGeometry { s.geometry with loadWait := some 100, linesSent := tableLength s.geometry }).setScalerLink
        (s.scalerLink ++ recordsBetween s.geometry s.geometry.linesSent (tableLength s.geometry)) := by
  unfold lastRecordSent sendRecords
  rw [if_pos h, Nat.min_self, Nat.max_eq_right hn]
  rfl

theorem namesLoad_iff (hid : s.geometry.inFlightId = some id) :
    namesLoad i n s.geometry = true ↔ s.geometry.state = .loading ∧ i = id ∧ n = s.geometry.attempt := by
  simp only [namesLoad, hid, Bool.and_eq_true, beq_iff_eq, Option.some.injEq, and_assoc, @eq_comm _ i, @eq_comm _ n]

theorem takeAcknowledgement_loading (hs : s.geometry.state = .loading) (hid : s.geometry.inFlightId = some id) :
    ∃ m k, RecordsGone s.geometry m ∧ takeAcknowledgement id s.geometry.attempt s =
      (s.setGeometry
        { s.geometry with
          state := .swapWait, loadWait := none, swapRepeat := some 100, swapTimeout := some 1000
          linesSent := m, linkDraws := k }).setScalerLink
        (s.scalerLink ++ recordsBetween s.geometry s.geometry.linesSent m ++ [.swapRequest id]) := by
  obtain ⟨m, hgone, hlink⟩ := linkProgress_eq s
  refine ⟨m, (linkProgress s).geometry.linkDraws, hgone, ?_⟩
  generalize (linkProgress s).geometry.linkDraws = k at hlink ⊢
  unfold takeAcknowledgement
  rw [if_pos ((namesLoad_iff hid).mpr ⟨hs, rfl, rfl⟩), hlink]
  unfold sendSwapRequest
  simp only [State.setGeometry_geometry, hid]
  rfl

/-- A failed attempt, from the state in which the records that had gone by then have gone. -/
theorem attemptFails_eq (s : State) : ∃ m k, RecordsGone s.geometry m ∧ attemptFails s =
    (s.setGeometry
      (if s.geometry.attempt = 1 then { s.geometry with attempt := 2, linesSent := 0, loadWait := none, linkDraws := k }
      else { loadFails s.geometry with linkDraws := k })).setScalerLink
      (s.scalerLink ++ recordsBetween s.geometry s.geometry.linesSent m) := by
  obtain ⟨m, hgone, hlink⟩ := linkProgress_eq s
  refine ⟨m, (linkProgress s).geometry.linkDraws, hgone, ?_⟩
  generalize (linkProgress s).geometry.linkDraws = k at hlink ⊢
  unfold attemptFails
  rw [hlink]
  simp only [State.setGeometry_geometry]
  split <;> rfl

theorem takeRefusal_loading (hs : s.geometry.state = .loading) (hid : s.geometry.inFlightId = some id) :
    takeRefusal id s.geometry.attempt s = attemptFails s := if_pos ((namesLoad_iff hid).mpr ⟨hs, rfl, rfl⟩)

/-- The wait for the acknowledgement runs once every record has gone, so that none goes at its end. -/
theorem loadWaitExpired_waiting (hs : s.geometry.state = .loading) (hw : s.geometry.loadWait.isSome = true) :
    loadWaitExpired s = s.setGeometry
      (if s.geometry.attempt = 1 then { s.geometry with attempt := 2, linesSent := 0, loadWait := none }
      else loadFails s.geometry) := by
  have hstill : linkProgress s = s := linkProgress_still (by simp [sendingTable, Option.isNone_eq_false_iff.mpr hw])
  unfold loadWaitExpired attemptFails
  rw [if_pos ⟨hs, hw⟩, hstill]
  simp only
  split <;> rfl

/-- Settles O41: no report and no timer of a load moves the published F, so each is its own effect, and a beacon alone
follows the failure of a load. -/
theorem tablesAreLoaded : Obligations.TablesAreLoaded := by
  intro s c id i n h hc hid g sent failed
  have hfailed : loadFails g = failed := by simp only [loadFails, g, failed, hc]
  refine ⟨fun hs => ?_, fun table ht => ⟨recordsBetween_whole hid ht, fun y => ?_, fun a b => recordsBetween_append hid ht⟩,
    fun hs hw hn => ?_, fun hs => ?_, fun hs => ?_, fun hs h1 => ⟨?_, fun hw => ?_⟩, fun hs h2 => ⟨?_, fun hw => ?_⟩,
    fun hother => ?_⟩
  · exact finish_setGeometry_unreported h (computationEnds_computing hs hc) rfl rfl
  · rw [recordMessages_getElem?, Nat.zero_add]
  · have hsending : sendingTable s.geometry = true := by simp [sendingTable, hs, hw, g]
    exact finish_engine_unreported h (lastRecordSent_sending hsending hn) rfl rfl
  · have hstill : sendingTable s.geometry = false := by
      rcases hs with hs | hw
      · simp [sendingTable, hs, g]
      · simp [sendingTable, Option.isNone_eq_false_iff.mpr hw, g]
    exact finish_unchanged h (if_neg (by rw [hstill]; decide))
  · obtain ⟨m, k, hgone, hop⟩ := takeAcknowledgement_loading hs hid
    exact ⟨m, k, hgone, finish_engine_unreported h hop rfl rfl⟩
  · obtain ⟨m, k, hgone, hop⟩ := attemptFails_eq s
    rw [if_pos h1, ← takeRefusal_loading hs hid, h1] at hop
    exact ⟨m, k, hgone, finish_engine_unreported h hop rfl rfl⟩
  · have hop := loadWaitExpired_waiting hs hw
    rw [if_pos h1] at hop
    exact finish_setGeometry_unreported h hop rfl rfl
  · obtain ⟨m, k, hgone, hop⟩ := attemptFails_eq s
    rw [if_neg (by rw [h2]; decide), ← takeRefusal_loading hs hid, h2, hfailed] at hop
    exact ⟨m, k, hgone, finish_engine h hop rfl⟩
  · have hop := loadWaitExpired_waiting hs hw
    rw [if_neg (by rw [h2]; decide), hfailed] at hop
    exact finish_setGeometry h hop rfl
  · have hnot : ¬namesLoad i n s.geometry = true := by rw [namesLoad_iff hid]; tauto
    exact ⟨finish_unchanged h (if_neg hnot), finish_unchanged h (if_neg hnot)⟩

end Sys2Proof.Machine
end

section
/-! ## The swap report and CORNERS (03, R46 to R49, R54, R57 to R59) -/

namespace Sys2Proof.Machine

variable {s : State} {g : Geometry} {t : Telegram} {rest : List Telegram} {c : CornerSet} {id f i : Nat}

/-! ### What the settling makes of a new F (R60, R115) -/

/-- What the group was told to do: its mode and its levels. -/
def groupOrders (g : Group) : Option OnCause × Option Nat × Option Nat := (g.mode, g.levelOverride, g.slotLevel)

theorem lifeJudge_orders (s : State) : groupOrders (lifeJudge s).group = groupOrders s.group := by
  rcases lifeJudge_cases s with ⟨b, h, -⟩ | ⟨-, -, h⟩
  · rw [h]; rfl
  · rw [h]; simp [clearSelection, groupOrders]

theorem judgeGroup_orders (s : State) : groupOrders (judgeGroup s).group = groupOrders s.group := by
  rw [judgeGroup_spec]; rfl

theorem withdrawTest_orders (b s : State) : groupOrders (withdrawTest b s).group = groupOrders s.group := by
  rcases withdrawTest_cases b s with h | ⟨-, -, h⟩
  · rw [h]
  · rw [h]; split <;> simp [clearSelection, groupOrders]

theorem lastJudgements_group (b s : State) :
    (beaconJudge b (idleJudge (fanStallJudge (retarget s)))).group = s.group := by
  rw [beaconJudge_eq, retarget_eq]; rfl

/-- No settling gives the group orders. -/
theorem settle_orders (b s : State) : groupOrders (settle b s).group = groupOrders s.group := by
  unfold settle
  simp only [lastJudgements_group, judgeGroup_orders, withdrawTest_orders, lifeJudge_orders, strikeTest_group,
    startTest_group]

theorem settle_targetLevel (b s : State) : targetLevel (settle b s) = targetLevel s := by
  have h := settle_orders b s
  simp only [groupOrders, Prod.mk.injEq] at h
  obtain ⟨-, hoverride, hslot⟩ := h
  unfold targetLevel
  rw [hoverride, hslot, settle_settings]

theorem settle_mode (b s : State) : (settle b s).group.mode = s.group.mode := congrArg Prod.fst (settle_orders b s)

/-- After every step the unclamped power is that of the F of the moment (R115). -/
theorem Settled.unclamped (h : Settled s) : s.group.unclamped = unclampedPower s := by
  obtain ⟨-, -, -, hgroup, -⟩ := h
  exact (congrArg Group.unclamped (judgeGroup_fixed.mp hgroup)).symm

theorem settle_unclamped (b s : State) : (settle b s).group.unclamped = unclampedPower s := by
  have hpeers : committedPeers (settle b s) = committedPeers s := committedPeers_outside (outside_settle b s)
  rw [(settle_settled b s).unclamped]
  unfold unclampedPower
  rw [hpeers, settle_targetLevel, settle_geometry]

/-- The engine is read by the group's judgements alone: life limit, start and strike stay judged. -/
theorem settle_setGeometry_rest (h : Settled s) (g : Geometry) :
    (settle s (s.setGeometry g)).locks = s.locks ∧ (settle s (s.setGeometry g)).wear = s.wear := by
  obtain ⟨hlife, hstart, hstrike, -⟩ := h
  have rs : SteadyReads s (s.setGeometry g) := ⟨rfl, rfl, rfl, rfl, rfl, rfl, rfl, rfl, rfl, rfl, rfl, rfl, rfl⟩
  have hsteady := Steady.congr rs ⟨lifeJudge_fixed.mp hlife, startTest_fixed.mp hstart, hstrike⟩
  exact settle_steady_rest (lifeJudge_fixed.mpr hsteady.life) (startTest_fixed.mpr hsteady.start) hsteady.strike

/-! ### The swap (R57, R58) -/

/-- The engine once the table in flight is in use and the pending set, if there is one, is taken up (R58). -/
def afterSwap (g : Geometry) : Geometry :=
  match g.pendingSet with
  | some c => startComputing c { swapped g with pendingSet := none }
  | none => swapped g

theorem takeSwapReport_waiting (hs : s.geometry.state = .swapWait) (hid : s.geometry.inFlightId = some id) :
    takeSwapReport id s = s.setGeometry (afterSwap s.geometry) := by
  unfold takeSwapReport afterSwap
  rw [if_pos ⟨hs, hid⟩]
  simp only [swapped]
  cases s.geometry.pendingSet <;> rfl

theorem afterSwap_f (hf : g.inFlightF = some f) : (afterSwap g).f = f := by
  unfold afterSwap
  cases g.pendingSet <;> simp [startComputing, swapped, hf]

theorem takeSwapReport_other (hid : s.geometry.inFlightId = some id) (hne : i ≠ id) : takeSwapReport i s = s := by
  refine if_neg fun ⟨_, h⟩ => hne ?_
  rw [hid] at h
  exact (Option.some.inj h).symm

theorem repeatSwapRequest_waiting (hs : s.geometry.state = .swapWait) (hid : s.geometry.inFlightId = some id)
    (hr : s.geometry.swapRepeat.isSome = true) : repeatSwapRequest s =
      (s.setGeometry { s.geometry with swapRepeat := some 100 }).setScalerLink (s.scalerLink ++ [.swapRequest id]) := by
  unfold repeatSwapRequest sendSwapRequest
  rw [if_pos ⟨hs, hr⟩]
  simp only [State.setGeometry_geometry, hid]
  rfl

/-- Settles O42: a swap report moves F and so the group's judgement; without one the published F stands. -/
theorem swapsTakeTheTableIntoUse : Obligations.SwapsTakeTheTableIntoUse := by
  intro s c id f i h hs hc hid hf done
  have hswapped : swapped s.geometry = done := by simp only [swapped, done, hc, hid, hf, Option.getD_some]
  refine ⟨⟨settle s (s.setGeometry (afterSwap s.geometry)), ?_, fun hnone => ?_, fun x hx => ?_, ?_, ?_, ?_, ?_, ?_⟩,
    fun hne => finish_unchanged h (takeSwapReport_other hid hne),
    fun hr => finish_engine_unreported h (repeatSwapRequest_waiting hs hid hr) rfl rfl,
    fun ht => finish_setGeometry h (if_pos ⟨hs, ht⟩) rfl⟩
  · exact congrArg (fun v => Host.Outcome.next (settle s v)) (takeSwapReport_waiting hs hid)
  · rw [settle_geometry, ← hswapped]
    simp only [State.setGeometry_geometry, afterSwap, hnone]
  · have hpending : s.geometry.pendingSet = some x := hx
    rw [settle_geometry]
    simp only [State.setGeometry_geometry, afterSwap, hpending, hswapped, startComputing]
    rfl
  · rw [outside_settle, settle_geometry]; rfl
  · exact (settle_setGeometry_rest h _).1
  · exact (settle_setGeometry_rest h _).2
  · exact settle_mode s _
  · rw [settle_unclamped, ← afterSwap_f hf]; rfl

/-! ### CORNERS (R46, R47, R49) -/

/-- An edit moves neither the published F nor geometry failure. -/
theorem offerEdit_f (c : CornerSet) (g : Geometry) : (offerEdit c g).f = g.f := by
  unfold offerEdit
  split
  · rfl
  · cases g.state <;> rfl

theorem offerEdit_newest (h : c = newestSet g) : offerEdit c g = g := if_pos h

theorem offerEdit_working (h : c ≠ newestSet g) (hs : g.state ≠ .idle) :
    offerEdit c g = { g with pendingSet := some c } := by
  unfold offerEdit
  rw [if_neg h]
  cases e : g.state with
  | idle => exact absurd e hs
  | computing | loading | swapWait => rfl

theorem offerEdit_idle (h : c ≠ newestSet g) (hs : g.state = .idle) :
    offerEdit c g = startComputing c { g with pendingSet := none } := by
  unfold offerEdit
  rw [if_neg h, hs]

theorem ownCorners_passes (hb : cornersOf t.body = some c)
    (hp : passesCheck s.locks (requesterOf t) ⟨false, false, false, true, false⟩ = true) :
    ownCorners t s = (s.setGeometry (offerEdit (inRange s.straps.format c) { s.geometry with v := 0 }),
      some ⟨.taken, inRange s.straps.format c != c, []⟩) := by
  unfold ownCorners
  rw [hb]
  simp only [if_pos hp]

theorem replied_setGeometry (d : Bool) (t : Telegram) (r : Result) (s : State) (g : Geometry) :
    replied d t r (s.setGeometry g) = (replied d t r s).setGeometry g := by
  cases d <;> rfl

theorem execCorners_eq (h : Settled s) (ht : AtHead kindCorners t rest s) (hb : cornersOf t.body = some c)
    (hp : passesCheck s.locks (requesterOf t) ⟨false, false, false, true, false⟩ = true) :
    exec .corners s = .next (beaconJudge s
      ((answered t rest ⟨.taken, inRange s.straps.format c != c, []⟩ s).setGeometry
        (offerEdit (inRange s.straps.format c) { s.geometry with v := 0 }))) := by
  set r : Result := ⟨.taken, inRange s.straps.format c != c, []⟩
  set g := offerEdit (inRange s.straps.format c) { s.geometry with v := 0 } with hg
  have hdispatch : dispatch (ofKind kindCorners) ownCorners s = (answered t rest r s).setGeometry g := by
    rw [dispatch_replied ht (ofKind_atHead ht) (ownCorners_passes (s := takeHead t rest s) hb hp), answered_eq,
      ← replied_setGeometry]
    rfl
  have hquiet : Quiet s ((answered t rest r s).setGeometry g) := by
    have hf : g.f = s.geometry.f := offerEdit_f _ _
    rw [answered_eq, replied_eq]
    exact ⟨rfl, rfl, rfl, rfl, rfl, rfl, rfl, rfl, rfl, rfl, hf, rfl, rfl, rfl, rfl, rfl, rfl⟩
  change finish (dispatch (ofKind kindCorners) ownCorners) s = _
  unfold finish
  rw [hdispatch, settle_quiet h hquiet]

/-- Settles O18: by what the offered edit meets, the newest set, an engine at work, or an idle one. -/
theorem cornersAreOfferedAsAnEdit : Obligations.CornersAreOfferedAsAnEdit := by
  intro s t rest c h ht hb hp x g r
  have hnewest : newestSet g = newestSet s.geometry := rfl
  have hexec : exec .corners s = .next (beaconJudge s ((answered t rest r s).setGeometry (offerEdit x g))) :=
    execCorners_eq h ht hb hp
  rw [← hnewest]
  refine ⟨fun heq => ?_, fun hne hs => ?_, fun hne hs => ?_⟩
  · rwa [offerEdit_newest heq] at hexec
  · rwa [offerEdit_working (g := g) hne hs] at hexec
  · rwa [offerEdit_idle (g := g) hne hs] at hexec

end Sys2Proof.Machine
end

section
/-! ## The line records and the light fraction of a set in range (03, R46, R50 to R53) -/

namespace Sys2Proof.Machine

variable {fmt : Fin 4} {c : CornerSet} {t y n : Nat}

/-! ### The rounded quotient (R50) -/

theorem roundQuot_nonneg {num : Int} (den : Nat) (h : 0 ≤ num) :
    roundQuot num den = (2 * num + den) / (2 * den) := by
  unfold roundQuot
  rw [if_neg (not_lt.mpr h)]
  push_cast
  rw [abs_of_nonneg h]

/-- A quotient is rounded to the nearest whole number, a half upwards from 0 on. -/
theorem roundQuot_nearest {num : Int} {den : Nat} (hden : 0 < den) (h : 0 ≤ num) :
    2 * roundQuot num den * den ≤ 2 * num + den ∧ 2 * num + den < 2 * roundQuot num den * den + 2 * den := by
  have hpos : (0 : Int) < 2 * den := by omega
  have hlow := Int.ediv_mul_le (2 * num + den) hpos.ne'
  have hhigh := Int.lt_ediv_add_one_mul_self (2 * num + den) hpos
  rw [roundQuot_nonneg den h]
  constructor <;> linarith

/-- A negative quotient rounds to the negative of its magnitude's rounding. -/
theorem roundQuot_neg (num : Int) {den : Nat} (hden : 0 < den) : roundQuot (-num) den = -roundQuot num den := by
  have hzero : den / (2 * den) = 0 := Nat.div_eq_of_lt (by omega)
  unfold roundQuot
  rcases lt_trichotomy num 0 with h | rfl | h
  · simp [h, h.le]
  · simp [hzero]
  · simp [h, h.le]

/-- The rounding is at most a half away, on either side of 0. -/
theorem roundQuot_near (num : Int) {den : Nat} (hden : 0 < den) :
    2 * num - den ≤ 2 * roundQuot num den * den ∧ 2 * roundQuot num den * den ≤ 2 * num + den := by
  rcases le_total 0 num with h | h
  · obtain ⟨hlow, hhigh⟩ := roundQuot_nearest hden h
    exact ⟨by linarith, hlow⟩
  · obtain ⟨hlow, hhigh⟩ := roundQuot_nearest hden (neg_nonneg.mpr h)
    rw [roundQuot_neg num hden] at hlow hhigh
    constructor <;> linarith

theorem le_roundQuot {a num : Int} {den : Nat} (hden : 0 < den) (h : a * den ≤ num) : a ≤ roundQuot num den := by
  obtain ⟨hlow, -⟩ := roundQuot_near num hden
  have hpos : (0 : Int) < den := by exact_mod_cast hden
  by_contra hlt
  have hstep : (roundQuot num den + 1) * den ≤ a * den := mul_le_mul_of_nonneg_right (by omega) hpos.le
  linarith

theorem roundQuot_le {b num : Int} {den : Nat} (hden : 0 < den) (h : num ≤ b * den) : roundQuot num den ≤ b := by
  have hneg := le_roundQuot (a := -b) (num := -num) hden (by linarith)
  rw [roundQuot_neg num hden] at hneg
  linarith

theorem roundQuot_mul (x : Int) {den : Nat} (hden : 0 < den) : roundQuot (x * den) den = x :=
  le_antisymm (roundQuot_le hden le_rfl) (le_roundQuot hden le_rfl)

theorem roundQuot_zero {den : Nat} (hden : 0 < den) : roundQuot 0 den = 0 := by
  simpa using roundQuot_mul 0 hden

/-! ### An edge between its ends (R51) -/

/-- An edge of a picture line, from `a` at line 0 to `b` at line `n`. -/
def edgeAt (a b : Int) (n t : Nat) : Int := a + roundQuot ((b - a) * t) n

theorem edgeAt_first (a b : Int) (hn : 0 < n) : edgeAt a b n 0 = a := by
  simp [edgeAt, roundQuot_zero hn]

theorem edgeAt_last (a b : Int) (hn : 0 < n) : edgeAt a b n n = b := by
  rw [edgeAt, roundQuot_mul _ hn]; ring

/-- An edge lies where its two ends lie. -/
theorem edgeAt_between {a b lo hi : Int} (hn : 0 < n) (ht : t ≤ n) (ha : lo ≤ a ∧ a ≤ hi) (hb : lo ≤ b ∧ b ≤ hi) :
    lo ≤ edgeAt a b n t ∧ edgeAt a b n t ≤ hi := by
  obtain ⟨ha1, ha2⟩ := ha
  obtain ⟨hb1, hb2⟩ := hb
  have ht0 : (0 : Int) ≤ t := Int.natCast_nonneg t
  have hrest : (0 : Int) ≤ (n : Int) - t := by omega
  have hlow : (lo - a) * n ≤ (b - a) * t := by
    linarith [mul_nonneg (sub_nonneg.mpr ha1) hrest, mul_nonneg (sub_nonneg.mpr hb1) ht0]
  have hhigh : (b - a) * t ≤ (hi - a) * n := by
    linarith [mul_nonneg (sub_nonneg.mpr ha2) hrest, mul_nonneg (sub_nonneg.mpr hb2) ht0]
  have h1 := le_roundQuot hn hlow
  have h2 := roundQuot_le hn hhigh
  unfold edgeAt
  omega

/-- Edges with mirrored ends are mirror images, line by line (R50). -/
theorem edgeAt_mirror (w a b : Int) (hn : 0 < n) : edgeAt (w - a) (w - b) n t = w - edgeAt a b n t := by
  have hnum : (w - b - (w - a)) * t = -((b - a) * t) := by ring
  rw [edgeAt, hnum, roundQuot_neg _ hn, edgeAt]
  ring

theorem leftEdge_eq (fmt : Fin 4) (c : CornerSet) (t : Nat) :
    leftEdge fmt c t = edgeAt c.lt c.lb (pictureSpan fmt c) t := rfl

theorem rightEdge_eq (fmt : Fin 4) (c : CornerSet) (t : Nat) : rightEdge fmt c t =
    edgeAt ((panelWidth fmt : Int) - 1 - c.rt) ((panelWidth fmt : Int) - 1 - c.rb) (pictureSpan fmt c) t := by
  unfold rightEdge edgeAt
  congr 3
  ring

/-! ### A set in range (R44, R46) -/

/-- Width and height of every panel format are multiples of 4, of at least 1280 and 800 (R44). -/
theorem panel_quarters (fmt : Fin 4) : 4 * (panelWidth fmt / 4) = panelWidth fmt ∧
    4 * (panelHeight fmt / 4) = panelHeight fmt ∧ 320 ≤ panelWidth fmt / 4 ∧ 200 ≤ panelHeight fmt / 4 := by
  fin_cases fmt <;> decide

theorem panel_pos (fmt : Fin 4) : (0 : Int) < panelWidth fmt * panelHeight fmt := by
  obtain ⟨-, -, hwidth, hheight⟩ := panel_quarters fmt
  exact mul_pos (by omega) (by omega)

/-- The pulls of a corner set lie within a quarter of their dimension. -/
structure PullsInRange (fmt : Fin 4) (c : CornerSet) : Prop where
  top : c.top ≤ panelHeight fmt / 4
  bot : c.bot ≤ panelHeight fmt / 4
  lt : c.lt ≤ panelWidth fmt / 4
  lb : c.lb ≤ panelWidth fmt / 4
  rt : c.rt ≤ panelWidth fmt / 4
  rb : c.rb ≤ panelWidth fmt / 4

theorem pullsInRange_iff : PullsInRange fmt c ↔ inRange fmt c = c := by
  obtain ⟨top, bot, lt, lb, rt, rb⟩ := c
  simp only [inRange, CornerSet.mk.injEq, inf_eq_left]
  exact ⟨fun ⟨h1, h2, h3, h4, h5, h6⟩ => ⟨h1, h2, h3, h4, h5, h6⟩,
    fun ⟨h1, h2, h3, h4, h5, h6⟩ => ⟨h1, h2, h3, h4, h5, h6⟩⟩

namespace PullsInRange

variable (h : PullsInRange fmt c)
include h

/-- The picture, with the blank lines above and below it, fills the panel and takes at least half of it (R51). -/
theorem span_add : c.top + (pictureSpan fmt c + 1) + c.bot = panelHeight fmt := by
  obtain ⟨-, hheight, -, hbig⟩ := panel_quarters fmt
  obtain ⟨htop, hbot, -⟩ := h
  unfold pictureSpan; omega

theorem span_half : 2 * (panelHeight fmt / 4) ≤ pictureSpan fmt c + 1 := by
  obtain ⟨-, hheight, -, -⟩ := panel_quarters fmt
  have hadd := h.span_add
  obtain ⟨htop, hbot, -⟩ := h
  omega

theorem span_pos : 0 < pictureSpan fmt c := by
  obtain ⟨-, -, -, hbig⟩ := panel_quarters fmt
  have hhalf := h.span_half
  omega

theorem leftEdge_bounds (ht : t ≤ pictureSpan fmt c) :
    0 ≤ leftEdge fmt c t ∧ leftEdge fmt c t ≤ (panelWidth fmt : Int) / 4 := by
  have hpos := h.span_pos
  obtain ⟨-, -, hlt, hlb, -⟩ := h
  rw [leftEdge_eq]
  exact edgeAt_between hpos ht (by omega) (by omega)

theorem rightEdge_bounds (ht : t ≤ pictureSpan fmt c) :
    (panelWidth fmt : Int) - 1 - (panelWidth fmt : Int) / 4 ≤ rightEdge fmt c t ∧
      rightEdge fmt c t ≤ (panelWidth fmt : Int) - 1 := by
  have hpos := h.span_pos
  obtain ⟨-, -, -, -, hrt, hrb⟩ := h
  rw [rightEdge_eq]
  exact edgeAt_between hpos ht (by omega) (by omega)

/-- A picture line is at least half as wide as the panel, and no wider (R51). -/
theorem lineSpan_bounds (ht : t ≤ pictureSpan fmt c) :
    (panelWidth fmt : Int) / 2 - 1 ≤ lineSpan fmt c t ∧ lineSpan fmt c t ≤ (panelWidth fmt : Int) - 1 := by
  obtain ⟨hwidth, -, -, -⟩ := panel_quarters fmt
  obtain ⟨hl1, hl2⟩ := h.leftEdge_bounds ht
  obtain ⟨hr1, hr2⟩ := h.rightEdge_bounds ht
  unfold lineSpan
  omega

/-- The step of a picture line, whose largest value belongs to the narrowest panel (R52). -/
theorem step_bounds (ht : t ≤ pictureSpan fmt c) :
    4096 ≤ roundQuot (4096 * ((panelWidth fmt : Int) - 1)) (lineSpan fmt c t).toNat ∧
      roundQuot (4096 * ((panelWidth fmt : Int) - 1)) (lineSpan fmt c t).toNat ≤ 8198 := by
  obtain ⟨hwidth, -, hbig, -⟩ := panel_quarters fmt
  obtain ⟨hlow, hhigh⟩ := h.lineSpan_bounds ht
  have hden : 0 < (lineSpan fmt c t).toNat := by omega
  have hspan : ((lineSpan fmt c t).toNat : Int) = lineSpan fmt c t := Int.toNat_of_nonneg (by omega)
  obtain ⟨hnear, -⟩ := roundQuot_nearest (num := 4096 * ((panelWidth fmt : Int) - 1)) hden (by omega)
  refine ⟨le_roundQuot hden (by rw [hspan]; omega), ?_⟩
  set q := roundQuot (4096 * ((panelWidth fmt : Int) - 1)) (lineSpan fmt c t).toNat
  rw [hspan] at hnear
  by_contra hq
  have hover : 2 * 8199 * lineSpan fmt c t ≤ 2 * q * lineSpan fmt c t :=
    mul_le_mul_of_nonneg_right (by omega) (by omega)
  omega

theorem source_bounds (ht : t ≤ pictureSpan fmt c) :
    0 ≤ roundQuot (t * ((panelHeight fmt : Int) - 1)) (pictureSpan fmt c) ∧
      roundQuot (t * ((panelHeight fmt : Int) - 1)) (pictureSpan fmt c) ≤ (panelHeight fmt : Int) - 1 := by
  obtain ⟨-, -, -, hbig⟩ := panel_quarters fmt
  have hpos := h.span_pos
  have heq : (t : Int) * ((panelHeight fmt : Int) - 1) = ((panelHeight fmt : Int) - 1 - 0) * t := by ring
  have hbetween := edgeAt_between (a := 0) (b := (panelHeight fmt : Int) - 1) (lo := 0)
    (hi := (panelHeight fmt : Int) - 1) hpos ht (by omega) (by omega)
  rw [edgeAt, zero_add, ← heq] at hbetween
  exact hbetween

/-! ### The first, the last and the mirrored lines (R50 to R52) -/

theorem first_line : leftEdge fmt c 0 = c.lt ∧ rightEdge fmt c 0 = (panelWidth fmt : Int) - 1 - c.rt := by
  rw [leftEdge_eq, rightEdge_eq]
  exact ⟨edgeAt_first _ _ h.span_pos, edgeAt_first _ _ h.span_pos⟩

theorem last_line : leftEdge fmt c (pictureSpan fmt c) = c.lb ∧
    rightEdge fmt c (pictureSpan fmt c) = (panelWidth fmt : Int) - 1 - c.rb := by
  rw [leftEdge_eq, rightEdge_eq]
  exact ⟨edgeAt_last _ _ h.span_pos, edgeAt_last _ _ h.span_pos⟩

theorem rightEdge_mirror (ht : c.lt = c.rt) (hb : c.lb = c.rb) (t : Nat) :
    rightEdge fmt c t = (panelWidth fmt : Int) - 1 - leftEdge fmt c t := by
  rw [rightEdge_eq, leftEdge_eq, ht, hb]
  exact edgeAt_mirror _ _ _ h.span_pos

/-- With no vertical pull every source line is drawn on its own output line. -/
theorem source_unpulled (htop : c.top = 0) (hbot : c.bot = 0) (t : Nat) :
    roundQuot (t * ((panelHeight fmt : Int) - 1)) (pictureSpan fmt c) = t := by
  have hadd := h.span_add
  have hspan : (panelHeight fmt : Int) - 1 = pictureSpan fmt c := by omega
  rw [hspan]
  exact roundQuot_mul _ h.span_pos

end PullsInRange

/-! ### The area (R53) -/

theorem areaTo_eq_sum (fmt : Fin 4) (c : CornerSet) (t : Nat) :
    areaTo fmt c t = ∑ k ∈ Finset.range (t + 1), (lineSpan fmt c k + 1) := by
  induction t with
  | zero => simp [areaTo]
  | succ t ih => rw [areaTo, ih, Finset.sum_range_succ _ (t + 1)]

/-- The width of the picture on an output line. -/
def lineWidth (r : LineRecord) : Int := if r.blank = true then 0 else r.xr - r.xl + 1

theorem lineRecord_blank (h : y < c.top ∨ panelHeight fmt - 1 - c.bot < y) : lineRecord fmt c y = ⟨true, 0, 0, 0, 0⟩ :=
  if_pos h

theorem lineRecord_picture (h : PullsInRange fmt c) (ht : t ≤ pictureSpan fmt c) : lineRecord fmt c (c.top + t) =
    { blank := false
      xl := leftEdge fmt c t
      xr := rightEdge fmt c t
      source := roundQuot (t * ((panelHeight fmt : Int) - 1)) (pictureSpan fmt c)
      step := roundQuot (4096 * ((panelWidth fmt : Int) - 1)) (lineSpan fmt c t).toNat } := by
  have hadd := h.span_add
  unfold lineRecord
  rw [if_neg (by omega), Nat.add_sub_cancel_left]

/-- The area is the sum of the widths over all output lines: the blank ones above and below add nothing. -/
theorem sum_lineWidth (h : PullsInRange fmt c) :
    ((warpTable fmt c).map lineWidth).sum = areaTo fmt c (pictureSpan fmt c) := by
  have hadd := h.span_add
  have habove (k : Nat) (hk : k < c.top) : lineWidth (lineRecord fmt c k) = 0 := by
    rw [lineRecord_blank (.inl hk)]; rfl
  have hbelow (k : Nat) : lineWidth (lineRecord fmt c (c.top + (pictureSpan fmt c + 1) + k)) = 0 := by
    rw [lineRecord_blank (.inr (by omega))]; rfl
  have hpicture (k : Nat) (hk : k < pictureSpan fmt c + 1) :
      lineWidth (lineRecord fmt c (c.top + k)) = lineSpan fmt c k + 1 := by
    rw [lineRecord_picture h (by omega)]; rfl
  calc ((warpTable fmt c).map lineWidth).sum
      = ∑ k ∈ Finset.range (panelHeight fmt), lineWidth (lineRecord fmt c k) := by
        rw [warpTable, List.map_map]; rfl
    _ = ∑ k ∈ Finset.range (pictureSpan fmt c + 1), lineWidth (lineRecord fmt c (c.top + k)) := by
        rw [← hadd, Finset.sum_range_add, Finset.sum_range_add,
          Finset.sum_eq_zero fun k hk => habove k (Finset.mem_range.mp hk), Finset.sum_eq_zero fun k _ => hbelow k]
        ring
    _ = areaTo fmt c (pictureSpan fmt c) := by
        rw [areaTo_eq_sum]
        exact Finset.sum_congr rfl fun k hk => hpicture k (Finset.mem_range.mp hk)

namespace PullsInRange

variable (h : PullsInRange fmt c)
include h

/-- The picture takes at least half the lines, each at least half as wide as the panel. -/
theorem area_ge : (panelWidth fmt : Int) * panelHeight fmt ≤ 4 * areaTo fmt c (pictureSpan fmt c) := by
  obtain ⟨hwidth, hheight, -, -⟩ := panel_quarters fmt
  have hhalf := h.span_half
  have hline (k : Nat) (hk : k ∈ Finset.range (pictureSpan fmt c + 1)) :
      (panelWidth fmt : Int) / 2 ≤ lineSpan fmt c k + 1 := by
    have hbounds := h.lineSpan_bounds (Nat.le_of_lt_succ (Finset.mem_range.mp hk))
    omega
  have hsum := Finset.card_nsmul_le_sum _ _ _ hline
  rw [Finset.card_range, ← areaTo_eq_sum, nsmul_eq_mul] at hsum
  have hhalves : (panelHeight fmt : Int) ≤ 2 * (pictureSpan fmt c + 1 : Nat) := by omega
  have hwidths : (panelWidth fmt : Int) = 2 * ((panelWidth fmt : Int) / 2) := by omega
  calc (panelWidth fmt : Int) * panelHeight fmt
      ≤ panelWidth fmt * (2 * (pictureSpan fmt c + 1 : Nat)) :=
        mul_le_mul_of_nonneg_left hhalves (Int.natCast_nonneg _)
    _ = 4 * ((pictureSpan fmt c + 1 : Nat) * ((panelWidth fmt : Int) / 2)) := by
        conv_lhs => rw [hwidths]
        ring
    _ ≤ 4 * areaTo fmt c (pictureSpan fmt c) := by linarith

theorem area_le_lines : areaTo fmt c (pictureSpan fmt c) ≤ (pictureSpan fmt c + 1 : Nat) * (panelWidth fmt : Int) := by
  have hline (k : Nat) (hk : k ∈ Finset.range (pictureSpan fmt c + 1)) : lineSpan fmt c k + 1 ≤ panelWidth fmt := by
    have hbounds := h.lineSpan_bounds (Nat.le_of_lt_succ (Finset.mem_range.mp hk))
    omega
  have hsum := Finset.sum_le_card_nsmul _ _ _ hline
  rwa [Finset.card_range, ← areaTo_eq_sum, nsmul_eq_mul] at hsum

theorem lines_le : (pictureSpan fmt c + 1 : Nat) * (panelWidth fmt : Int) ≤ (panelWidth fmt : Int) * panelHeight fmt := by
  have hadd := h.span_add
  rw [mul_comm]
  exact mul_le_mul_of_nonneg_left (by omega) (Int.natCast_nonneg _)

theorem area_le : areaTo fmt c (pictureSpan fmt c) ≤ (panelWidth fmt : Int) * panelHeight fmt :=
  h.area_le_lines.trans h.lines_le

/-- Only the plain set draws on the whole panel: no line is blank, and the first and the last are as wide as it is. -/
theorem plain_of_area (harea : areaTo fmt c (pictureSpan fmt c) = (panelWidth fmt : Int) * panelHeight fmt) :
    c = .plain := by
  obtain ⟨hwidth, -, hbig, -⟩ := panel_quarters fmt
  have hadd := h.span_add
  have hlines := le_antisymm h.lines_le (harea ▸ h.area_le_lines)
  have hall : ((pictureSpan fmt c + 1 : Nat) : Int) = panelHeight fmt := by
    rw [mul_comm] at hlines
    exact mul_left_cancel₀ (by omega) hlines
  have hsum : ∑ k ∈ Finset.range (pictureSpan fmt c + 1), (lineSpan fmt c k + 1) =
      ∑ _k ∈ Finset.range (pictureSpan fmt c + 1), (panelWidth fmt : Int) := by
    rw [← areaTo_eq_sum, harea, ← hlines, Finset.sum_const, Finset.card_range, nsmul_eq_mul]
  have hwhole (k : Nat) (hk : k ≤ pictureSpan fmt c) : lineSpan fmt c k + 1 = panelWidth fmt := by
    refine (Finset.sum_eq_sum_iff_of_le fun j hj => ?_).mp hsum k (Finset.mem_range.mpr (Nat.lt_succ_of_le hk))
    have hbounds := h.lineSpan_bounds (Nat.le_of_lt_succ (Finset.mem_range.mp hj))
    omega
  have hfirst := hwhole 0 (Nat.zero_le _)
  have hlast := hwhole _ le_rfl
  obtain ⟨hl0, hr0⟩ := h.first_line
  obtain ⟨hln, hrn⟩ := h.last_line
  unfold lineSpan at hfirst hlast
  rw [hl0, hr0] at hfirst
  rw [hln, hrn] at hlast
  obtain ⟨top, bot, lt, lb, rt, rb⟩ := c
  simp only [CornerSet.plain, CornerSet.mk.injEq]
  simp only at hadd hfirst hlast
  omega

/-! ### The light fraction (R53) -/

theorem lightFraction_eq : (lightFraction fmt c : Int) =
    1024 * areaTo fmt c (pictureSpan fmt c) / (panelWidth fmt * panelHeight fmt) := by
  have hpos := panel_pos fmt
  have harea : 0 ≤ areaTo fmt c (pictureSpan fmt c) := by linarith [h.area_ge]
  unfold lightFraction
  push_cast
  rw [Int.toNat_of_nonneg harea]

theorem lightFraction_bounds : 256 ≤ lightFraction fmt c ∧ lightFraction fmt c ≤ 1024 := by
  have hpos := panel_pos fmt
  have hlow : (256 : Int) ≤ lightFraction fmt c := by
    rw [h.lightFraction_eq, Int.le_ediv_iff_mul_le hpos]
    linarith [h.area_ge]
  have hhigh : (lightFraction fmt c : Int) < 1025 := by
    rw [h.lightFraction_eq, Int.ediv_lt_iff_lt_mul hpos]
    linarith [h.area_le]
  omega

theorem lightFraction_full : lightFraction fmt c = 1024 ↔ c = .plain := by
  refine ⟨fun hfull => h.plain_of_area (le_antisymm h.area_le ?_), fun hplain => hplain ▸ lightFraction_plain fmt⟩
  have hge : (1024 : Int) ≤ lightFraction fmt c := by omega
  rw [h.lightFraction_eq, Int.le_ediv_iff_mul_le (panel_pos fmt)] at hge
  linarith

end PullsInRange

/-! ### The warp table (R51, R52) -/

theorem warpTable_getElem? (hy : y < panelHeight fmt) : (warpTable fmt c)[y]? = some (lineRecord fmt c y) := by
  simp [warpTable, hy]

/-- Settles O43: the formulas are the model's, their bounds those of a quotient between whole numbers, and F follows from
the bounds of the area. -/
theorem lightFractionRange : Obligations.LightFractionRange := by
  refine ⟨fun num den hden => ⟨roundQuot_neg num hden, roundQuot_nearest hden⟩, fun fmt c hc => ?_,
    fun s c h hs hc => ⟨_, finish_setGeometry_unreported h (computationEnds_computing hs hc) rfl rfl, rfl, rfl, rfl⟩⟩
  have h := pullsInRange_iff.mpr hc
  have hadd := h.span_add
  intro width height n
  have hn : n.toNat = pictureSpan fmt c := by omega
  rw [hn]
  refine ⟨fun y hy => ⟨lineRecord fmt c y, warpTable_getElem? hy, fun hblank => lineRecord_blank (by omega),
    fun htop hbot => ?_⟩, by simp [warpTable], ?_⟩
  · obtain ⟨t, rfl⟩ : ∃ t, y = c.top + t := ⟨y - c.top, by omega⟩
    have hspan : t ≤ pictureSpan fmt c := by omega
    have hline : ((c.top + t : Nat) : Int) - c.top = t := by omega
    obtain ⟨hl1, hl2⟩ := h.leftEdge_bounds hspan
    obtain ⟨hr1, hr2⟩ := h.rightEdge_bounds hspan
    obtain ⟨hs1, hs2⟩ := h.source_bounds hspan
    obtain ⟨hstep1, hstep2⟩ := h.step_bounds hspan
    obtain ⟨hwide, -⟩ := h.lineSpan_bounds hspan
    rw [lineRecord_picture h hspan, hline]
    refine ⟨rfl, rfl, rfl, rfl, rfl, hl1, hl2, hr1, hr2, hwide, hs1, hs2, hstep1, hstep2, fun hfirst => ?_,
      fun hlast => ?_, fun htop hbot => ?_, fun hmt hmb => h.rightEdge_mirror hmt hmb t⟩
    · obtain rfl : t = 0 := by omega
      exact ⟨h.first_line.1, h.first_line.2, by simpa using roundQuot_zero h.span_pos⟩
    · obtain rfl : t = pictureSpan fmt c := by omega
      refine ⟨h.last_line.1, h.last_line.2, ?_⟩
      rw [mul_comm]
      exact roundQuot_mul _ h.span_pos
    · rw [htop, Nat.zero_add]
      exact h.source_unpulled htop hbot t
  · intro area
    have harea : area = areaTo fmt c (pictureSpan fmt c) := sum_lineWidth h
    rw [harea]
    exact ⟨h.area_ge, h.area_le, h.lightFraction_eq, h.lightFraction_bounds.1, h.lightFraction_bounds.2,
      h.lightFraction_full⟩

end Sys2Proof.Machine
end

section
/-! ## The beacon timer, the beacon spacing and the claim renewal (04, 05, R5, R79, R81) -/

namespace Sys2Proof.Machine

variable {s : State}

/-- The settling reads FRESH and DUPLICATE alone of the listening conditions, and of the line what the beacon tells of
it. -/
theorem settle_listenLine (h : Settled s) {x : Listen} {l : HallLine} (hf : x.fresh.isSome = s.listen.fresh.isSome)
    (hd : x.duplicate.isSome = s.listen.duplicate.isSome) (hb : l.busy = s.line.busy) (hp : l.poor = s.line.poor) :
    settle s ((s.setListen x).setLine l) = (s.setListen x).setLine l := by
  set u := (s.setListen x).setLine l
  have hfresh : freshFlag u = freshFlag s := hf
  have hdup : isDuplicate u = isDuplicate s := hd
  have hisFresh : isFresh u = isFresh s := congrArg (· || !s.start.receiver) hf
  have hattention : attentionFlag u = attentionFlag s := by unfold attentionFlag; rw [hdup]; rfl
  have hflags : ownFlags u = ownFlags s := by
    unfold ownFlags
    rw [hfresh, hdup, hattention, show u.line.busy = s.line.busy from hb, show u.line.poor = s.line.poor from hp]
    rfl
  have hcauses : beaconCauses s = beaconCauses u := by unfold beaconCauses; rw [hflags]; rfl
  have q : Quiet s u := ⟨rfl, rfl, rfl, rfl, rfl, rfl, rfl, rfl, rfl, rfl, rfl, hisFresh, hdup, rfl, rfl, rfl, rfl⟩
  rw [settle_quiet h q, beaconJudge_same hcauses]

/-- A beacon falling due, by what stands in its slot (R81, log 16). -/
theorem beaconDue_slot (l : HallLine) : beaconDue l =
    if (l.queue.any fun e => isBeacon e.payload) = true then
      { l with dueAgain := l.dueAgain || l.queue.any fun e => isBeacon e.payload && e.sending }
    else { l with queue := l.queue ++ [newEntry .beacon] } := by
  unfold beaconDue
  split
  · cases hs : l.queue.any fun e => isBeacon e.payload && e.sending <;> simp
  · rfl

/-- The settling reads no claim renewal timer and no send queue. -/
theorem settle_renewal (h : Settled s) (t : Timer) (q : List QueueEntry) :
    let u := (s.setLamp { s.lamp with renewal := t }).setLine { s.line with queue := q }
    settle s u = u := by
  intro u
  obtain ⟨-, -, -, -, hretarget, hstall, -⟩ := id h
  have r : SameSide s u := ⟨rfl, rfl, rfl, rfl, rfl, rfl, rfl, rfl, rfl, rfl⟩
  have rs : SteadyReads s u := ⟨rfl, rfl, rfl, rfl, rfl, rfl, rfl, rfl, rfl, rfl, rfl, rfl, rfl⟩
  rw [settle_steadyReads h r rs rfl,
    retarget_congr (u := u) hretarget rfl rfl rfl rfl rfl, fanStallJudge_congr (u := u) hstall rfl rfl rfl]
  exact beaconJudge_same rfl

/-- The claim renewal in WAITING and STRIKING (R5). -/
theorem renewClaim_claiming (hr : s.lamp.renewal.isSome = true) (hc : claiming s.lamp.state = true) :
    renewClaim s = (s.setLamp { s.lamp with renewal := some 4000 }).setLine
      { s.line with queue := if claimWaits s.line then s.line.queue else (handOver .claim s.line).queue } := by
  have hsend (v : State) : (if claimWaits v.line then v else send .claim v) =
      v.setLine { v.line with queue := if claimWaits v.line then v.line.queue else (handOver .claim v.line).queue } := by
    split
    · rfl
    · exact congrArg v.setLine handOver_eq
  unfold renewClaim
  rw [if_pos hr]
  cases hs : s.lamp.state with
  | waiting | striking => exact hsend _
  | dark | warming | lit | cooling | fault => rw [hs] at hc; cases hc

/-- Settles O29: what each timer's end leaves, none of which the settling reads. -/
theorem beaconAndClaimTimers : Obligations.BeaconAndClaimTimers := by
  intro s h
  refine ⟨fun hb => ?_, ?_, fun hr hc => ?_⟩
  · have hop : periodicBeacon s = (s.setListen { s.listen with beacon := none }).setLine (beaconDue s.line) := if_pos hb
    obtain ⟨hbusy, hpoor⟩ : (beaconDue s.line).busy = s.line.busy ∧ (beaconDue s.line).poor = s.line.poor := by
      rw [beaconDue_eq]; exact ⟨rfl, rfl⟩
    change Host.Outcome.next (settle s (periodicBeacon s)) = _
    rw [hop, settle_listenLine h (x := { s.listen with beacon := none }) rfl rfl hbusy hpoor, beaconDue_slot]
  · exact congrArg _ (settle_listenLine (x := { s.listen with spacing := none }) (l := s.line) h rfl rfl rfl rfl)
  · have hline : { s.line with queue := if claimWaits s.line then s.line.queue else (handOver .claim s.line).queue } =
        if (s.line.queue.any fun e => e.payload == .claim && !e.sending) = true ∨ hasFree s.line = false then s.line
        else { s.line with queue := s.line.queue ++ [newEntry .claim] } := by
      rw [handOver_queue, ← claimWaits]
      cases claimWaits s.line <;> cases hasFree s.line <;> rfl
    change Host.Outcome.next (settle s (renewClaim s)) = _
    rw [renewClaim_claiming hr hc, settle_renewal h, hline]

end Sys2Proof.Machine
end

section
/-! ## The ends of FRESH and of DUPLICATE (04, R75, R78, R113) -/

namespace Sys2Proof.Machine

variable {s u v b : State} {e : QueueEntry}

/-! ### What a start and an election can do -/

/-- Between `s` and `u` the lamp has stayed where it was, or has entered WAITING (R4, R15, R113). -/
structure Risen (s u : State) : Prop where
  state : u.lamp.state = s.lamp.state ∨ u.lamp.state = .waiting ∧ litSide s.lamp.state = false
  retryGap : u.lamp.retryGap = s.lamp.retryGap
  wear : u.wear = s.wear
  claims : u.claims = s.claims
  locks : u.locks = s.locks
  outside : outside u = outside s

namespace Risen

theorem refl (s : State) : Risen s s := ⟨.inl rfl, rfl, rfl, rfl, rfl, rfl⟩

theorem litSide (r : Risen s u) : litSide u.lamp.state = litSide s.lamp.state := by
  rcases r.state with h | ⟨h, hs⟩
  · rw [h]
  · rw [h, hs]; rfl

theorem trans (r : Risen s u) (q : Risen u v) : Risen s v where
  state := by
    rcases q.state with h | ⟨h, hu⟩
    · rw [h]; exact r.state
    · exact .inr ⟨h, r.litSide ▸ hu⟩
  retryGap := q.retryGap.trans r.retryGap
  wear := q.wear.trans r.wear
  claims := q.claims.trans r.claims
  locks := q.locks.trans r.locks
  outside := q.outside.trans r.outside

theorem enterWaiting (h : Machine.litSide s.lamp.state = false) : Risen s (enterWaiting s) :=
  ⟨.inr ⟨rfl, h⟩, rfl, rfl, rfl, rfl, by simp⟩

theorem startTest (s : State) : Risen s (startTest s) := by
  unfold Machine.startTest
  split
  · next h => exact .enterWaiting (by rw [h.1]; rfl)
  · exact .refl s

theorem nowWanted (s : State) : Risen s (nowWanted s) := by
  unfold Machine.nowWanted
  have hrelight : Risen s (setRelight true s) := ⟨.inl rfl, rfl, rfl, rfl, rfl, rfl⟩
  cases hs : s.lamp.state with
  | dark => exact .startTest s
  | cooling =>
    simp only
    split
    · exact hrelight
    · split
      · exact .enterWaiting (by rw [hs]; rfl)
      · exact hrelight
  | waiting | striking | warming | lit | fault => exact .refl s

end Risen

/-- The own station selected by the election (R113). -/
def elected (s : State) : State := s.setGroup { s.group with selection := .elected }

theorem elected_risen (s : State) : Risen s (elected s) := ⟨.inl rfl, rfl, rfl, rfl, rfl, rfl⟩

theorem onDecision_wanted (h : wanted s = true) (w : Bool) : onDecision w s = s ∨ onDecision w s = nowWanted s := by
  unfold onDecision
  rw [h]
  cases inService s <;> cases w <;> simp

/-- An election at the own station's becoming available withdraws nothing: it elects, and may make the lamp wanted. -/
theorem electIfAvailable_elects (b s : State) : electIfAvailable b s = s ∨ electIfAvailable b s = elected s ∨
    electIfAvailable b s = nowWanted (elected s) := by
  unfold electIfAvailable
  split
  · next h =>
    unfold elect
    split
    · simp only [Bool.and_eq_true] at h
      obtain ⟨⟨hmode, -⟩, -⟩ := h
      have hwanted : wanted (elected s) = true := by simp [wanted, elected, hmode]
      exact .inr (onDecision_wanted hwanted _)
    · exact .inl rfl
  · exact .inl rfl

theorem electIfAvailable_risen (b s : State) : Risen s (electIfAvailable b s) := by
  rcases electIfAvailable_elects b s with h | h | h <;> rw [h]
  · exact .refl s
  · exact elected_risen s
  · exact (elected_risen s).trans (.nowWanted _)

/-- An election leaves a lamp in WAITING there, and its CLAIM where it is (R113). -/
theorem electIfAvailable_waiting (b : State) (h : s.lamp.state = .waiting) :
    (electIfAvailable b s).lamp = s.lamp ∧ (electIfAvailable b s).line = s.line := by
  have hrest : nowWanted (elected s) = elected s := by
    have he : (elected s).lamp.state = .waiting := h
    unfold nowWanted; rw [he]
  rcases electIfAvailable_elects b s with hb | hb | hb
  · rw [hb]; exact ⟨rfl, rfl⟩
  · rw [hb]; exact ⟨rfl, rfl⟩
  · rw [hb, hrest]; exact ⟨rfl, rfl⟩

/-- The own station, become available with the group ON, elects itself if the election takes it (R113). -/
theorem electIfAvailable_selection (hm : s.group.mode.isSome = true) (hb : ownAvailable b = false)
    (ha : ownAvailable s = true) (ht : electionTakesOwn s = true) :
    (electIfAvailable b s).group.selection = .elected := by
  unfold electIfAvailable
  rw [hm, hb, ha]
  change (elect s).group.selection = _
  rw [elect_group, if_pos ht]

/-- A lamp that starts leaves its station available, and one that the election takes (R111, R113). -/
theorem startTest_electable (ha : ownAvailable s = true) (ht : electionTakesOwn s = true) :
    ownAvailable (startTest s) = true ∧ electionTakesOwn (startTest s) = true := by
  unfold startTest
  split
  · have hw : ownAvailable (enterWaiting s) = true := by
      unfold ownAvailable at ha ⊢
      simp only [Bool.and_eq_true] at ha
      obtain ⟨⟨⟨⟨-, hlock⟩, hfresh⟩, hservice⟩, hdup⟩ := ha
      simp only [Bool.and_eq_true]
      exact ⟨⟨⟨⟨rfl, hlock⟩, hfresh⟩, hservice⟩, hdup⟩
    refine ⟨hw, ?_⟩
    unfold electionTakesOwn
    rw [show (ownMember (enterWaiting s)).available = true from hw]
    rfl
  · exact ⟨ha, ht⟩

/-! ### The settling that follows, alone in the group -/

/-- The last judgements take nothing out of the send queue. -/
theorem mem_lastJudgements (he : e ∈ s.line.queue) :
    e ∈ (beaconJudge b (idleJudge (fanStallJudge (retarget (judgeGroup s))))).line.queue := by
  have hline : (idleJudge (fanStallJudge (retarget (judgeGroup s)))).line = s.line := by
    rw [retarget_eq, judgeGroup_spec]; rfl
  rw [← hline] at he
  unfold beaconJudge
  split
  · exact he
  · exact mem_beaconDue he

/-- Alone, a settled station whose lamp has risen by a change of the listening conditions has its start judged, and nothing
to strike, lock or withdraw by. -/
theorem settle_risen {x : Listen} (h : Settled s) (halone : Alone s) (r : Risen (s.setListen x) u) :
    settle b u = beaconJudge b (idleJudge (fanStallJudge (retarget (judgeGroup (startTest u))))) := by
  obtain ⟨hlife, -, hstrike, -⟩ := id h
  obtain ⟨halonePeers, hclaim⟩ := halone
  have hjudged {w : State} (q : Risen (s.setListen x) w) : lifeJudge w = w :=
    lifeJudge_fixed.mpr
      ((lifeJudge_fixed.mp hlife).congr q.wear (congrArg State.settings q.outside :) q.locks q.litSide)
  have q : Risen (s.setListen x) (startTest u) := r.trans (.startTest u)
  have hcommitted : committedPeers (startTest u) = [] := (committedPeers_outside q.outside).trans halonePeers
  have hunclaimed : ownClaimed (startTest u) = false := by
    have hstraps : (startTest u).straps = s.straps := (congrArg State.straps q.outside :)
    unfold ownClaimed at hclaim ⊢
    rw [q.claims, hstraps]
    exact hclaim
  have hstill : strikeTest (startTest u) = startTest u := by
    refine strikeTest_fixed.mpr ⟨fun _ ⟨hp, _⟩ => ?_, fun hg => ?_⟩
    · unfold permission at hp; rw [hunclaimed] at hp; cases hp
    · have hpins : (startTest u).pins = s.pins := (congrArg State.pins q.outside :)
      rcases q.state with hs | ⟨hs, -⟩
      · rw [q.retryGap, hpins]
        exact (strikeTest_fixed.mp hstrike).2 (hs.symm.trans hg)
      · rw [hs] at hg; cases hg
  exact settle_alone (hjudged r) rfl hstill (hjudged q) hcommitted

/-- A listening condition has ended: the start is tested and the election run (R75, R78, R113). -/
theorem listeningEnds (h : Settled s) (halone : Alone s) (hn : ownAvailable s = false) (x : Listen) :
    let v := s.setListen x
    let u := settle s (electIfAvailable s (startTest v))
    outside u = outside v ∧ u.locks = s.locks ∧
    (s.lamp.state = .dark → startConditions v = true → u.lamp.state = .waiting ∧ u.lamp.renewal = some 4000 ∧
      (hasFree s.line = true → newEntry .claim ∈ u.line.queue)) ∧
    (s.group.mode.isSome = true → ownAvailable v = true → electionTakesOwn v = true → u.group.selection = .elected) := by
  intro v u
  set w := electIfAvailable s (startTest v) with hw
  have r : Risen v w := (Risen.startTest v).trans (electIfAvailable_risen s _)
  have hu : u = beaconJudge s (idleJudge (fanStallJudge (retarget (judgeGroup (startTest w))))) :=
    settle_risen h halone r
  refine ⟨by simp [u], ?_, fun hd hc => ?_, fun hm ha ht => ?_⟩
  · obtain ⟨hlast, -⟩ := lastJudgements_rest s (judgeGroup (startTest w))
    obtain ⟨hgroup, -⟩ := judgeGroup_rest (startTest w)
    rw [hu, hlast, hgroup, startTest_locks, r.locks]
    rfl
  · have hstart : startTest v = enterWaiting v := if_pos ⟨hd, hc⟩
    obtain ⟨hlamp, hline⟩ : w.lamp = (enterWaiting v).lamp ∧ w.line = (enterWaiting v).line := by
      rw [hw, hstart]; exact electIfAvailable_waiting s rfl
    have hstate : w.lamp.state = .waiting := by rw [hlamp]; rfl
    have hrest : startTest w = w := startTest_fixed.mpr fun ⟨hdark, _⟩ => by rw [hstate] at hdark; cases hdark
    rw [hrest] at hu
    have hlast := lastJudgements_lamp s w
    rw [← hu] at hlast
    refine ⟨by rw [hlast]; exact hstate, by rw [hlast, hlamp]; rfl, fun hfree => ?_⟩
    rw [hu]
    refine mem_lastJudgements ?_
    rw [hline]
    exact mem_handOver hfree
  · obtain ⟨ha', ht'⟩ := startTest_electable ha ht
    have hsel : w.group.selection = .elected :=
      electIfAvailable_selection (by rw [startTest_group]; exact hm) hn ha' ht'
    rw [hu, lastJudgements_group, judgeGroup_spec]
    exact (congrArg Group.selection (startTest_group w)).trans hsel

/-- Settles O28: a station that was FRESH or DUPLICATE was not available, so both are ends of a listening condition. -/
theorem freshAndDuplicateEnd : Obligations.FreshAndDuplicateEnd := by
  intro s h halone
  refine ⟨fun hf => ?_, fun hd => ?_, fun hn => finish_unchanged h (if_neg (by rw [hn]; nofun)),
    fun hn => finish_unchanged h (if_neg (by rw [hn]; nofun))⟩
  · have hout : ownAvailable s = false := by simp [ownAvailable, isFresh, freshFlag, hf]
    obtain ⟨houtside, hlocks, hrest⟩ := listeningEnds h halone hout { s.listen with fresh := none }
    refine ⟨_, congrArg (fun v => Host.Outcome.next (settle s v)) (if_pos hf), houtside, ?_, hlocks, hrest⟩
    exact congrArg (fun x : Listen => x.fresh.isSome) (congrArg State.listen houtside :)
  · have hout : ownAvailable s = false := by simp [ownAvailable, isDuplicate, hd]
    obtain ⟨houtside, hlocks, hrest⟩ := listeningEnds h halone hout { s.listen with duplicate := none }
    refine ⟨_, congrArg (fun v => Host.Outcome.next (settle s v)) (if_pos hd), houtside, ?_, hlocks, hrest⟩
    exact congrArg (fun x : Listen => x.duplicate.isSome) (congrArg State.listen houtside :)

end Sys2Proof.Machine
end

section
/-! ## A received beacon (04, R65 to R68, R76, R77) -/

namespace Sys2Proof.Machine

variable {s u b : State} {t : Telegram} {k n : Nat} {info : PeerInfo} {ps : List Peer}

/-- A beacon that arrives is taken by the Peer Table, and the step settled (R65, R173). -/
theorem execBeacon_received (h : Received kindBeacon t k s) :
    exec (.beacon (signalsFrom k t)) s = .next (settle s (takeBeacon t (telegramIn s))) := by
  obtain ⟨harrives, hkind, -⟩ := id h
  have hown : handTo t (telegramIn s) = takeBeacon t (telegramIn s) := if_pos hkind
  change Host.Outcome.next (receive (signalsFrom k t) s) = _
  rw [receive_arrives harrives, deliver_received h (by decide), hown]

theorem settle_telegramIn (h : Settled s) : settle s (telegramIn s) = telegramIn s :=
  settle_listenLine (x := s.listen) (l := { s.line with reading := .idle, idle := .notYet }) h rfl rfl rfl rfl

/-! ### The settling where the Peer Table changed alone -/

/-- Life limit, start and strike read no peer: with the table changed, locks and wear stand, and a burning lamp burns
on. -/
theorem settle_setPeers (h : Settled s) (ps : List Peer) (l : HallLine) :
    let u := settle s ((s.setPeers ps).setLine l)
    u.locks = s.locks ∧ u.wear = s.wear ∧ u.group.mode = s.group.mode ∧
    u.group.levelOverride = s.group.levelOverride ∧ u.lamp.faults = s.lamp.faults ∧
    (burning s.lamp.state = true → u.lamp.state = s.lamp.state) := by
  obtain ⟨hlife, hstart, hstrike, -⟩ := h
  set v := (s.setPeers ps).setLine l
  have rs : SteadyReads s v := ⟨rfl, rfl, rfl, rfl, rfl, rfl, rfl, rfl, rfl, rfl, rfl, rfl, rfl⟩
  have hsteady := Steady.congr rs ⟨lifeJudge_fixed.mp hlife, startTest_fixed.mp hstart, hstrike⟩
  have h1 : lifeJudge v = v := lifeJudge_fixed.mpr hsteady.life
  have h2 : startTest v = v := startTest_fixed.mpr hsteady.start
  obtain ⟨hlocks, hwear⟩ := settle_steady_rest (b := s) h1 h2 hsteady.strike
  have horders := settle_orders s v
  simp only [groupOrders, Prod.mk.injEq] at horders
  obtain ⟨hmode, hlevel, -⟩ := horders
  exact ⟨hlocks, hwear, hmode, hlevel, (congrArg Lamp.faults (settle_keeps s v).lamp :),
    fun hb => settle_steady_state h1 h2 hsteady.strike hb⟩

/-- The group's judgement reads of the Peer Table the committed members alone. -/
theorem judgedGroup_setPeers {l : HallLine} (hc : committedPeers (s.setPeers ps) = committedPeers s) :
    judgedGroup ((s.setPeers ps).setLine l) = judgedGroup s := by
  set v := (s.setPeers ps).setLine l
  have hpeers : committedPeers v = committedPeers s := hc
  have hunclamped : unclampedPower v = unclampedPower s := by unfold unclampedPower; rw [hpeers]; rfl
  have hpower : commonPower v = commonPower s := by unfold commonPower; rw [hunclamped]; rfl
  have hshortfall : shortfallNow v = shortfallNow s := by unfold shortfallNow; rw [hunclamped]; rfl
  have hshort : shortWhenJudged v = shortWhenJudged s := by
    unfold shortWhenJudged
    rw [hpower, hunclamped, hshortfall, groupShort_eq, groupShort_eq,
      show committedPeers (v.setGroup _) = committedPeers (s.setGroup _) from hc]
    rfl
  unfold judgedGroup
  rw [hpower, hunclamped, hshortfall, hshort]
  rfl

/-- A table with the same committed members leaves nothing to settle. -/
theorem settle_sameMembers {l : HallLine} (h : Settled s) (hc : committedPeers (s.setPeers ps) = committedPeers s)
    (hcauses : beaconCauses s = beaconCauses ((s.setPeers ps).setLine l)) :
    settle s ((s.setPeers ps).setLine l) = (s.setPeers ps).setLine l := by
  obtain ⟨hlife, hstart, hstrike, hgroup, hretarget, hstall, hidle⟩ := h
  set v := (s.setPeers ps).setLine l
  have rs : SteadyReads s v := ⟨rfl, rfl, rfl, rfl, rfl, rfl, rfl, rfl, rfl, rfl, rfl, rfl, rfl⟩
  have hsteady := Steady.congr rs ⟨lifeJudge_fixed.mp hlife, startTest_fixed.mp hstart, hstrike⟩
  have hjudged : judgeGroup v = v := judgeGroup_fixed.mpr ((judgedGroup_setPeers hc).trans (judgeGroup_fixed.mp hgroup))
  have hinputs : powerInputs s = powerInputs v := by
    unfold powerInputs; rw [show committedPeers v = committedPeers s from hc]; rfl
  rw [settle_fixed (lifeJudge_fixed.mpr hsteady.life) (startTest_fixed.mpr hsteady.start) hsteady.strike hjudged
    (withdrawTest_same hinputs) (retarget_congr hretarget rfl rfl rfl rfl rfl) (fanStallJudge_congr hstall rfl rfl rfl)
    ((idleJudge_fixed (s := v)).mpr ((idleJudge_fixed (s := s)).mp hidle)), beaconJudge_same hcauses]

/-! ### The beacon of another station -/

/-- A station's first beacon adds a HEARD entry, which is no member (R66, R110). -/
theorem readBeacon_first (h : (s.peers.any fun p => p.station == n) = false) :
    readBeacon n info s.peers = s.peers ++ [⟨n, info, .heard, 0, some (2500 * info.interval)⟩] ∧
    committedPeers (s.setPeers (readBeacon n info s.peers)) = committedPeers s := by
  have hread : readBeacon n info s.peers = s.peers ++ [⟨n, info, .heard, 0, some (2500 * info.interval)⟩] :=
    if_neg (by rw [h]; nofun)
  refine ⟨hread, ?_⟩
  rw [hread]
  unfold committedPeers peerMembers
  rw [State.setPeers_peers, List.filter_append]
  simp [isMember]

/-- A later beacon makes its entry PRESENT (R67, R68). -/
theorem readBeacon_later (h : (ps.any fun p => p.station == n) = true) : readBeacon n info ps = ps.map fun p =>
    if p.station = n then ⟨p.station, info, .present, 0, some (1500 * info.interval)⟩ else p := by
  refine (if_pos h).trans (List.map_congr_left fun p _ => ?_)
  split
  · next hp => rw [hp]; rfl
  · rfl

theorem takeBeacon_other (h0 : t.origin ≠ 0) (hn : t.origin.toNat ≠ s.straps.number)
    (hb : beaconOf t.body = some info) :
    takeBeacon t (telegramIn s) =
      (s.setPeers (readBeacon t.origin.toNat info s.peers)).setLine (telegramIn s).line := by
  have hn' : t.origin.toNat ≠ (telegramIn s).straps.number := hn
  unfold takeBeacon
  rw [if_neg h0, if_neg hn', hb]
  rfl

theorem takeBeacon_unread (h0 : t.origin ≠ 0) (hn : t.origin.toNat ≠ s.straps.number) (hb : beaconOf t.body = none) :
    takeBeacon t s = s := by
  unfold takeBeacon
  rw [if_neg h0, if_neg hn, hb]

/-! ### A beacon of the own number -/

theorem unwanted_relight (h : litSide s.lamp.state = true) : (unwanted s).lamp.relight = false := by
  unfold unwanted
  cases hs : s.lamp.state with
  | striking | warming | lit => rfl
  | dark | waiting | cooling | fault => rw [hs] at h; cases h

theorem unwanted_faults (s : State) : (unwanted s).lamp.faults = s.lamp.faults := by
  unfold unwanted
  cases s.lamp.state with
  | striking | warming | lit => exact (congrArg Lamp.faults (extinguish_lamp .cooling s) :)
  | dark | waiting | cooling | fault => rfl

theorem unwanted_unclaimed (h : s.lamp.state = .waiting) : ownClaimed (unwanted s) = false := by
  unfold unwanted
  rw [h]
  exact ownClaimed_releaseClaim s

theorem Still.not_committed (h : Still s) : committedState s.lamp.state = false := by
  rcases h with h | h | ⟨h, -⟩ <;> rw [h] <;> rfl

/-- A lamp neither committed nor wanted stays where it is. -/
theorem still_of_unwanted (hc : committedState s.lamp.state = false) (hw : wanted s = false) : Still s := by
  have hstart := startConditions_unwanted hw
  unfold Still
  cases hs : s.lamp.state with
  | dark | cooling | fault => simp [hstart]
  | waiting | striking | warming | lit => rw [hs] at hc; cases hc

/-- A lamp put out with the selection cleared is out at the end of the step (R14, R77, R114). -/
theorem settle_putOut (b s : State) :
    let u := settle b (clearSelection (unwanted s))
    u.group.selection = .unselected ∧ committedState u.lamp.state = false ∧
    (litSide s.lamp.state = true → u.lamp.state = .cooling ∧ u.lamp.relight = false) ∧
    (s.lamp.state = .waiting → u.lamp.state = .dark ∧ ownClaimed u = false) ∧
    u.lamp.faults = s.lamp.faults ∧ outside u = outside s := by
  intro u
  set v := clearSelection (unwanted s)
  have k : SettleKeeps v u := settle_keeps b v
  have hstill : Still v :=
    still_of_unwanted (unwanted_not_committed s) (by simp [wanted, v, clearSelection])
  have hlamp := k.stillLamp hstill
  have hstate : u.lamp.state = (unwanted s).lamp.state := (congrArg Lamp.state hlamp :)
  refine ⟨k.selection rfl, (k.still hstill).not_committed, fun hl => ⟨?_, ?_⟩, fun hw => ⟨?_, ?_⟩, ?_, by simp [u]⟩
  · rw [hstate, unwanted_state]
    cases hs : s.lamp.state with
    | striking | warming | lit | cooling => rfl
    | dark | waiting | fault => rw [hs] at hl; cases hl
  · by_contra hn
    have hrelight : (unwanted s).lamp.relight = true := k.relight (by simpa using hn)
    rw [unwanted_relight hl] at hrelight; cases hrelight
  · rw [hstate, unwanted_state, hw]
  · have hclaimed : ownClaimed u = ownClaimed (unwanted s) := by
      have hstraps : u.straps = v.straps := settle_straps b v
      unfold ownClaimed
      rw [k.stillClaims hstill, hstraps]
      rfl
    rw [hclaimed, unwanted_unclaimed hw]
  · exact (congrArg Lamp.faults hlamp :).trans (unwanted_faults s)

theorem takeBeacon_own (h0 : t.origin ≠ 0) (hn : t.origin.toNat = s.straps.number) :
    takeBeacon t s = foreignBeacon s := by
  unfold takeBeacon
  rw [if_neg h0, if_pos hn]

/-- Settles O26: by whose number the beacon carries, and what the settling makes of the table or of a lamp put out. -/
theorem beaconsAreReadOrSetDuplicate : Obligations.BeaconsAreReadOrSetDuplicate := by
  intro s t k info h hr
  rw [execBeacon_received hr]
  refine ⟨fun h0 => ?_, fun h0 hn => ⟨fun hb => ⟨_, rfl, ?_⟩, fun hb => ?_⟩,
    fun h0 hn => ⟨fun hd => ⟨_, rfl, ?_⟩, fun hd => ?_⟩⟩
  · rw [show takeBeacon t (telegramIn s) = telegramIn s from if_pos h0, settle_telegramIn h]
  · rw [takeBeacon_other h0 hn hb]
    set l := (telegramIn s).line
    set ps := readBeacon t.origin.toNat info s.peers with hps
    have hpeers : (settle s ((s.setPeers ps).setLine l)).peers = ps := settle_peers _ _
    obtain ⟨hlocks, hwear, hmode, hlevel, hfaults, hburns⟩ := settle_setPeers h ps l
    refine ⟨fun hlater => ?_, fun hfirst => ?_, ?_, hlocks, hwear, hmode, hlevel, hfaults, hburns⟩
    · rw [hpeers, hps, readBeacon_later hlater]
    · obtain ⟨hread, hmembers⟩ := readBeacon_first (info := info) hfirst
      rw [settle_sameMembers (l := l) h hmembers rfl]
      exact ⟨hread, rfl, rfl, rfl⟩
    · rw [hpeers, outside_settle]
      rfl
  · rw [takeBeacon_unread (s := telegramIn s) h0 hn hb, settle_telegramIn h]
  · set v := (telegramIn s).setListen { s.listen with duplicate := some (3 * s.settings.interval * 1000) }
    have hclear : ¬isDuplicate (telegramIn s) = true := fun hset => by cases hd.symm.trans hset
    have hop : takeBeacon t (telegramIn s) = clearSelection (unwanted v) :=
      (takeBeacon_own (s := telegramIn s) h0 hn).trans (if_neg hclear)
    rw [hop]
    obtain ⟨hselection, hout, hlit, hwaiting, hfaults, houtside⟩ := settle_putOut s v
    have hlisten : (settle s (clearSelection (unwanted v))).listen = v.listen := (congrArg State.listen houtside :)
    refine ⟨hlisten, (congrArg State.peers houtside :), hselection, hout, hlit, hwaiting, hfaults, ?_⟩
    rw [houtside, hlisten]
    rfl
  · have hop : takeBeacon t (telegramIn s) =
        (telegramIn s).setListen { s.listen with duplicate := some (3 * s.settings.interval * 1000) } :=
      (takeBeacon_own (s := telegramIn s) h0 hn).trans (if_pos hd)
    rw [hop]
    exact congrArg _ (settle_listenLine (x := { s.listen with duplicate := some (3 * s.settings.interval * 1000) })
      (l := (telegramIn s).line) h rfl hd.symm rfl rfl)

end Sys2Proof.Machine
end

section
/-! ## Stations that go LOST, and the line quality minute (04, R67 to R71, R89, R149, R159, R179) -/

namespace Sys2Proof.Machine

variable {s u b : State} {h : Holder} {n : Nat} {p : Peer} {ps : List Peer}

/-! ### What the settling makes of locks and claims -/

theorem lockOf_replaced {l : Lock} (hn : h ≠ l.holder) (ls : List Lock) :
    lockOf (withoutHolder l.holder ls ++ [l]) h = lockOf ls h := by
  have hrest : lockOf (withoutHolder l.holder ls) h = lockOf ls h := by
    unfold lockOf withoutHolder
    rw [List.find?_filter]
    congr 1
    funext m
    by_cases hm : m.holder = h <;> simp [hm, hn]
  have hnew : lockOf [l] h = none := by simp [lockOf, hn.symm]
  unfold lockOf at hrest hnew ⊢
  rw [List.find?_append, hrest, hnew, Option.or_none]

theorem lockOf_withoutHolder (h : Holder) (ls : List Lock) : lockOf (withoutHolder h ls) h = none := by
  simp [lockOf, withoutHolder]

/-- The life limit touches the WEAR lock alone (R39). -/
theorem lifeJudge_lockOf (hn : h ≠ .wear) (s : State) : lockOf (lifeJudge s).locks h = lockOf s.locks h := by
  rcases lifeJudge_cases s with ⟨b, hj, -⟩ | ⟨-, -, hj⟩
  · rw [hj]; rfl
  · rw [hj, clearSelection_locks, unwanted_locks]
    exact lockOf_replaced (l := wearLock) hn s.locks

/-- The settling touches the WEAR lock alone. -/
theorem settle_lockOf (hn : h ≠ .wear) (b s : State) : lockOf (settle b s).locks h = lockOf s.locks h := by
  have hlast (x : State) := (lastJudgements_rest b x).1
  have hgroup (x : State) := (judgeGroup_rest x).1
  have hwithdraw (x : State) := (withdrawTest_locks b x).1
  unfold settle
  simp only [hlast, hgroup, hwithdraw, lifeJudge_lockOf hn, strikeTest_locks, startTest_locks]

theorem unwanted_claims (s : State) : (unwanted s).claims ⊆ s.claims := by
  have hextinguish : (extinguish .cooling s).claims ⊆ s.claims := by
    have hclaims : (extinguish .cooling s).claims =
        if inStrike s.lamp.state = true then released (lampView s) else s.claims :=
      congrArg LampView.claims (lampView_extinguish .cooling s)
    rw [hclaims]
    split
    · exact List.filter_subset_self _
    · exact List.Subset.refl _
  unfold unwanted
  cases s.lamp.state with
  | striking | warming | lit => exact hextinguish
  | waiting => exact List.filter_subset_self _
  | dark | cooling | fault => exact List.Subset.refl _

theorem lifeJudge_claims (s : State) : (lifeJudge s).claims ⊆ s.claims := by
  rcases lifeJudge_cases s with ⟨b, hj, -⟩ | ⟨-, -, hj⟩
  · rw [hj]; exact List.Subset.refl _
  · rw [hj]; exact unwanted_claims _

theorem startTest_claims (s : State) : (startTest s).claims = s.claims := (Risen.startTest s).claims

theorem withdrawTest_claims (b s : State) : (withdrawTest b s).claims ⊆ s.claims := by
  rcases withdrawTest_cases b s with hw | ⟨-, -, hw⟩
  · rw [hw]; exact List.Subset.refl _
  · rw [hw]
    split
    · exact List.Subset.refl _
    · exact unwanted_claims _

theorem judgeGroup_claims (s : State) : (judgeGroup s).claims = s.claims := by rw [judgeGroup_spec]; rfl

theorem lastJudgements_claims (b s : State) :
    (beaconJudge b (idleJudge (fanStallJudge (retarget s)))).claims = s.claims := by
  rw [beaconJudge_eq, retarget_eq]; rfl

/-- No settling adds a claim (R90). -/
theorem settle_claims (b s : State) : (settle b s).claims ⊆ s.claims := by
  unfold settle
  rw [lastJudgements_claims, judgeGroup_claims]
  refine List.Subset.trans (withdrawTest_claims b _) ?_
  rw [judgeGroup_claims]
  refine List.Subset.trans (lifeJudge_claims _) ?_
  rw [strikeTest_claims, startTest_claims]
  exact lifeJudge_claims s

/-! ### A station goes LOST (R71) -/

/-- The clock once a station has left its role as the source (R159). -/
def unsourced (n : Nat) (c : Clock) : Clock := if c.source = some n then { c with source := none } else c

theorem unsourced_source (n : Nat) (c : Clock) : (unsourced n c).source ≠ some n := by
  unfold unsourced
  split
  · nofun
  · assumption

/-- Peer Table, Lock Set, Claim List and clock lose the station, one after another (R71). -/
theorem lose_eq (n : Nat) (s : State) : lose n s =
    ((removeLock (.station n) (s.setPeers (s.peers.filter fun p => p.station != n))).setClaims
      (unclaimed n (removeLock (.station n) (s.setPeers (s.peers.filter fun p => p.station != n))).claims)).setClock
        (unsourced n s.clock) := by
  have hclock : (removeLock (.station n) (s.setPeers (s.peers.filter fun p => p.station != n))).clock = s.clock :=
    (congrArg State.clock (outside_removeLock _ _) :)
  unfold lose unsourced
  simp only [State.setClaims_clock, hclock]
  split
  · rfl
  · rw [← hclock]; rfl

theorem outside_lose (n : Nat) (s : State) :
    outside (lose n s) =
      outside ((s.setPeers (s.peers.filter fun p => p.station != n)).setClock (unsourced n s.clock)) := by
  rw [lose_eq]
  exact congrArg (fun x : State => x.setClock (unsourced n s.clock)) (outside_removeLock _ _)

theorem lose_peers (n : Nat) (s : State) : (lose n s).peers = s.peers.filter fun p => p.station != n :=
  (congrArg State.peers (outside_lose n s) :)

theorem lose_clock (n : Nat) (s : State) : (lose n s).clock = unsourced n s.clock :=
  (congrArg State.clock (outside_lose n s) :)

theorem lose_lockOf (n : Nat) (s : State) : lockOf (lose n s).locks (.station n) = none := by
  rw [lose_eq]
  change lockOf (removeLock (.station n) _).locks _ = _
  rw [removeLock_locks, lockOf_withoutHolder]

theorem lose_claims (n : Nat) (s : State) : ∀ c ∈ (lose n s).claims, c.claimant ≠ n := by
  rw [lose_eq]
  intro c hc
  have hc : c ∈ unclaimed n _ := hc
  simpa using (List.mem_filter.mp hc).2

/-- A step in which a station goes LOST ends without its entry, its lock, its claim and its clock role (R71). -/
theorem settle_lose (b : State) (n : Nat) (s : State) :
    let u := settle b (lose n s)
    u.peers = (s.peers.filter fun q => q.station != n) ∧ lockOf u.locks (.station n) = none ∧
    (∀ c ∈ u.claims, c.claimant ≠ n) ∧ u.clock.source ≠ some n ∧
    outside u = outside ((s.setPeers u.peers).setClock u.clock) := by
  intro u
  have hpeers : u.peers = s.peers.filter fun q => q.station != n := (settle_peers b _).trans (lose_peers n s)
  have hclock : u.clock = unsourced n s.clock := (settle_clock b _).trans (lose_clock n s)
  refine ⟨hpeers, ?_, fun c hc => lose_claims n s c (settle_claims b _ hc), ?_, ?_⟩
  · rw [settle_lockOf (h := .station n) nofun, lose_lockOf]
  · rw [hclock]; exact unsourced_source n s.clock
  · rw [hpeers, hclock, outside_settle, outside_lose]

/-! ### Confirm window and presence timer (R67, R69) -/

theorem confirmExpired_heard (hp : peerOf n s.peers = some p) (ht : p.timer.isSome = true) (hh : p.presence = .heard) :
    confirmExpired n s = lose n s := by
  unfold confirmExpired
  rw [hp]
  exact if_pos ⟨hh, ht⟩

theorem presenceExpired_lost (hp : peerOf n s.peers = some p) (ht : p.timer.isSome = true) (hh : p.presence ≠ .heard)
    (hm : missLimit s ≤ p.misses + 1) : presenceExpired n s = lose n s := by
  unfold presenceExpired
  rw [hp]
  exact (if_pos ⟨hh, ht⟩).trans (if_pos hm)

theorem presenceExpired_missed (hp : peerOf n s.peers = some p) (ht : p.timer.isSome = true) (hh : p.presence ≠ .heard)
    (hm : p.misses + 1 < missLimit s) :
    presenceExpired n s = s.setPeers (s.peers.map fun q => if q.station = n then missed q else q) := by
  unfold presenceExpired
  rw [hp]
  exact (if_pos ⟨hh, ht⟩).trans (if_neg (Nat.not_le.mpr hm))

/-- The Peer Table holds no station twice (R64). -/
theorem PeersSafe.unique (hs : PeersSafe s) {q : Peer} (hp : p ∈ s.peers) (hq : q ∈ s.peers)
    (e : p.station = q.station) : p = q :=
  List.inj_on_of_nodup_map hs.1 hp hq e

/-- A miss counted of a member leaves it one, with all the group reads of it (R69, R110). -/
theorem committedPeers_missed (hs : PeersSafe s) (hp : peerOf n s.peers = some p) (hh : p.presence ≠ .heard) :
    committedPeers (s.setPeers (s.peers.map fun q => if q.station = n then missed q else q)) = committedPeers s := by
  have hpmem : p ∈ s.peers := List.mem_of_find?_eq_some hp
  have hpn : p.station = n := by simpa using List.find?_some hp
  have hsame : ∀ q ∈ s.peers, isMember s.settings.group (if q.station = n then missed q else q) =
      isMember s.settings.group q := by
    intro q hq
    split
    · next hqn =>
      obtain rfl : q = p := hs.unique hq hpmem (hqn.trans hpn.symm)
      unfold isMember missed
      rw [bne_iff_ne.mpr hh]
      rfl
    · rfl
  have hmembers : peerMembers (s.setPeers (s.peers.map fun q => if q.station = n then missed q else q)) =
      peerMembers s := by
    unfold peerMembers
    rw [State.setPeers_peers, State.setPeers_settings, List.filter_map, List.map_map]
    refine (congrArg _ (List.filter_congr hsame)).trans ?_
    refine List.map_congr_left fun q _ => ?_
    rw [Function.comp_apply]
    split <;> rfl
  unfold committedPeers
  rw [hmembers]

/-- A miss below the limit leaves nothing to settle (R69). -/
theorem settle_missed (h : Settled s) (hs : PeersSafe s) (hp : peerOf n s.peers = some p) (hh : p.presence ≠ .heard) :
    settle s (s.setPeers (s.peers.map fun q => if q.station = n then missed q else q)) =
      s.setPeers (s.peers.map fun q => if q.station = n then missed q else q) := by
  have hmembers := committedPeers_missed hs hp hh
  set ps := s.peers.map fun q => if q.station = n then missed q else q
  have hline : s.setPeers ps = (s.setPeers ps).setLine s.line := rfl
  rw [hline]
  exact settle_sameMembers h hmembers rfl

/-! ### The line quality minute (R70, R179) -/

theorem loseAll_peers (ns : List Nat) (s : State) :
    (loseAll ns s).peers = s.peers.filter fun p => !ns.contains p.station := by
  induction ns generalizing s with
  | nil => simp [loseAll]
  | cons n rest ih =>
    rw [loseAll, ih, lose_peers, List.filter_filter]
    refine List.filter_congr fun p _ => ?_
    rw [List.contains_cons, Bool.not_or, Bool.and_comm]
    rfl

/-- A station going LOST changes the line in its send queue alone. -/
theorem loseAll_line (ns : List Nat) (s : State) : (outside (loseAll ns s)).line = (outside s).line := by
  induction ns generalizing s with
  | nil => rfl
  | cons n rest ih =>
    rw [loseAll, ih, outside_lose]
    rfl

/-- The stations that go LOST at the clearing of LINE_POOR (R70). -/
theorem mem_overLimit (hs : PeersSafe s) (hp : p ∈ s.peers) :
    p.station ∈ overLimit s.peers ↔ ¬(p.presence = .heard ∨ p.misses < 3) := by
  unfold overLimit
  rw [List.mem_map]
  constructor
  · rintro ⟨q, hq, e⟩
    obtain ⟨hqmem, hover⟩ := List.mem_filter.mp hq
    obtain rfl := hs.unique hqmem hp e
    simpa using hover
  · intro hover
    exact ⟨p, List.mem_filter.mpr ⟨hp, by simpa using hover⟩, rfl⟩

theorem mem_peers_kept (hs : PeersSafe s) : p ∈ (s.peers.filter fun p => !(overLimit s.peers).contains p.station) ↔
    p ∈ s.peers ∧ (p.presence = .heard ∨ p.misses < 3) := by
  rw [List.mem_filter]
  refine and_congr_right fun hp => ?_
  rw [Bool.not_eq_true', List.contains_eq_mem, decide_eq_false_iff_not, mem_overLimit hs hp, not_not]

/-- With LINE_POOR clear no entry has 3 misses (R69, R70). -/
theorem PeersSafe.misses_lt (hs : PeersSafe s) (hpoor : s.line.poor = false) (hp : p ∈ s.peers) : p.misses < 3 := by
  have hform := hs.2 p hp
  unfold peerFormed missLimit at hform
  rw [hpoor] at hform
  simp only [Bool.and_eq_true, decide_eq_true_eq] at hform
  tauto

/-- The line after its quality minute (R179). -/
def judgedLine (l : HallLine) : HallLine :=
  { l with poor := judgedPoor l.count l.poor, count := 0, minute := some 60000 }

theorem qualityMinute_quiet (hm : s.line.minute.isSome = true)
    (hk : s.line.poor = false ∨ judgedPoor s.line.count s.line.poor = true) :
    qualityMinute s = s.setLine (judgedLine s.line) := by
  refine (if_pos hm).trans (if_neg ?_)
  rcases hk with e | e <;> simp [e]

theorem qualityMinute_clears (hm : s.line.minute.isSome = true) (hpoor : s.line.poor = true)
    (hk : judgedPoor s.line.count s.line.poor = false) :
    qualityMinute s = loseAll (overLimit s.peers) (s.setLine (judgedLine s.line)) := by
  refine (if_pos hm).trans (if_pos ?_)
  rw [hpoor] at hk ⊢
  rw [hk]; rfl

/-- The count and the timer are set anew, and LINE_POOR is judged, whoever goes LOST by it (R179). -/
theorem qualityMinute_line (b : State) (hm : s.line.minute.isSome = true) :
    (outside (settle b (qualityMinute s))).line = (outside (s.setLine (judgedLine s.line))).line := by
  rw [outside_settle]
  unfold qualityMinute
  rw [if_pos hm]
  simp only
  split
  · exact loseAll_line _ _
  · rfl

/-- The Peer Table after the minute: as it was, or without the stations over the limit (R70). -/
theorem qualityMinute_peers (b : State) (hm : s.line.minute.isSome = true) (hpoor : s.line.poor = true)
    (hk : judgedPoor s.line.count s.line.poor = false) : (settle b (qualityMinute s)).peers =
      s.peers.filter fun p => !(overLimit s.peers).contains p.station := by
  rw [settle_peers, qualityMinute_clears hm hpoor hk, loseAll_peers]
  rfl

/-- A minute after which no station goes LOST changes the line alone. -/
theorem settle_qualityMinute_quiet (hs : Settled s) (hm : s.line.minute.isSome = true)
    (hk : s.line.poor = false ∨ judgedPoor s.line.count s.line.poor = true) :
    ∃ l, settle s (qualityMinute s) = s.setLine l := by
  have q : Quiet s (s.setLine (judgedLine s.line)) :=
    ⟨rfl, rfl, rfl, rfl, rfl, rfl, rfl, rfl, rfl, rfl, rfl, rfl, rfl, rfl, rfl, rfl, rfl⟩
  rw [qualityMinute_quiet hm hk, settle_quiet hs q, beaconJudge_eq]
  exact ⟨_, rfl⟩

/-- What the line tells of its minute stands outside what the settling touches. -/
theorem line_of_outside (ho : (outside u).line = (outside s).line) : u.line.poor = s.line.poor ∧
    u.line.count = s.line.count ∧ u.line.minute = s.line.minute ∧ u.line.requests = s.line.requests :=
  ⟨(congrArg HallLine.poor ho :), (congrArg HallLine.count ho :), (congrArg HallLine.minute ho :),
    (congrArg HallLine.requests ho :)⟩

/-- Settles O27: what the LOST stations leave, by the outcomes of each expiry, and what LINE_POOR makes of the minute. -/
theorem missesMakeAStationLost : Obligations.MissesMakeAStationLost := by
  intro s n p h hs
  refine ⟨fun hp ht => ⟨fun hh => ⟨_, rfl, ?_⟩, fun hh hm => ⟨_, rfl, ?_⟩, fun hh hm => ?_⟩, fun hm => ⟨_, rfl, ?_⟩⟩
  · rw [confirmExpired_heard hp ht hh]
    exact settle_lose s n s
  · rw [presenceExpired_lost hp ht hh hm]
    exact settle_lose s n s
  · change Host.Outcome.next (settle s (presenceExpired n s)) = _
    rw [presenceExpired_missed hp ht hh hm, settle_missed h hs hp hh]
    rfl
  · obtain ⟨hpoor, hcount, hminute, hrequests⟩ := line_of_outside (qualityMinute_line s hm)
    set u := settle s (qualityMinute s)
    have hpoor : u.line.poor = judgedPoor s.line.count s.line.poor := hpoor
    refine ⟨hpoor, hcount, hminute, hrequests, ?_⟩
    rw [hpoor]
    by_cases hk : s.line.poor = false ∨ judgedPoor s.line.count s.line.poor = true
    · obtain ⟨l, hu⟩ : ∃ l, u = s.setLine l := settle_qualityMinute_quiet h hm hk
      rw [hu]
      refine ⟨fun p hp _ => hp, fun p hp => hp, fun hclear p hp => ?_, fun _ => ⟨rfl, rfl, rfl, rfl, rfl, rfl⟩⟩
      have hwas : s.line.poor = false := hk.resolve_right (by rw [hclear]; nofun)
      exact .inr (hs.misses_lt hwas hp)
    · obtain ⟨hwas, hclear⟩ := not_or.mp hk
      rw [Bool.not_eq_false] at hwas
      rw [Bool.not_eq_true] at hclear
      have hpeers : u.peers = _ := qualityMinute_peers s hm hwas hclear
      rw [hpeers]
      exact ⟨fun p hp hkept => (mem_peers_kept hs).mpr ⟨hp, hkept⟩, fun p hp => ((mem_peers_kept hs).mp hp).1,
        fun _ p hp => ((mem_peers_kept hs).mp hp).2, fun hn => absurd hn hk⟩

end Sys2Proof.Machine
end

section
/-! ## The beacon slot over the operations of a step (R80, R81) -/

namespace Sys2Proof.Machine

variable {s u v b : State} {l : HallLine}

/-- What stands in the beacon slot, and the mark "due again" (R81). -/
def beaconSlot (s : State) : List QueueEntry × Bool :=
  (s.line.queue.filter fun e => isBeacon e.payload, s.line.dueAgain)

@[simp] theorem beaconSlot_setLamp (s : State) (x : Lamp) : beaconSlot (s.setLamp x) = beaconSlot s := rfl
@[simp] theorem beaconSlot_setWear (s : State) (x : Wear) : beaconSlot (s.setWear x) = beaconSlot s := rfl
@[simp] theorem beaconSlot_setGeometry (s : State) (x : Geometry) : beaconSlot (s.setGeometry x) = beaconSlot s := rfl
@[simp] theorem beaconSlot_setPeers (s : State) (x : List Peer) : beaconSlot (s.setPeers x) = beaconSlot s := rfl
@[simp] theorem beaconSlot_setListen (s : State) (x : Listen) : beaconSlot (s.setListen x) = beaconSlot s := rfl
@[simp] theorem beaconSlot_setClaims (s : State) (x : List ClaimEntry) : beaconSlot (s.setClaims x) = beaconSlot s := rfl
@[simp] theorem beaconSlot_setGroup (s : State) (x : Group) : beaconSlot (s.setGroup x) = beaconSlot s := rfl
@[simp] theorem beaconSlot_setSource (s : State) (x : Source) : beaconSlot (s.setSource x) = beaconSlot s := rfl
@[simp] theorem beaconSlot_setLocks (s : State) (x : List Lock) : beaconSlot (s.setLocks x) = beaconSlot s := rfl
@[simp] theorem beaconSlot_setPanel (s : State) (x : Panel) : beaconSlot (s.setPanel x) = beaconSlot s := rfl
@[simp] theorem beaconSlot_setClock (s : State) (x : Clock) : beaconSlot (s.setClock x) = beaconSlot s := rfl
@[simp] theorem beaconSlot_setSchedule (s : State) (x : Schedule) : beaconSlot (s.setSchedule x) = beaconSlot s := rfl
@[simp] theorem beaconSlot_setScalerLink (s : State) (x : List ScalerMessage) :
    beaconSlot (s.setScalerLink x) = beaconSlot s := rfl

/-- A telegram that is no beacon takes an entry of its own (R171). -/
theorem handOver_beacons {p : Payload} (hp : isBeacon p = false) (l : HallLine) :
    ((handOver p l).queue.filter fun e => isBeacon e.payload) = l.queue.filter fun e => isBeacon e.payload := by
  rw [handOver_queue]
  split
  · simp [List.filter_append, newEntry, hp]
  · rfl

theorem handOver_dueAgain (p : Payload) (l : HallLine) : (handOver p l).dueAgain = l.dueAgain := by rw [handOver_eq]

theorem beaconSlot_send {p : Payload} (hp : isBeacon p = false) (s : State) :
    beaconSlot (send p s) = beaconSlot s :=
  Prod.ext (handOver_beacons hp s.line) (handOver_dueAgain p s.line)

@[simp] theorem beaconSlot_sendRequest (k : Byte) (body : List Byte) (s : State) :
    beaconSlot (send (.request k body) s) = beaconSlot s :=
  beaconSlot_send rfl s

/-- The withdrawal of own CLAIMs leaves the beacon slot (R5). -/
theorem withdrawClaims_beacons (l : HallLine) :
    ((withdrawClaims l).queue.filter fun e => isBeacon e.payload) = l.queue.filter fun e => isBeacon e.payload := by
  have hclaim : isBeacon .claim = false := rfl
  unfold withdrawClaims
  simp only
  induction l.queue with
  | nil => rfl
  | cons e rest ih =>
    by_cases hp : e.payload = .claim
    · cases hs : e.sending <;> simpa [hp, hs, hclaim] using ih
    · cases hb : isBeacon e.payload <;> simpa [hp, hb] using ih

@[simp] theorem beaconSlot_releaseClaim (s : State) : beaconSlot (releaseClaim s) = beaconSlot s :=
  Prod.ext ((handOver_beacons rfl _).trans (withdrawClaims_beacons s.line)) (handOver_dueAgain .release _)

/-! ### The lamp, the group and the locks -/

@[simp] theorem beaconSlot_requestWrite (s : State) : beaconSlot (requestWrite s) = beaconSlot s := by
  unfold requestWrite startWrite; (repeat' split) <;> rfl

@[simp] theorem beaconSlot_reportExtinction (s : State) : beaconSlot (reportExtinction s) = beaconSlot s := by
  simp [reportExtinction]

@[simp] theorem beaconSlot_enterWaiting (s : State) : beaconSlot (enterWaiting s) = beaconSlot s :=
  beaconSlot_send rfl _

@[simp] theorem beaconSlot_extinguish (n : LampState) (s : State) : beaconSlot (extinguish n s) = beaconSlot s := by
  unfold extinguish; cases s.lamp.state <;> simp [burning]

@[simp] theorem beaconSlot_setRelight (x : Bool) (s : State) : beaconSlot (setRelight x s) = beaconSlot s := rfl

@[simp] theorem beaconSlot_unwanted (s : State) : beaconSlot (unwanted s) = beaconSlot s := by
  unfold unwanted; cases s.lamp.state <;> simp

@[simp] theorem beaconSlot_startTest (s : State) : beaconSlot (startTest s) = beaconSlot s := by
  unfold startTest; split <;> simp

@[simp] theorem beaconSlot_nowWanted (s : State) : beaconSlot (nowWanted s) = beaconSlot s := by
  unfold nowWanted; (repeat' split) <;> simp

@[simp] theorem beaconSlot_onDecision (x : Bool) (s : State) : beaconSlot (onDecision x s) = beaconSlot s := by
  unfold onDecision; (repeat' split) <;> simp

@[simp] theorem beaconSlot_strikeTest (s : State) : beaconSlot (strikeTest s) = beaconSlot s := by
  rcases strikeTest_cases s with h | h <;> rw [h]; rfl

@[simp] theorem beaconSlot_clearSelection (s : State) : beaconSlot (clearSelection s) = beaconSlot s := rfl

@[simp] theorem beaconSlot_electIfAvailable (b s : State) : beaconSlot (electIfAvailable b s) = beaconSlot s := by
  rcases electIfAvailable_cases b s with h | ⟨w, g, h⟩ <;> rw [h]
  simp

@[simp] theorem beaconSlot_elect (s : State) : beaconSlot (elect s) = beaconSlot s := by
  unfold elect; split <;> simp

@[simp] theorem beaconSlot_groupOn (c : OnCause) (s : State) : beaconSlot (groupOn c s) = beaconSlot s := by
  unfold groupOn; simp only; (repeat' split) <;> simp

@[simp] theorem beaconSlot_groupOff (s : State) : beaconSlot (groupOff s) = beaconSlot s := by
  unfold groupOff; split <;> simp

@[simp] theorem beaconSlot_lampUncovered (b s : State) : beaconSlot (lampUncovered b s) = beaconSlot s := by
  unfold lampUncovered; split <;> simp

@[simp] theorem beaconSlot_addLock (k : Lock) (s : State) : beaconSlot (addLock k s) = beaconSlot s := by
  unfold addLock; (repeat' split) <;> simp

@[simp] theorem beaconSlot_removeLock (h : Holder) (s : State) : beaconSlot (removeLock h s) = beaconSlot s := by
  simp [removeLock]

@[simp] theorem beaconSlot_tryClear (s : State) : beaconSlot (tryClear s).1 = beaconSlot s := by
  unfold tryClear; (repeat' split) <;> simp [clearFaults_eq]

/-! ### The settling but for the change-driven beacon -/

@[simp] theorem beaconSlot_lifeJudge (s : State) : beaconSlot (lifeJudge s) = beaconSlot s := by
  rcases lifeJudge_cases s with ⟨x, h, -⟩ | ⟨-, -, h⟩ <;> rw [h] <;> simp

@[simp] theorem beaconSlot_judgeGroup (s : State) : beaconSlot (judgeGroup s) = beaconSlot s := by
  rw [judgeGroup_spec]; rfl

@[simp] theorem beaconSlot_withdrawTest (b s : State) : beaconSlot (withdrawTest b s) = beaconSlot s := by
  unfold withdrawTest; split <;> simp

@[simp] theorem beaconSlot_retarget (s : State) : beaconSlot (retarget s) = beaconSlot s := by rw [retarget_eq]; rfl

@[simp] theorem beaconSlot_fanStallJudge (s : State) : beaconSlot (fanStallJudge s) = beaconSlot s := rfl

@[simp] theorem beaconSlot_idleJudge (s : State) : beaconSlot (idleJudge s) = beaconSlot s := rfl

/-- The settling ends with the judgement of the beacon, and nothing before that touches the beacon slot. -/
theorem settle_beaconJudge (b s : State) : ∃ v, settle b s = beaconJudge b v ∧ beaconSlot v = beaconSlot s :=
  ⟨_, rfl, by simp⟩

/-! ### The selector and the schedule -/

@[simp] theorem beaconSlot_sendSelect (i : Option Input) (o : Option Origin) (s : State) :
    beaconSlot (sendSelect i o s) = beaconSlot s := by
  rw [sendSelect_eq]; rfl

@[simp] theorem beaconSlot_beginSwitch (i : Option Input) (s : State) : beaconSlot (beginSwitch i s) = beaconSlot s := by
  simp [beginSwitch]

@[simp] theorem beaconSlot_judgeSource (s : State) : beaconSlot (judgeSource s) = beaconSlot s := by
  unfold judgeSource judgeWith; (repeat' split) <;> simp

@[simp] theorem beaconSlot_push (i : Input) (o : Origin) (s : State) : beaconSlot (push i o s) = beaconSlot s := by
  unfold push; simp only; (repeat' split) <;> simp

@[simp] theorem beaconSlot_scheduleLock (x : Option Slot) (s : State) : beaconSlot (scheduleLock x s) = beaconSlot s := by
  unfold scheduleLock; split <;> simp

@[simp] theorem beaconSlot_enterEffective (x : Option Slot) (s : State) :
    beaconSlot (enterEffective x s) = beaconSlot s := by
  unfold enterEffective; simp only; (repeat' split) <;> simp

@[simp] theorem beaconSlot_enterOn (eff on : Option Slot) (s : State) : beaconSlot (enterOn eff on s) = beaconSlot s := by
  unfold enterOn leaveSlot; simp only; (repeat' split) <;> simp

@[simp] theorem beaconSlot_evaluate (s : State) : beaconSlot (evaluate s) = beaconSlot s := by
  unfold evaluate; simp only; (repeat' split) <;> simp

@[simp] theorem beaconSlot_adopt (m n : Nat) (s : State) : beaconSlot (adopt m n s) = beaconSlot s := by
  unfold adopt stepClock; simp only; (repeat' split) <;> simp

/-! ### Received telegrams -/

@[simp] theorem beaconSlot_hear (x : LineSignal) (s : State) : beaconSlot (hear x s) = beaconSlot s := rfl

@[simp] theorem beaconSlot_takeTime (t : Telegram) (s : State) : beaconSlot (takeTime t s) = beaconSlot s := by
  unfold takeTime; simp only; (repeat' split) <;> simp

@[simp] theorem beaconSlot_takeBeacon (t : Telegram) (s : State) : beaconSlot (takeBeacon t s) = beaconSlot s := by
  unfold takeBeacon foreignBeacon; simp only; (repeat' split) <;> simp

@[simp] theorem beaconSlot_takeClaim (t : Telegram) (s : State) : beaconSlot (takeClaim t s) = beaconSlot s := by
  unfold takeClaim; split <;> rfl

@[simp] theorem beaconSlot_takeRelease (t : Telegram) (s : State) : beaconSlot (takeRelease t s) = beaconSlot s := by
  unfold takeRelease; split <;> rfl

@[simp] theorem beaconSlot_takeRequest (t : Telegram) (s : State) : beaconSlot (takeRequest t s) = beaconSlot s := by
  unfold takeRequest; split <;> rfl

@[simp] theorem beaconSlot_deliver (t : Telegram) (s : State) : beaconSlot (deliver t s) = beaconSlot s := by
  have hcount : beaconSlot (countTrouble s) = beaconSlot s := rfl
  unfold deliver handTo; (repeat' split) <;> simp [hcount]

/-! ### Keys -/

@[simp] theorem beaconSlot_pressPower (s : State) : beaconSlot (pressPower s) = beaconSlot s := by
  unfold pressPower powerInService powerForGroup
  (repeat' split) <;> simp [modeTelegram]

@[simp] theorem beaconSlot_pressSource (s : State) : beaconSlot (pressSource s) = beaconSlot s := by
  unfold pressSource; split <;> simp

@[simp] theorem beaconSlot_pressKeystone (n : Int) (s : State) : beaconSlot (pressKeystone n s) = beaconSlot s := by
  unfold pressKeystone; split <;> rfl

@[simp] theorem beaconSlot_pressClear (s : State) : beaconSlot (pressClear s) = beaconSlot s := by
  unfold pressClear; split <;> simp

@[simp] theorem beaconSlot_leavePosition (old : Option KeyPosition) (b s : State) :
    beaconSlot (leavePosition old b s) = beaconSlot s := by
  unfold leavePosition applyDecision; (repeat' split) <;> simp

@[simp] theorem beaconSlot_enterPosition (p : KeyPosition) (s : State) :
    beaconSlot (enterPosition p s) = beaconSlot s := by
  unfold enterPosition lampIntoService; simp only; (repeat' split) <;> simp

end Sys2Proof.Machine
end

section
/-! ## A change of what the beacon reports makes a beacon due (04, R80, R81) -/

namespace Sys2Proof.Machine

variable {s u v b : State} {l : HallLine}

/-- A beacon stands in the send queue unsent, or is due again once the one being sent is out (R81, log 16). -/
def BeaconReady (l : HallLine) : Prop :=
  (l.queue.any fun e => isBeacon e.payload && !e.sending) = true ∨
    l.dueAgain = true ∧ (l.queue.any fun e => isBeacon e.payload) = true

/-- A beacon is ready by what stands in the beacon slot. -/
theorem BeaconReady.congr (h : beaconSlot u = beaconSlot s) (hr : BeaconReady s.line) : BeaconReady u.line := by
  obtain ⟨hqueue, hdue⟩ := Prod.mk.inj h
  have hany (f : QueueEntry → Bool) :
      (u.line.queue.any fun e => isBeacon e.payload && f e) = s.line.queue.any fun e => isBeacon e.payload && f e := by
    rw [← List.any_filter, hqueue, List.any_filter]
  have hfree := hany fun e => !e.sending
  have hsome := hany fun _ => true
  simp only [Bool.and_true] at hsome
  unfold BeaconReady at hr ⊢
  rwa [hfree, hsome, hdue]

/-- A beacon that falls due is ready (R81). -/
theorem beaconReady_beaconDue (l : HallLine) : BeaconReady (beaconDue l) := by
  rw [beaconDue_slot]
  split
  · next hslot =>
    cases hsending : l.queue.any fun e => isBeacon e.payload && e.sending with
    | true => exact .inr ⟨by simp, hslot⟩
    | false =>
      obtain ⟨e, he, hbeacon⟩ := List.any_eq_true.mp hslot
      have hfree := List.any_eq_false.mp hsending e he
      exact .inl (List.any_eq_true.mpr ⟨e, he, by simpa [hbeacon] using hfree⟩)
  · exact .inl (List.any_eq_true.mpr ⟨newEntry .beacon, by simp, rfl⟩)

theorem beaconCauses_beaconJudge (b s : State) : beaconCauses (beaconJudge b s) = beaconCauses s := by
  unfold beaconJudge
  split
  · rfl
  · rw [beaconDue_eq]; rfl

/-- Between `s` and `u` a change of what the beacon reports has made one due, and one that was ready has stayed so. -/
structure Reports (s u : State) : Prop where
  changed : beaconCauses u ≠ beaconCauses s → BeaconReady u.line
  kept : BeaconReady s.line → BeaconReady u.line

theorem Reports.trans (h : Reports s u) (k : Reports u v) : Reports s v where
  changed hne := by
    by_cases hu : beaconCauses u = beaconCauses s
    · exact k.changed (by rwa [hu])
    · exact k.kept (h.changed hu)
  kept hr := k.kept (h.kept hr)

/-- What changes nothing that the beacon reports, nor the beacon slot. -/
theorem Reports.of_same (hc : beaconCauses u = beaconCauses s) (hs : beaconSlot u = beaconSlot s) : Reports s u :=
  ⟨fun hne => absurd hc hne, .congr hs⟩

/-- The settling makes a beacon due whatever the command changed of what it reports (R80). -/
theorem settle_changed (hne : beaconCauses (settle b s) ≠ beaconCauses b) : BeaconReady (settle b s).line := by
  obtain ⟨v, hv, -⟩ := settle_beaconJudge b s
  rw [hv, beaconCauses_beaconJudge] at hne
  rw [hv, show beaconJudge b v = v.setLine (beaconDue v.line) from if_neg hne.symm]
  exact beaconReady_beaconDue v.line

/-- An operation that leaves the beacon slot, with its settling. -/
theorem Reports.settle (hs : beaconSlot u = beaconSlot s) : Reports s (settle s u) where
  changed := settle_changed
  kept hr := by
    obtain ⟨v, hv, hslot⟩ := settle_beaconJudge s u
    rw [hv]
    unfold beaconJudge
    split
    · exact .congr (hslot.trans hs) hr
    · exact beaconReady_beaconDue v.line

/-! ### Commands of several samples or signals, each settled (R142, R150, R172) -/

theorem receiveAll_reports (signals : List LineSignal) (s : State) : Reports s (receiveAll signals s) := by
  induction signals generalizing s with
  | nil => exact .of_same rfl rfl
  | cons x rest ih =>
    have hone : Reports s (receiveOne x s) := by
      unfold receiveOne
      split
      · exact .settle (by simp)
      · exact .of_same rfl rfl
    exact hone.trans (ih _)

theorem receive_reports (signals : List LineSignal) (s : State) : Reports s (receive signals s) := by
  unfold receive
  split
  · exact receiveAll_reports signals s
  · exact .of_same rfl rfl

/-- The beacon reports of the panel the settled position alone (R151). -/
theorem beaconCauses_setPanel {x : Panel} (hx : x.switch.settled = s.panel.switch.settled) :
    beaconCauses (s.setPanel x) = beaconCauses s := by
  have hservice : inService (s.setPanel x) = inService s := by unfold inService; rw [State.setPanel_panel, hx]
  have hflags : ownFlags (s.setPanel x) = ownFlags s := by unfold ownFlags; rw [hservice]; rfl
  unfold beaconCauses
  rw [hflags]
  rfl

theorem sampleKey_reports {get : Panel → Key} {put : Panel → Key → Panel} {press : State → State}
    (hput : ∀ p k, (put p k).switch = p.switch) (hpress : ∀ s, beaconSlot (press s) = beaconSlot s)
    (samples : List Bool) (s : State) : Reports s (sampleKey get put press samples s) := by
  induction samples generalizing s with
  | nil => exact .of_same rfl rfl
  | cons x rest ih =>
    have hkey : Reports s (s.setPanel (put s.panel (keySample (get s.panel) x).1)) :=
      .of_same (beaconCauses_setPanel (by rw [hput])) rfl
    unfold sampleKey
    refine Reports.trans (hkey.trans ?_) (ih _)
    split
    · unfold whenSettled
      split
      · exact .settle (hpress _)
      · exact .of_same rfl rfl
    · exact .of_same rfl rfl

theorem sampleKey_changed {get : Panel → Key} {put : Panel → Key → Panel} {press : State → State}
    {samples : List Bool} (hne : beaconCauses (sampleKey get put press samples s) ≠ beaconCauses s)
    (hpress : ∀ s, beaconSlot (press s) = beaconSlot s) (hput : ∀ p k, (put p k).switch = p.switch) :
    BeaconReady (sampleKey get put press samples s).line :=
  (sampleKey_reports hput hpress samples s).changed hne

theorem settlePosition_reports (p : KeyPosition) (s : State) : Reports s (settlePosition p s) := by
  unfold settlePosition
  simp only
  split
  · exact .of_same rfl rfl
  · exact .settle (by simp [setPosition])

theorem sampleSwitch_reports (samples : List KeyReading) (s : State) : Reports s (sampleSwitch samples s) := by
  induction samples generalizing s with
  | nil => exact .of_same rfl rfl
  | cons r rest ih =>
    have hkept : (switchSample s.panel.switch r).1.settled = s.panel.switch.settled := by
      unfold switchSample; split <;> rfl
    have hswitch : Reports s (s.setPanel { s.panel with switch := (switchSample s.panel.switch r).1 }) :=
      .of_same (beaconCauses_setPanel hkept) rfl
    unfold sampleSwitch
    refine Reports.trans (hswitch.trans ?_) (ih _)
    split
    · exact settlePosition_reports _ _
    · exact .of_same rfl rfl

/-! ### Every command but POWER_ON -/

theorem finish_changed {op : State → State} {t : State} (e : finish op s = .next t)
    (hne : beaconCauses t ≠ beaconCauses s) : BeaconReady t.line := by
  obtain rfl := Host.Outcome.next.inj e
  exact settle_changed hne

/-- Settles O30: a command of one step ends with the judgement of the beacon; in one of several, a beacon made due on the
way stands to its end. -/
theorem changesMakeABeaconDue : Obligations.ChangesMakeABeaconDue := by
  intro s t c hc e hne
  cases c with
  | powerOn p => exact absurd rfl (hc p)
  | receiveError | requestArrival | answer | beacon | claim | release | time | telegramOfUnknownKind =>
    obtain rfl := Host.Outcome.next.inj e
    exact (receive_reports _ s).changed hne
  | keypadPower samples =>
    obtain rfl := Host.Outcome.next.inj e
    exact sampleKey_changed hne beaconSlot_pressPower fun _ _ => rfl
  | keypadSource samples =>
    obtain rfl := Host.Outcome.next.inj e
    exact sampleKey_changed hne beaconSlot_pressSource fun _ _ => rfl
  | keypadVPlus samples =>
    obtain rfl := Host.Outcome.next.inj e
    exact sampleKey_changed hne (beaconSlot_pressKeystone 8) fun _ _ => rfl
  | keypadVMinus samples =>
    obtain rfl := Host.Outcome.next.inj e
    exact sampleKey_changed hne (beaconSlot_pressKeystone (-8)) fun _ _ => rfl
  | keypadClear samples =>
    obtain rfl := Host.Outcome.next.inj e
    exact sampleKey_changed hne beaconSlot_pressClear fun _ _ => rfl
  | keySwitchSettle samples =>
    obtain rfl := Host.Outcome.next.inj e
    exact (sampleSwitch_reports samples s).changed hne
  | _ => exact finish_changed e hne

end Sys2Proof.Machine
end

section
/-! ## The Claim List: CLAIM, RELEASE and the age timer (05, R84 to R88, R92, R6) -/

namespace Sys2Proof.Machine

variable {s u : State} {t : Telegram} {k n : Nat} {xs : List ClaimEntry}

/-! ### The permission to strike under another Claim List (R92) -/

/-- The permission reads the claimants alone, in their order. -/
theorem permission_of_claimants (h : (xs.map fun c => c.claimant) = s.claims.map fun c => c.claimant) :
    permission (s.setClaims xs) = permission s := by
  have hown : ownClaimed (s.setClaims xs) = ownClaimed s := by
    change claimedBy s.straps.number xs = claimedBy s.straps.number s.claims
    rw [claimedBy_eq, claimedBy_eq, h]
  have hahead : aheadOf s.straps.number xs = aheadOf s.straps.number s.claims := aheadOf_congr h
  unfold permission
  rw [hown, State.setClaims_straps, State.setClaims_claims, hahead]
  rfl

/-- Another station's entry at the end stands ahead of no own claim, and is none (R86). -/
theorem permission_append (c : ClaimEntry) (h : c.claimant ≠ s.straps.number) :
    permission (s.setClaims (s.claims ++ [c])) = permission s := by
  have hown : ownClaimed (s.setClaims (s.claims ++ [c])) = ownClaimed s := by simp [ownClaimed, h]
  unfold permission
  rw [hown]
  cases hc : ownClaimed s with
  | false => rfl
  | true =>
    have hahead : aheadOf s.straps.number (s.claims ++ [c]) = aheadOf s.straps.number s.claims := aheadOf_append c hc
    rw [State.setClaims_straps, State.setClaims_claims, hahead]
    rfl

/-- A CLAIM of another station neither gives nor takes the permission (R86, R92). -/
theorem permission_claimed (h : n ≠ s.straps.number) : permission (s.setClaims (claimed n s.claims)) = permission s := by
  by_cases hany : (s.claims.any fun c => c.claimant == n) = true
  · exact permission_of_claimants (claimed_claimants hany)
  · rw [show claimed n s.claims = s.claims ++ [⟨n, some 12000⟩] from if_neg hany]
    exact permission_append _ h

theorem unclaimed_absent (h : (s.claims.any fun c => c.claimant == n) = false) : unclaimed n s.claims = s.claims := by
  refine List.filter_eq_self.mpr fun c hc => ?_
  simpa using List.any_eq_false.mp h c hc

/-! ### The settling where the Claim List changed alone -/

/-- The conditions under which a lamp in WAITING strikes (R6). -/
abbrev mayStrike (s : State) : Prop :=
  s.lamp.state = .waiting ∧ s.pins.tacho = .running ∧ s.pins.supplyLow = false ∧ permission s = true

theorem strikeTest_mayStrike (h : mayStrike s) : strikeTest s = beginAttempt s := by
  obtain ⟨hstate, htacho, hsupply, hpermission⟩ := h
  exact strikeTest_waiting hstate hpermission htacho hsupply

/-- Of the strike the claims decide the permission alone: a retry gap is judged without them (R8). -/
theorem strikeTest_setClaims (h : Settled s) (hn : ¬mayStrike (s.setClaims xs)) :
    strikeTest (s.setClaims xs) = s.setClaims xs := by
  obtain ⟨-, -, hstrike, -⟩ := h
  obtain ⟨-, hgap⟩ := strikeTest_fixed.mp hstrike
  exact strikeTest_fixed.mpr
    ⟨fun hstate ⟨hpermission, htacho, hsupply⟩ => hn ⟨hstate, htacho, hsupply, hpermission⟩, hgap⟩

theorem setClaims_sameSide (s : State) (xs : List ClaimEntry) : SameSide s (s.setClaims xs) :=
  ⟨rfl, rfl, rfl, rfl, rfl, rfl, rfl, rfl, rfl, rfl⟩

/-- A Claim List by which the lamp does not strike leaves nothing to settle. -/
theorem settle_setClaims_rests (h : Settled s) (hn : ¬mayStrike (s.setClaims xs)) :
    settle s (s.setClaims xs) = s.setClaims xs := by
  obtain ⟨-, hstart, -, -, hretarget, hstall, -⟩ := id h
  have hstarts : startTest (s.setClaims xs) = s.setClaims xs :=
    startTest_fixed.mpr (startTest_fixed (s := s).mp hstart)
  rw [settle_sameSide h (setClaims_sameSide s xs) hstarts (strikeTest_setClaims h hn) (withdrawTest_same rfl),
    retarget_congr (u := s.setClaims xs) hretarget rfl rfl rfl rfl rfl,
    fanStallJudge_congr (u := s.setClaims xs) hstall rfl rfl rfl]
  exact beaconJudge_same rfl

/-- A lamp in WAITING that the settling lets strike: the attempt begins, with its wear and the life hold judged, and then
the two timers and the beacon alone; group and withdrawal have nothing to judge (R6, R31, R39, R119). -/
theorem settle_strikes (h : Settled s) (r : SameSide s u) (hmay : mayStrike u) : ∃ wear line, settle s u =
    (idleJudge (fanStallJudge ((beginAttempt u).setWear wear))).setLine line := by
  have hstate : u.lamp.state = .waiting := hmay.1
  obtain ⟨-, -, -, hgroup, -⟩ := id h
  have hstart : startTest u = u := startTest_fixed.mpr (by rw [hstate]; nofun)
  obtain ⟨wear, hlife⟩ : ∃ wear, lifeJudge (beginAttempt u) = (beginAttempt u).setWear wear :=
    ⟨_, lifeJudge_litSide rfl⟩
  have hcommitted : committedState s.lamp.state = true := by rw [← r.committed, hstate]; rfl
  have hjudged : judgeGroup ((beginAttempt u).setWear wear) = (beginAttempt u).setWear wear :=
    judgeGroup_fixed_congr ⟨r.group, r.peers, r.settings, r.cap, by rw [hcommitted]; rfl, r.f⟩ hgroup
  have hwithdraw : withdrawTest s ((beginAttempt u).setWear wear) = (beginAttempt u).setWear wear :=
    withdrawTest_state ⟨nofun, nofun, nofun⟩
  have hretarget : retarget ((beginAttempt u).setWear wear) = (beginAttempt u).setWear wear :=
    retarget_fixed.mpr nofun
  refine ⟨wear, _, Eq.trans ?_ (beaconJudge_eq s _)⟩
  unfold settle
  simp only [r.life h, hstart, strikeTest_mayStrike hmay, hlife, hjudged, hwithdraw, hretarget]

theorem permission_outside (hclaims : u.claims = xs) (houtside : outside u = outside s) :
    permission u = permission (s.setClaims xs) := by
  have hstraps : u.straps = s.straps := (congrArg State.straps houtside :)
  have hsettings : u.settings = s.settings := (congrArg State.settings houtside :)
  unfold permission ownClaimed
  rw [hclaims, hstraps, hsettings]
  rfl

/-- A changed Claim List has the permission judged again, and nothing else (R92, R6). -/
theorem settle_setClaims (h : Settled s) (xs : List ClaimEntry) :
    let u := settle s (s.setClaims xs)
    u.claims = xs ∧ outside u = outside s ∧ u.locks = s.locks ∧ u.group = s.group ∧ PermissionJudged s u := by
  intro u
  have houtside : outside u = outside s := outside_settle s (s.setClaims xs)
  by_cases hmay : mayStrike (s.setClaims xs)
  · obtain ⟨wear, line, (hu : u = _)⟩ := settle_strikes h (setClaims_sameSide s xs) hmay
    have hclaims : u.claims = xs := by rw [hu]; rfl
    have hlocks : u.locks = s.locks := by simp [hu, idleJudge, fanStallJudge]
    have hgroup : u.group = s.group := by simp [hu, idleJudge, fanStallJudge]
    have hattempt : u.lamp.state = .striking .attempt ∧ u.lamp.attempts = s.lamp.attempts + 1 := by
      rw [hu]; exact ⟨rfl, rfl⟩
    refine ⟨hclaims, houtside, hlocks, hgroup, ?_⟩
    unfold PermissionJudged
    rw [permission_outside hclaims houtside]
    exact (if_pos hmay).mpr hattempt
  · have hu : u = s.setClaims xs := settle_setClaims_rests h hmay
    rw [hu]
    exact ⟨rfl, rfl, rfl, rfl, (if_neg hmay).mpr ⟨rfl, rfl⟩⟩

/-- A CLAIM of another station leaves nothing to settle (R86). -/
theorem settle_claimed (h : Settled s) (hn : n ≠ s.straps.number) :
    settle s (s.setClaims (claimed n s.claims)) = s.setClaims (claimed n s.claims) := by
  refine settle_setClaims_rests h fun ⟨hstate, htacho, hsupply, hpermission⟩ => ?_
  obtain ⟨-, -, hstrike, -⟩ := h
  rw [permission_claimed hn] at hpermission
  exact (strikeTest_fixed.mp hstrike).1 hstate ⟨hpermission, htacho, hsupply⟩

/-! ### A CLAIM or RELEASE received (R85 to R87, R173) -/

theorem claimTelegram_iff : claimTelegram s t = true ↔
    t.dest = byteOf (128 + s.settings.circuit) ∧ t.body = [] ∧ t.origin ≠ 0 ∧ t.origin.toNat ≠ s.straps.number := by
  simp [claimTelegram, destCircuit, and_assoc]

/-- What R85 has disregarded. -/
theorem claimTelegram_false (h : t.dest ≠ byteOf (128 + s.settings.circuit) ∨ t.body ≠ [] ∨ t.origin = 0 ∨
    t.origin.toNat = s.straps.number) : ¬claimTelegram s t = true := by
  rw [claimTelegram_iff]; tauto

theorem telegramIn_settled (h : Settled s) : Settled (telegramIn s) :=
  h.quiet ⟨rfl, rfl, rfl, rfl, rfl, rfl, rfl, rfl, rfl, rfl, rfl, rfl, rfl, rfl, rfl, rfl, rfl⟩

/-- The receiver's coming to rest is no event that the settling tells apart. -/
theorem settle_from_telegramIn (s u : State) : settle s u = settle (telegramIn s) u := settle_before rfl rfl u

/-- A telegram in, and disregarded by R85, leaves nothing to settle. -/
theorem settle_disregarded (h : Settled s) : settle (telegramIn s) (telegramIn s) = telegramIn s := by
  rw [← settle_from_telegramIn, settle_telegramIn h]

/-- A CLAIM that arrives is taken by the Claim List, and the step settled. -/
theorem execClaim_received (h : Received kindClaim t k s) :
    exec (.claim (signalsFrom k t)) s = .next (settle (telegramIn s) (takeClaim t (telegramIn s))) := by
  obtain ⟨harrives, hkind, -⟩ := id h
  have howner : handTo t (telegramIn s) = takeClaim t (telegramIn s) := by
    unfold handTo
    rw [hkind, if_neg (by decide), if_pos rfl]
  change Host.Outcome.next (receive (signalsFrom k t) s) = _
  rw [receive_arrives harrives, deliver_received h (by decide), howner, settle_from_telegramIn]

/-- A RELEASE that arrives is taken by the Claim List, and the step settled. -/
theorem execRelease_received (h : Received kindRelease t k s) :
    exec (.release (signalsFrom k t)) s = .next (settle (telegramIn s) (takeRelease t (telegramIn s))) := by
  obtain ⟨harrives, hkind, -⟩ := id h
  have howner : handTo t (telegramIn s) = takeRelease t (telegramIn s) := by
    unfold handTo
    rw [hkind, if_neg (by decide), if_neg (by decide), if_pos rfl]
  change Host.Outcome.next (receive (signalsFrom k t) s) = _
  rw [receive_arrives harrives, deliver_received h (by decide), howner, settle_from_telegramIn]

theorem takeClaim_taken (h : claimTelegram s t = true) :
    takeClaim t s = s.setClaims (claimed t.origin.toNat s.claims) := if_pos h

theorem takeRelease_taken (h : claimTelegram s t = true) :
    takeRelease t s = s.setClaims (unclaimed t.origin.toNat s.claims) := if_pos h

/-! ### What the two telegrams do -/

theorem execClaim_disregarded (h : Settled s) (hr : Received kindClaim t k s) (hn : ¬claimTelegram s t = true) :
    exec (.claim (signalsFrom k t)) s = .next (telegramIn s) := by
  have hop : takeClaim t (telegramIn s) = telegramIn s := if_neg hn
  rw [execClaim_received hr, hop, settle_disregarded h]

theorem execRelease_disregarded (h : Settled s) (hr : Received kindRelease t k s) (hn : ¬claimTelegram s t = true) :
    exec (.release (signalsFrom k t)) s = .next (telegramIn s) := by
  have hop : takeRelease t (telegramIn s) = telegramIn s := if_neg hn
  rw [execRelease_received hr, hop, settle_disregarded h]

/-- A CLAIM on the own circuit joins the list or is renewed in it, and nothing else changes (R86). -/
theorem execClaim_taken (h : Settled s) (hr : Received kindClaim t k s) (hc : claimTelegram s t = true) :
    exec (.claim (signalsFrom k t)) s = .next ((telegramIn s).setClaims (claimed t.origin.toNat s.claims)) := by
  obtain ⟨-, -, -, hother⟩ := claimTelegram_iff.mp hc
  rw [execClaim_received hr, takeClaim_taken (s := telegramIn s) hc]
  exact congrArg _ (settle_claimed (telegramIn_settled h) hother)

/-- A RELEASE on the own circuit takes its station's entry away, and the permission is judged (R87, R92). -/
theorem execRelease_taken (h : Settled s) (hr : Received kindRelease t k s) (hc : claimTelegram s t = true) :
    ∃ u, exec (.release (signalsFrom k t)) s = .next u ∧ u.claims = unclaimed t.origin.toNat s.claims ∧
      outside u = outside (telegramIn s) ∧ u.locks = s.locks ∧ u.group = s.group ∧ PermissionJudged s u ∧
      ((s.claims.any fun c => c.claimant == t.origin.toNat) = false → u = telegramIn s) := by
  obtain ⟨hclaims, houtside, hlocks, hgroup, hjudged⟩ :=
    settle_setClaims (telegramIn_settled h) (unclaimed t.origin.toNat s.claims)
  refine ⟨_, (execRelease_received hr).trans (by rw [takeRelease_taken (s := telegramIn s) hc]; rfl), hclaims, houtside,
    hlocks, hgroup, hjudged, fun hnone => ?_⟩
  rw [unclaimed_absent hnone]
  exact settle_disregarded h

/-- Settles O31: a CLAIM leaves the permission as it was, and an entry taken away leaves it alone to be judged. -/
theorem claimListFollowsTheCircuit : Obligations.ClaimListFollowsTheCircuit := by
  intro s t k n h
  refine ⟨fun hr hn => execClaim_disregarded h hr (claimTelegram_false hn),
    fun hr hn => execRelease_disregarded h hr (claimTelegram_false hn), execClaim_taken h, execRelease_taken h,
    fun hage => ⟨settle s (s.setClaims (unclaimed n s.claims)), ?_, settle_setClaims h _⟩,
    fun hage => finish_unchanged h (if_neg (by rw [hage]; nofun))⟩
  exact congrArg (fun u => Host.Outcome.next (settle s u)) (if_pos hage)

end Sys2Proof.Machine
end

section
/-! ## Requests refused, malformed or disregarded (06 to 09, R104, R108, R125, R145, R148, R161, R162, R176, R184) -/

namespace Sys2Proof.Machine

variable {s : State} {t : Telegram} {rest : List Telegram} {kind : Byte} {owner : Owner}

/-! ### A head that its owner refuses or disregards -/

/-- A head refused by its owner: nothing changes but the queues (R176). -/
theorem finish_refused {c : ResultCode} (hs : Settled s) (h : AtHead kind t rest s)
    (ho : owner t (takeHead t rest s) = refuse c (takeHead t rest s)) :
    finish (dispatch (ofKind kind) owner) s = .next (beaconJudge s (answered t rest (.of c) s)) :=
  finish_answered hs h (ofKind_atHead h) ho

theorem reserveForHead_eq (s : State) : reserveForHead s = s.setLine (reserveForHead s).line := by
  unfold reserveForHead
  (repeat' split) <;> rfl

/-- A freed reservation and its taking by the next head change the send queue's reservations alone (R175). -/
theorem disregarded_quiet (t : Telegram) (rest : List Telegram) (s : State) : Quiet s (disregarded t rest s) := by
  unfold disregarded freeReservation
  split
  · rw [reserveForHead_eq]
    exact ⟨rfl, rfl, rfl, rfl, rfl, rfl, rfl, rfl, rfl, rfl, rfl, rfl, rfl, rfl, rfl, rfl, rfl⟩
  · exact takeHead_quiet t rest s

/-- A head disregarded by its owner: nothing changes but the queues, directed or not (R175, R176). -/
theorem finish_passedOver (hs : Settled s) (h : AtHead kind t rest s)
    (ho : owner t (takeHead t rest s) = (takeHead t rest s, none)) :
    finish (dispatch (ofKind kind) owner) s = .next (beaconJudge s (disregarded t rest s)) := by
  have hdispatch : dispatch (ofKind kind) owner s = disregarded t rest s := by
    rw [dispatch_head h (ofKind_atHead h), ho]
    rfl
  unfold finish
  rw [hdispatch, settle_quiet hs (disregarded_quiet t rest s)]

/-! ### The form of a request (R104, R108, R125, R47, R145, R148, R161, R162, R41, R178, R184) -/

theorem ownGroupOn_malformed (hb : t.body ≠ []) : ownGroupOn t s = refuse .malformed s := if_pos hb

theorem ownGroupOff_malformed (hb : t.body ≠ []) : ownGroupOff t s = refuse .malformed s := if_pos hb

theorem ownClearFault_malformed (hb : t.body ≠ []) : ownClearFault t s = refuse .malformed s := if_pos hb

theorem ownRestart_malformed (hb : t.body ≠ []) : ownRestart t s = refuse .malformed s := if_pos hb

theorem ownLampNew_malformed (hd : directed s t = true) (hb : t.body ≠ []) :
    ownLampNew t s = refuse .malformed s := by
  unfold ownLampNew
  rw [hd]
  exact if_pos hb

theorem ownLevel_malformed (hb : t.body.length ≠ 1) : ownLevel t s = refuse .malformed s := by
  unfold ownLevel
  split
  · next h => rw [h] at hb; exact absurd rfl hb
  · rfl

theorem ownCorners_malformed (hb : t.body.length ≠ 12) : ownCorners t s = refuse .malformed s := by
  have hnone : cornersOf t.body = none := by
    unfold cornersOf
    split
    · next h => rw [h] at hb; exact absurd rfl hb
    · rfl
  unfold ownCorners
  rw [hnone]

/-- A byte that names an input is the code of one (12.3). -/
theorem inputOf_code {v : Byte} {i : Input} (h : inputOf v.toNat = some i) : v = byteOf (inputCode i) := by
  refine BitVec.eq_of_toNat_eq ?_
  generalize v.toNat = n at h
  unfold inputOf at h
  split at h <;> cases h <;> rfl

theorem inputOf_byteOf (i : Input) : inputOf (byteOf (inputCode i)).toNat = some i := by cases i <;> rfl

theorem mem_allInputs (i : Input) : i ∈ allInputs := by cases i <;> decide

theorem ownShow_malformed (hb : ∀ i ∈ allInputs, t.body ≠ [byteOf (inputCode i)]) :
    ownShow t s = refuse .malformed s := by
  unfold ownShow
  split
  · next v hv =>
    split
    · next i hi => exact absurd (hv.trans (by rw [inputOf_code hi])) (hb i (mem_allInputs i))
    · rfl
  · rfl

theorem ownLock_length (hb : t.body.length ≠ 3) : ownLock t s = refuse .malformed s := by
  unfold ownLock
  split
  · next h => rw [h] at hb; exact absurd rfl hb
  · rfl

theorem ownUnlock_length (hb : t.body.length ≠ 1) : ownUnlock t s = refuse .malformed s := by
  unfold ownUnlock
  split
  · next h => rw [h] at hb; exact absurd rfl hb
  · rfl

theorem ownSlotDrop_length (hb : t.body.length ≠ 1) : ownSlotDrop t s = refuse .malformed s := by
  unfold ownSlotDrop
  split
  · next h => rw [h] at hb; exact absurd rfl hb
  · rfl

theorem ownSlotDrop_zero (hb : t.body = [0]) : ownSlotDrop t s = refuse .malformed s := by
  unfold ownSlotDrop
  rw [hb]
  rfl

theorem ownSlotPut_malformed (hb : slotOf t.body = none) : ownSlotPut t s = refuse .malformed s := by
  unfold ownSlotPut
  rw [hb]

theorem slotOf_length {body : List Byte} (hb : body.length ≠ 12) : slotOf body = none := by
  unfold slotOf
  split
  · exact absurd rfl hb
  · rfl

/-- A kind of slot has one of the codes 1 to 3 (12.3). -/
theorem slotKindOf_range {n : Nat} {k : SlotKind} (h : slotKindOf n = some k) : 1 ≤ n ∧ n ≤ 3 := by
  unfold slotKindOf at h
  split at h <;> cases h <;> decide

/-- Bit 7 of the weekdays is disregarded (R184). -/
theorem weekdays_zero {wd : Byte} (h : wd &&& 0x7F = 0) : (wd.truncate 7 : BitVec 7) = 0 := by
  revert wd
  decide

/-- Bit 0 of the groups is disregarded (R184). -/
theorem groups_zero {g0 : Byte} (h : g0 &&& 0xFE = 0) : ((0 : Byte) ++ g0 : BitVec 16) &&& 0xFFFE = 0 := by
  revert g0
  decide

theorem slotOf_outOfRange {id wd s1 s0 e1 e0 k g1 g0 src lvl lead : Byte}
    (h : id = 0 ∨ wd &&& 0x7F = 0 ∨ g1 = 0 ∧ g0 &&& 0xFE = 0 ∨ 1439 < beNat [s1, s0] ∨
      beNat [e1, e0] ≤ beNat [s1, s0] ∨ 1440 < beNat [e1, e0] ∨ k = 0 ∨ 3 < k.toNat ∨ 6 < src.toNat) :
    slotOf [id, wd, s1, s0, e1, e0, k, g1, g0, src, lvl, lead] = none := by
  unfold slotOf
  simp only
  split
  · next kind hk =>
    obtain ⟨hlow, hhigh⟩ := slotKindOf_range hk
    refine if_neg fun ⟨hid, hdays, hgroups, hstart, hstop, hend, hsrc⟩ => ?_
    rcases h with h | h | ⟨h, h'⟩ | h | h | h | h | h | h
    · exact hid h
    · exact hdays (weekdays_zero h)
    · exact hgroups (by rw [h]; exact groups_zero h')
    · omega
    · omega
    · omega
    · rw [h] at hlow; exact absurd hlow (by decide)
    · omega
    · omega
  · rfl

/-! ### LOCK and UNLOCK (R145, R148) -/

/-- The scopes are the five low bits (R184). -/
theorem scopesOf_empty (b : Byte) : scopesOf b = .empty ↔ b &&& 0x1F = 0 := by
  revert b
  decide

theorem scopesOf_lampAlone {b : Byte} (h : b &&& 0x1F = 1) : { scopesOf b with lamp := false } = Scopes.empty := by
  revert b
  decide

theorem ownLock_noScope {b m1 m0 : Byte} (hb : t.body = [b, m1, m0]) (h : b &&& 0x1F = 0) :
    ownLock t s = refuse .malformed s := by
  unfold ownLock
  rw [hb]
  exact if_pos ((scopesOf_empty b).mpr h)

theorem ownLock_own {b m1 m0 : Byte} (hb : t.body = [b, m1, m0]) (h : b &&& 0x1F ≠ 0)
    (hn : t.origin.toNat = s.straps.number) : ownLock t s = (s, none) := by
  have hasked : scopesOf b ≠ .empty := fun e => h ((scopesOf_empty b).mp e)
  unfold ownLock
  rw [hb]
  exact (if_neg hasked).trans (if_pos (beq_iff_eq.mpr hn))

theorem ownLock_lampAlone {b m1 m0 : Byte} (hb : t.body = [b, m1, m0]) (h : b &&& 0x1F = 1)
    (hn : t.origin.toNat ≠ s.straps.number) : ownLock t s = refuse .malformed s := by
  have hasked : scopesOf b ≠ .empty := fun e => by
    rw [(scopesOf_empty b).mp e] at h
    exact absurd h (by decide)
  have hother : ¬fromOwn t s = true := fun e => hn (beq_iff_eq.mp e)
  unfold ownLock
  rw [hb]
  exact (if_neg hasked).trans ((if_neg hother).trans (if_pos (scopesOf_lampAlone h)))

theorem ownUnlock_outOfRange {v : Byte} (hb : t.body = [v]) (h : v.toNat = 0 ∨ 31 < v.toNat) :
    ownUnlock t s = refuse .malformed s := by
  unfold ownUnlock
  rw [hb]
  exact if_pos h

theorem ownUnlock_own {v : Byte} (hb : t.body = [v]) (hlow : 1 ≤ v.toNat) (hhigh : v.toNat ≤ 31)
    (hn : t.origin.toNat = s.straps.number) : ownUnlock t s = (s, none) := by
  have hrange : ¬(v.toNat = 0 ∨ 31 < v.toNat) := by omega
  unfold ownUnlock
  rw [hb]
  exact (if_neg hrange).trans (if_pos (beq_iff_eq.mpr hn))

/-- Of another station's lock UNLOCK is refused (R148). -/
theorem ownUnlock_locked (hb : t.body.length = 1)
    (hv : ∀ v ∈ t.body, 1 ≤ v.toNat ∧ v.toNat ≤ 31 ∧ v ≠ t.origin) (hn : t.origin.toNat ≠ s.straps.number) :
    ownUnlock t s = refuse .locked s := by
  obtain ⟨v, hbody⟩ := List.length_eq_one_iff.mp hb
  obtain ⟨hlow, hhigh, hother⟩ := hv v (by rw [hbody]; exact List.mem_singleton.mpr rfl)
  have hrange : ¬(v.toNat = 0 ∨ 31 < v.toNat) := by omega
  have hforeign : ¬fromOwn t s = true := fun e => hn (beq_iff_eq.mp e)
  unfold ownUnlock
  rw [hbody]
  exact (if_neg hrange).trans ((if_neg hforeign).trans (if_pos hother))

/-! ### The lock check (R104, R108, R125, R47, R141) -/

theorem ownGroupOn_locked (hb : t.body = [])
    (hp : passesCheck s.locks (.station t.origin.toNat) ⟨true, true, false, false, false⟩ = false) :
    ownGroupOn t s = refuse .locked s :=
  (if_neg (not_not.mpr hb)).trans (if_neg (Bool.eq_false_iff.mp hp))

theorem ownGroupOff_locked (hb : t.body = [])
    (hp : passesCheck s.locks (.station t.origin.toNat) ⟨false, true, false, false, false⟩ = false) :
    ownGroupOff t s = refuse .locked s :=
  (if_neg (not_not.mpr hb)).trans (if_neg (Bool.eq_false_iff.mp hp))

theorem ownLevel_locked (hb : t.body.length = 1)
    (hp : passesCheck s.locks (.station t.origin.toNat) ⟨false, true, false, false, false⟩ = false) :
    ownLevel t s = refuse .locked s := by
  obtain ⟨v, hbody⟩ := List.length_eq_one_iff.mp hb
  unfold ownLevel
  rw [hbody]
  exact if_neg (Bool.eq_false_iff.mp hp)

theorem ownShow_locked {i : Input} (hb : t.body = [byteOf (inputCode i)])
    (hp : passesCheck s.locks (.station t.origin.toNat) ⟨false, false, true, false, false⟩ = false) :
    ownShow t s = refuse .locked s := by
  unfold ownShow
  rw [hb]
  simp only [inputOf_byteOf]
  exact if_neg (Bool.eq_false_iff.mp hp)

theorem cornersOf_isSome {body : List Byte} (hb : body.length = 12) : (cornersOf body).isSome = true := by
  obtain ⟨a1, a0, b1, b0, c1, c0, d1, d0, e1, e0, f1, f0, rfl⟩ :
      ∃ a1 a0 b1 b0 c1 c0 d1 d0 e1 e0 f1 f0, body = [a1, a0, b1, b0, c1, c0, d1, d0, e1, e0, f1, f0] := by
    match body, hb with
    | [a1, a0, b1, b0, c1, c0, d1, d0, e1, e0, f1, f0], _ =>
      exact ⟨a1, a0, b1, b0, c1, c0, d1, d0, e1, e0, f1, f0, rfl⟩
  rfl

theorem ownCorners_locked (hb : t.body.length = 12)
    (hp : passesCheck s.locks (.station t.origin.toNat) ⟨false, false, false, true, false⟩ = false) :
    ownCorners t s = refuse .locked s := by
  obtain ⟨c, hc⟩ := Option.isSome_iff_exists.mp (cornersOf_isSome hb)
  unfold ownCorners
  rw [hc]
  exact if_neg (Bool.eq_false_iff.mp hp)

/-- Settles O13: each clause is one answer, or silence, of the kind's owner, and an owner that changes nothing leaves
the settling the beacon alone. -/
theorem refusedRequestsChangeNothing : Obligations.RefusedRequestsChangeNothing := by
  intro s t rest hs hreq hmay h0
  have head {kind : Byte} (hk : t.kind = kind) : AtHead kind t rest s := ⟨hreq, hmay, hk, h0⟩
  refine ⟨fun hk hb hp => finish_refused hs (head hk) (ownGroupOn_locked hb hp),
    fun hk hb hp => finish_refused hs (head hk) (ownGroupOff_locked hb hp),
    fun hk hb hp => finish_refused hs (head hk) (ownLevel_locked hb hp),
    fun hk ⟨i, _, hb⟩ hp => finish_refused hs (head hk) (ownShow_locked hb hp),
    fun hk hb hp => finish_refused hs (head hk) (ownCorners_locked hb hp),
    fun hk hb hv hn => finish_refused hs (head hk) (ownUnlock_locked hb hv hn),
    fun hk hb => finish_refused hs (head hk) (ownGroupOn_malformed hb),
    fun hk hb => finish_refused hs (head hk) (ownGroupOff_malformed hb),
    fun hk hb => finish_refused hs (head hk) (ownLevel_malformed hb),
    fun hk hb => finish_refused hs (head hk) (ownShow_malformed hb),
    fun hk hb => finish_refused hs (head hk) (ownCorners_malformed hb),
    fun hk hb => finish_refused hs (head hk) (ownLock_length hb),
    fun b m1 m0 hk hb => ⟨fun hform => finish_refused hs (head hk) ?_,
      fun hscope hn => finish_passedOver hs (head hk) (ownLock_own hb hscope hn)⟩,
    fun v hk hb => ⟨fun hrange => finish_refused hs (head hk) (ownUnlock_outOfRange hb hrange),
      fun hlow hhigh hn => finish_passedOver hs (head hk) (ownUnlock_own hb hlow hhigh hn)⟩,
    fun hk hb => finish_refused hs (head hk) (ownUnlock_length hb),
    fun hk hb => finish_refused hs (head hk) (ownSlotPut_malformed (slotOf_length hb)),
    fun id wd s1 s0 e1 e0 k g1 g0 src lvl lead hk hb hrange =>
      finish_refused hs (head hk) (ownSlotPut_malformed (by rw [hb]; exact slotOf_outOfRange hrange)),
    fun hk hb => finish_refused hs (head hk) (ownSlotDrop_zero hb),
    fun hk hb => finish_refused hs (head hk) (ownSlotDrop_length hb),
    fun hk hb => finish_refused hs (head hk) (ownClearFault_malformed hb),
    fun hk hd hb => finish_refused hs (head hk) (ownLampNew_malformed hd hb),
    fun hk hb => finish_refused hs (head hk) (ownRestart_malformed hb)⟩
  rcases hform with hnone | ⟨hlamp, hn⟩
  · exact ownLock_noScope hb hnone
  · exact ownLock_lampAlone hb hlamp hn

end Sys2Proof.Machine
end

section
/-! ## What the settling makes of the group's orders (06, R101 to R103, R113 to R119) -/

namespace Sys2Proof.Machine

variable {s u v b : State}

/-! ### The judgements ahead of the group's -/

/-- The judgements of the settling ahead of the group's: life limit, start, strike, life limit again (log 9). -/
def firstJudgements (s : State) : State := lifeJudge (strikeTest (startTest (lifeJudge s)))

theorem settle_eq (b s : State) : settle b s = beaconJudge b (idleJudge (fanStallJudge (retarget
    (judgeGroup (withdrawTest b (judgeGroup (firstJudgements s))))))) := rfl

theorem Settled.lifeJudged (h : Settled s) : LifeJudged s := lifeJudge_fixed.mp h.1

theorem Settled.steady (h : Settled s) : Steady s := by
  obtain ⟨hlife, hstart, hstrike, -⟩ := h
  exact ⟨lifeJudge_fixed.mp hlife, startTest_fixed.mp hstart, hstrike⟩

theorem LifeJudged.startTest (h : LifeJudged s) : LifeJudged (startTest s) :=
  have r := Risen.startTest s
  h.congr r.wear (congrArg State.settings r.outside :) r.locks r.litSide

/-- A strike puts the lamp on the lit side, where the life limit is held and no lock is added (R39). -/
theorem lifeJudge_beginAttempt (s : State) : (lifeJudge (beginAttempt s)).locks = s.locks ∧
    (lifeJudge (beginAttempt s)).group = s.group := by
  rcases lifeJudge_cases (beginAttempt s) with ⟨x, h, -⟩ | ⟨hl, -⟩
  · rw [h]; exact ⟨rfl, rfl⟩
  · cases hl

/-- With the life limit judged, the first judgements leave locks and group: no WEAR lock is added over them. -/
theorem firstJudgements_keep (h : LifeJudged s) : (firstJudgements s).locks = s.locks ∧
    (firstJudgements s).group = s.group := by
  unfold firstJudgements
  rw [lifeJudge_fixed.mpr h]
  rcases strikeTest_cases (startTest s) with e | e
  · rw [e, lifeJudge_fixed.mpr h.startTest]; exact ⟨startTest_locks s, startTest_group s⟩
  · rw [e]
    obtain ⟨hlocks, hgroup⟩ := lifeJudge_beginAttempt (startTest s)
    exact ⟨hlocks.trans (startTest_locks s), hgroup.trans (startTest_group s)⟩

theorem firstJudgements_steady (h : Steady s) : firstJudgements s = s := by
  have hlife := lifeJudge_fixed.mpr h.life
  unfold firstJudgements
  rw [hlife, startTest_fixed.mpr h.start, h.strike, hlife]

/-- A lamp that waits without a claim in the list does not strike (R6, R92). -/
theorem firstJudgements_waiting (h : LifeJudged s) (hw : (startTest s).lamp.state = .waiting)
    (hc : ownClaimed s = false) : firstJudgements s = startTest s := by
  have hclaimed : ownClaimed (startTest s) = ownClaimed s := by
    have hstraps : (startTest s).straps = s.straps := (congrArg State.straps (outside_startTest s) :)
    unfold ownClaimed
    rw [startTest_claims, hstraps]
  have hstrike : strikeTest (startTest s) = startTest s := by
    refine strikeTest_fixed.mpr ⟨fun _ ⟨hp, _⟩ => ?_, fun hg => by rw [hw] at hg; cases hg⟩
    unfold permission at hp
    rw [hclaimed, hc] at hp
    cases hp
  unfold firstJudgements
  rw [lifeJudge_fixed.mpr h, hstrike, lifeJudge_fixed.mpr h.startTest]

@[simp] theorem outside_firstJudgements (s : State) : outside (firstJudgements s) = outside s := by
  simp [firstJudgements]

/-- With the life limit judged before, no settling changes the locks. -/
theorem settle_locks (h : LifeJudged s) (b : State) : (settle b s).locks = s.locks := by
  obtain ⟨hfirst, -⟩ := firstJudgements_keep h
  obtain ⟨hjudged, -⟩ := judgeGroup_rest (firstJudgements s)
  obtain ⟨hwithdrawn, -⟩ := withdrawTest_locks b (judgeGroup (firstJudgements s))
  obtain ⟨hagain, -⟩ := judgeGroup_rest (withdrawTest b (judgeGroup (firstJudgements s)))
  obtain ⟨hlast, -⟩ := lastJudgements_rest b (judgeGroup (withdrawTest b (judgeGroup (firstJudgements s))))
  rw [settle_eq, hlast, hagain, hwithdrawn, hjudged, hfirst]

/-! ### The settling without a withdrawal (R119) -/

/-- What stands at the end of a settling in which the group is judged on `v` and nothing is withdrawn. -/
def lastJudged (b v : State) : State := beaconJudge b (idleJudge (fanStallJudge (retarget (judgeGroup v))))

theorem settle_unwithdrawn (h : withdrawTest b (judgeGroup (firstJudgements s)) = judgeGroup (firstJudgements s)) :
    settle b s = lastJudged b (firstJudgements s) := by
  rw [settle_eq, h, judgeGroup_idem]
  rfl

/-- Only an ELECTED station withdraws (R119). -/
theorem withdrawTest_unelected (h : s.group.selection ≠ .elected) : withdrawTest b s = s := by
  refine if_neg fun ⟨_, hw⟩ => ?_
  simp [withdraws, h] at hw

theorem settle_unelected (h : LifeJudged s) (hs : s.group.selection ≠ .elected) :
    settle b s = lastJudged b (firstJudgements s) := by
  refine settle_unwithdrawn (withdrawTest_unelected ?_)
  obtain ⟨-, hgroup⟩ := firstJudgements_keep h
  rw [judgeGroup_spec]
  change (firstJudgements s).group.selection ≠ .elected
  rwa [hgroup]

theorem settle_memberless (h : committedPeers s = []) : settle b s = lastJudged b (firstJudgements s) := by
  refine settle_unwithdrawn (withdrawTest_alone ?_)
  rw [judgeGroup_spec]
  exact (committedPeers_outside (outside_firstJudgements s)).trans h

theorem lastJudged_group (b v : State) : (lastJudged b v).group = judgedGroup v := by
  unfold lastJudged
  rw [lastJudgements_group, judgeGroup_spec]
  rfl

theorem lastJudged_lamp (b v : State) : (lastJudged b v).lamp =
    { v.lamp with
      heldP := judgedHeldP v
      target := (retarget (judgeGroup v)).lamp.target
      fanStall := (fanStallJudge (retarget (judgeGroup v))).lamp.fanStall } := lastJudgements_lamp b v

@[simp] theorem outside_lastJudged (b v : State) : outside (lastJudged b v) = outside v := by simp [lastJudged]

/-- The group is short by its mode, its levels and its SHORTFALL, not by its growth (R117). -/
theorem groupShort_setGroup {g g' : Group} (horders : groupOrders g = groupOrders g')
    (hshort : g.shortfall = g'.shortfall) : groupShort (s.setGroup g) = groupShort (s.setGroup g') := by
  simp only [groupOrders, Prod.mk.injEq] at horders
  obtain ⟨hmode, hoverride, hslot⟩ := horders
  have htarget : targetLevel (s.setGroup g) = targetLevel (s.setGroup g') := by
    unfold targetLevel
    simp only [State.setGroup_group, hoverride, hslot, State.setGroup_settings]
  rw [groupShort_eq, groupShort_eq, htarget]
  simp only [State.setGroup_group, hmode, hshort]
  rfl

/-- At the end of the settling the group is short as it was judged. -/
theorem lastJudged_groupShort (b v : State) : groupShort (lastJudged b v) = shortWhenJudged v := by
  have hout := outside_lastJudged b v
  have hlamp := lastJudged_lamp b v
  have hstate : (lastJudged b v).lamp.state = v.lamp.state := by rw [hlamp]
  have hcap : (lastJudged b v).lamp.cap = v.lamp.cap := by rw [hlamp]
  have hf : (lastJudged b v).geometry.f = v.geometry.f := by
    rw [show (lastJudged b v).geometry = v.geometry from (congrArg State.geometry hout :)]
  have r : GroupReads (v.setGroup (judgedGroup v)) (lastJudged b v) :=
    ⟨lastJudged_group b v, (congrArg State.peers hout :), (congrArg State.settings hout :),
      hcap, congrArg committedState hstate, hf⟩
  rw [r.groupShort]
  exact groupShort_setGroup rfl rfl

/-! ### A group that is OFF -/

/-- Without a mode the group is not short: its timer stands and its growth is reset (R117). -/
theorem Settled.group_off (h : Settled s) (hm : s.group.mode = none) :
    s.group.shortTimer = none ∧ s.group.growth = 0 := by
  obtain ⟨-, -, -, hgroup, -⟩ := h
  have hjudged := judgeGroup_fixed.mp hgroup
  have hshort : shortWhenJudged s = false := by simp [shortWhenJudged, groupShort, hm]
  have htimer : runWhile (shortWhenJudged s) 10000 s.group.shortTimer = s.group.shortTimer :=
    congrArg Group.shortTimer hjudged
  have hgrowth : (if shortWhenJudged s = true then s.group.growth else 0) = s.group.growth :=
    congrArg Group.growth hjudged
  rw [hshort] at htimer hgrowth
  exact ⟨htimer.symm, hgrowth.symm⟩

/-- The group turned OFF (R103). -/
def turnedOff (s : State) : State :=
  s.setGroup
    { s.group with mode := none, levelOverride := none, selection := .unselected, shortTimer := none, growth := 0 }

theorem groupOff_on (h : s.group.mode.isSome = true) : groupOff s = onDecision (wanted s) (turnedOff s) := by
  obtain ⟨c, hc⟩ := Option.isSome_iff_exists.mp h
  unfold groupOff
  rw [hc]
  rfl

theorem groupOff_off (h : s.group.mode = none) : groupOff s = s := by
  unfold groupOff
  rw [h]

/-- The group OFF, a lamp that was wanted is put out unless the key switch is in SERVICE (R13, R26). -/
theorem groupOff_unwanted (h : s.group.mode.isSome = true) (hs : inService s = false) (hw : wanted s = true) :
    groupOff s = unwanted (turnedOff s) := by
  have hservice : inService (turnedOff s) = false := hs
  have hoff : wanted (turnedOff s) = false := rfl
  rw [groupOff_on h]
  unfold onDecision
  rw [hservice, hw, hoff]
  rfl

/-- A lit-side lamp put out goes to COOLING with both its times (R12, R13). -/
theorem unwanted_litSide (hl : litSide s.lamp.state = true) : (unwanted s).lamp.state = .cooling ∧
    (unwanted s).lamp.actual = 0 ∧ (unwanted s).lamp.restrike = some (s.settings.restrike * 1000) ∧
    (unwanted s).lamp.coolDown = some (s.settings.coolDown * 1000) := by
  have hcooled : unwanted s = setRelight false (extinguish .cooling s) := by
    unfold unwanted
    cases hs : s.lamp.state with
    | striking | warming | lit => rfl
    | dark | waiting | cooling | fault => rw [hs] at hl; cases hl
  rw [hcooled]
  simp only [setRelight, State.setLamp_lamp, extinguish_lamp]
  exact ⟨rfl, rfl, rfl, rfl⟩

/-- A lamp put out as no longer wanted is out at the end of the step, whatever is sent (R12, R13). -/
theorem settle_unwanted (b : State) (l : HallLine) (hw : wanted s = false) :
    let u := settle b ((unwanted s).setLine l)
    committedState u.lamp.state = false ∧
    (s.lamp.state = .waiting → u.lamp.state = .dark ∧ ownClaimed u = false) ∧
    (litSide s.lamp.state = true → u.lamp.state = .cooling ∧ u.lamp.relight = false ∧ u.lamp.actual = 0 ∧
      u.lamp.restrike = some (s.settings.restrike * 1000) ∧ u.lamp.coolDown = some (s.settings.coolDown * 1000)) := by
  intro u
  set v := (unwanted s).setLine l
  have k : SettleKeeps v u := settle_keeps b v
  have hunwanted : wanted v = false := by
    change wanted (unwanted s) = false
    unfold wanted at hw ⊢
    rwa [unwanted_group]
  have hstill : Still v := still_of_unwanted (unwanted_not_committed s) hunwanted
  have hlamp := k.stillLamp hstill
  have hstate : u.lamp.state = (unwanted s).lamp.state := (congrArg Lamp.state hlamp :)
  refine ⟨(k.still hstill).not_committed, fun hs => ⟨?_, ?_⟩, fun hl => ?_⟩
  · rw [hstate, unwanted_state, hs]
  · have hclaimed : ownClaimed u = ownClaimed (unwanted s) := by
      have hstraps : u.straps = v.straps := settle_straps b v
      unfold ownClaimed
      rw [k.stillClaims hstill, hstraps]
      rfl
    rw [hclaimed, unwanted_unclaimed hs]
  · obtain ⟨hout, hactual, hrestrike, hcool⟩ := unwanted_litSide hl
    refine ⟨hstate.trans hout, ?_, (congrArg Lamp.actual hlamp :).trans hactual,
      (congrArg Lamp.restrike hlamp :).trans hrestrike, (congrArg Lamp.coolDown hlamp :).trans hcool⟩
    by_contra hn
    have hrelight : (unwanted s).lamp.relight = true := k.relight (by simpa using hn)
    rw [unwanted_relight hl] at hrelight
    cases hrelight

/-- The group turned OFF with the mode ON, at the end of the step, whatever is sent (R13, R103). -/
theorem settle_groupOff (b : State) (l : HallLine) (hm : s.group.mode.isSome = true) :
    let u := settle b ((groupOff s).setLine l)
    u.group.mode = none ∧ u.group.levelOverride = none ∧ u.group.selection = .unselected ∧
    u.group.shortTimer = none ∧ u.group.growth = 0 ∧ u.group.slotLevel = s.group.slotLevel ∧
    (inService s = false → wanted s = true →
      committedState u.lamp.state = false ∧
      (s.lamp.state = .waiting → u.lamp.state = .dark ∧ ownClaimed u = false) ∧
      (litSide s.lamp.state = true → u.lamp.state = .cooling ∧ u.lamp.relight = false ∧ u.lamp.actual = 0 ∧
        u.lamp.restrike = some (s.settings.restrike * 1000) ∧
        u.lamp.coolDown = some (s.settings.coolDown * 1000))) := by
  intro u
  have hgroup : (groupOff s).group = (turnedOff s).group := by rw [groupOff_on hm, onDecision_group]
  have horders : groupOrders u.group = (none, none, s.group.slotLevel) := by
    have hset : groupOrders u.group = groupOrders (groupOff s).group := settle_orders b ((groupOff s).setLine l)
    rw [hset, hgroup]
    rfl
  simp only [groupOrders, Prod.mk.injEq] at horders
  obtain ⟨hmode, hlevel, hslot⟩ := horders
  obtain ⟨htimer, hgrowth⟩ := (settle_settled b ((groupOff s).setLine l)).group_off hmode
  refine ⟨hmode, hlevel, (settle_keeps b _).selection ?_, htimer, hgrowth, hslot, fun hs hw => ?_⟩
  · exact (congrArg Group.selection hgroup :)
  · change committedState (settle b ((groupOff s).setLine l)).lamp.state = false ∧ _
    have hput := settle_unwanted (s := turnedOff s) b l rfl
    rw [← groupOff_unwanted hm hs hw] at hput
    exact hput

end Sys2Proof.Machine
end

section
/-! ## GROUP_ON, GROUP_OFF and LEVEL (06, R102 to R104, R108, R109, R113, R115) -/

namespace Sys2Proof.Machine

variable {s u v b : State} {t : Telegram} {rest : List Telegram} {d : Bool} {r : Result} {c : OnCause}

/-- A head carried out by its owner and answered (R175, R176). -/
theorem finish_replied {kind : Byte} {owner : Owner} (h : AtHead kind t rest s)
    (ho : owner t (takeHead t rest s) = (u, some r)) :
    finish (dispatch (ofKind kind) owner) s = .next (settle s (replied (directed s t) t r u)) :=
  congrArg (fun v => Host.Outcome.next (settle s v)) (dispatch_replied h (ofKind_atHead h) ho)

/-- A carried out and answered head leaves all but the queues outside as its owner left it, whatever the answer. -/
theorem outside_settle_replied (r' : Result) (hu : outside u = outside (takeHead t rest s)) :
    outside (settle b (replied (directed s t) t r u)) = outside (answered t rest r' s) := by
  have hanswer : outside (replied (directed s t) t r (takeHead t rest s)) = outside (answered t rest r' s) := by
    rw [answered_eq]
    unfold replied
    cases directed s t <;> rfl
  rw [outside_settle, replied_outside _ _ _ hu, hanswer]

/-! ### GROUP_ON (R102 to R104, R113) -/

/-- The group turned ON (R102). -/
def turnedOn (c : OnCause) (s : State) : State := s.setGroup { s.group with mode := some c }

theorem groupOn_off (h : s.group.mode = none) :
    groupOn c s = if ownAvailable s then elect (turnedOn c s) else turnedOn c s := by
  unfold groupOn
  rw [h]
  rfl

/-- Turned ON by a request when it is ON, the group stands as it is (R102). -/
theorem groupOn_request (h : s.group.mode.isSome = true) : groupOn .request s = s := by
  obtain ⟨x, hx⟩ := Option.isSome_iff_exists.mp h
  unfold groupOn
  rw [hx]

/-- The levels are no matter of the mode's turning ON (R102, R108). -/
theorem groupOn_orders (h : s.group.mode = none) :
    groupOrders (groupOn c s).group = (some c, s.group.levelOverride, s.group.slotLevel) := by
  rw [groupOn_off h]
  split
  · rw [elect_group]; split <;> rfl
  · rfl

/-- Turning the group ON elects, and may make the lamp wanted (R113). -/
theorem groupOn_elects (h : s.group.mode = none) : groupOn c s = turnedOn c s ∨
    groupOn c s = elected (turnedOn c s) ∨ groupOn c s = nowWanted (elected (turnedOn c s)) := by
  rw [groupOn_off h]
  split
  · unfold elect
    split
    · exact .inr (onDecision_wanted (s := elected (turnedOn c s)) rfl _)
    · exact .inl rfl
  · exact .inl rfl

theorem groupOn_risen (h : s.group.mode = none) : Risen s (groupOn c s) := by
  have hon : Risen s (turnedOn c s) := ⟨.inl rfl, rfl, rfl, rfl, rfl, rfl⟩
  rcases groupOn_elects (c := c) h with e | e | e <;> rw [e]
  · exact hon
  · exact hon.trans (elected_risen _)
  · exact (hon.trans (elected_risen _)).trans (.nowWanted _)

/-- The own station not available, or not taken by the election, nothing but the mode changes (R113). -/
theorem groupOn_unelected (h : s.group.mode = none) (hn : ownAvailable s = false ∨ electionTakesOwn s = false) :
    groupOn c s = turnedOn c s := by
  rw [groupOn_off h]
  split
  · next ha =>
    rcases hn with hn | hn
    · rw [hn] at ha; cases ha
    · exact if_neg (Bool.eq_false_iff.mp hn)
  · rfl

/-- The own station available and taken by the election, it is ELECTED (R113). -/
theorem groupOn_elected (h : s.group.mode = none) (ha : ownAvailable s = true) (ht : electionTakesOwn s = true) :
    (groupOn c s).group = (elected (turnedOn c s)).group ∧
    (groupOn c s = elected (turnedOn c s) ∨ groupOn c s = nowWanted (elected (turnedOn c s))) := by
  have hop : groupOn c s = onDecision (wanted (turnedOn c s)) (elected (turnedOn c s)) := by
    rw [groupOn_off h, if_pos ha]
    exact if_pos ht
  rw [hop]
  exact ⟨onDecision_group _ _, onDecision_wanted rfl _⟩

theorem startConditions_elected (ha : ownAvailable s = true) (hf : anyFault s.lamp.faults = false)
    (hp : s.pins.supplyLow = false) : startConditions (elected (turnedOn c s)) = true := by
  unfold ownAvailable at ha
  simp only [Bool.and_eq_true, Bool.not_eq_true'] at ha
  obtain ⟨⟨⟨⟨-, hlock⟩, hfresh⟩, hservice⟩, hdup⟩ := ha
  have hw : wanted (elected (turnedOn c s)) = true := rfl
  have hreads : startConditions (elected (turnedOn c s)) = (wanted (elected (turnedOn c s)) && !lampLocked s.locks &&
    !anyFault s.lamp.faults && !isFresh s && !isDuplicate s && !inService s && !s.pins.supplyLow) := rfl
  simp [hreads, hw, hlock, hf, hfresh, hdup, hservice, hp]

theorem mem_replied {e : QueueEntry} (he : e ∈ u.line.queue) : e ∈ (replied d t r u).line.queue := by
  unfold replied
  cases d with
  | false => exact he
  | true => exact List.mem_append_left _ he

/-- Once a head is carried out and answered no more entries are reserved than before it (R175, R176). -/
theorem replied_reserved (t : Telegram) (rest : List Telegram) (r : Result) (s : State) :
    (replied (directed s t) t r (takeHead t rest s)).line.reserved ≤ s.line.reserved := by
  unfold replied takeHead
  cases directed s t with
  | false => exact Nat.le_refl _
  | true =>
    simp only [giveAnswer, State.setLine_line, if_true, Bool.true_and]
    split <;> omega

/-- An answer fills one entry (R176). -/
theorem replied_others (d : Bool) (t : Telegram) (r : Result) (u : State) :
    othersFilled (replied d t r u).line.queue ≤ othersFilled u.line.queue + 1 := by
  unfold replied
  cases d with
  | false => exact Nat.le_succ _
  | true => simp [giveAnswer, othersFilled, newEntry, isBeacon]

/-- With six entries in use at most there is one for a telegram, ahead of the answer and after it (R171, R175). -/
theorem hasFree_takeHead (t : Telegram) (rest : List Telegram)
    (h : othersFilled s.line.queue + s.line.reserved < 6) : hasFree (takeHead t rest s).line = true := by
  have hreserved : (takeHead t rest s).line.reserved ≤ s.line.reserved + 1 := by
    unfold takeHead
    simp only [State.setLine_line]
    split <;> omega
  have hqueue : (takeHead t rest s).line.queue = s.line.queue := rfl
  unfold hasFree
  rw [hqueue]
  exact decide_eq_true (by omega)

theorem hasFree_replied (t : Telegram) (rest : List Telegram) (r : Result)
    (h : othersFilled s.line.queue + s.line.reserved < 6) :
    hasFree (replied (directed s t) t r (takeHead t rest s)).line = true := by
  have hreserved := replied_reserved t rest r s
  have hothers : _ ≤ othersFilled s.line.queue + 1 := replied_others (directed s t) t r (takeHead t rest s)
  unfold hasFree
  exact decide_eq_true (by omega)

theorem startTest_starts (hd : s.lamp.state = .dark) (hc : startConditions s = true) :
    startTest s = enterWaiting s := if_pos ⟨hd, hc⟩

theorem nowWanted_dark (hd : s.lamp.state = .dark) (hc : startConditions s = true) :
    nowWanted s = enterWaiting s := by
  unfold nowWanted
  rw [hd]
  exact startTest_starts hd hc

/-- A lamp in DARK whose station is elected waits with its CLAIM handed over, whether the decision brings it there
or, after the answer, the start (R4, R5, R113). -/
theorem startTest_groupOn (hm : s.group.mode = none) (ha : ownAvailable s = true) (ht : electionTakesOwn s = true)
    (hd : s.lamp.state = .dark) (hf : anyFault s.lamp.faults = false) (hp : s.pins.supplyLow = false) :
    let v := startTest (replied d t r (groupOn c s))
    v.lamp = (enterWaiting s).lamp ∧
    (hasFree s.line = true → hasFree (replied d t r s).line = true → newEntry .claim ∈ v.line.queue) := by
  have hc : startConditions (elected (turnedOn c s)) = true := startConditions_elected ha hf hp
  obtain ⟨-, hop⟩ := groupOn_elected (c := c) hm ha ht
  rcases hop with e | e
  · set w := replied d t r (elected (turnedOn c s)) with hw
    have hweq : w = (elected (turnedOn c s)).setLine w.line := replied_eq d t r _
    have hstart : startTest w = enterWaiting w := by
      refine startTest_starts ?_ ?_ <;> rw [hweq]
      · exact hd
      · exact hc
    have hline : w.line = (replied d t r s).line := by
      rw [hw]; unfold replied; cases d <;> rfl
    rw [e, hstart]
    refine ⟨by rw [hweq]; rfl, fun _ hfree => ?_⟩
    exact mem_handOver (hline ▸ hfree)
  · rw [e, nowWanted_dark (s := elected (turnedOn c s)) hd hc]
    set w := replied d t r (enterWaiting (elected (turnedOn c s))) with hw
    have hlamp : w.lamp = (enterWaiting s).lamp := by rw [hw, replied_eq]; rfl
    have hrest : startTest w = w := startTest_fixed.mpr fun ⟨hdark, _⟩ => by rw [hlamp] at hdark; cases hdark
    rw [hrest]
    exact ⟨hlamp, fun hfree _ => mem_replied (mem_handOver hfree)⟩

theorem ownGroupOn_passes (hb : t.body = [])
    (hp : passesCheck s.locks (.station t.origin.toNat) ⟨true, true, false, false, false⟩ = true) :
    ownGroupOn t s = (groupOn .request s, some (.of .taken)) :=
  (if_neg (not_not.mpr hb)).trans (if_pos hp)

/-- The life limit stays judged under a lamp that has risen, whatever is sent (R39). -/
theorem LifeJudged.risen (h : LifeJudged s) (q : Risen s u) (l : HallLine) : LifeJudged (u.setLine l) :=
  h.congr q.wear (congrArg State.settings q.outside :) q.locks q.litSide

/-- Alone, a station elected with its lamp in DARK waits at the end of the step (R4, R5, R113). -/
theorem settle_groupOn_elected (h : Settled s) (halone : Alone s) (hm : s.group.mode = none)
    (ha : ownAvailable s = true) (ht : electionTakesOwn s = true) (hd : s.lamp.state = .dark)
    (hf : anyFault s.lamp.faults = false) (hp : s.pins.supplyLow = false) :
    let u := settle s (replied (directed s t) t r (groupOn c (takeHead t rest s)))
    u.group.selection = .elected ∧ u.lamp.state = .waiting ∧ u.lamp.attempts = 0 ∧
      u.lamp.relight = false ∧ u.lamp.coolDown = none ∧ u.lamp.renewal = some 4000 ∧
      (othersFilled s.line.queue + s.line.reserved < 6 → newEntry .claim ∈ u.line.queue) := by
  obtain ⟨hpeers, hclaim⟩ := halone
  have q : Risen (takeHead t rest s) (groupOn c (takeHead t rest s)) := groupOn_risen hm
  obtain ⟨hgroup, -⟩ := groupOn_elected (s := takeHead t rest s) (c := c) hm ha ht
  set v := replied (directed s t) t r (groupOn c (takeHead t rest s)) with hv
  obtain ⟨hlamp, hqueue⟩ :=
    startTest_groupOn (s := takeHead t rest s) (d := directed s t) (t := t) (r := r) (c := c) hm ha ht hd hf hp
  have hveq : v = (groupOn c (takeHead t rest s)).setLine v.line := replied_eq _ _ _ _
  have hlife : LifeJudged v := by
    rw [hveq]
    exact LifeJudged.risen (s := takeHead t rest s) h.lifeJudged q _
  have hunclaimed : ownClaimed v = false := by
    have hclaims : v.claims = s.claims := by rw [hveq]; exact q.claims
    have hstraps : v.straps = s.straps := by rw [hveq]; exact (congrArg State.straps q.outside :)
    unfold ownClaimed at hclaim ⊢
    rwa [hclaims, hstraps]
  have hmemberless : committedPeers v = [] := by
    have hpeers' : committedPeers v = committedPeers (takeHead t rest s) := by
      rw [hveq]; exact (committedPeers_outside q.outside :)
    exact hpeers'.trans hpeers
  have hwaits : (startTest v).lamp.state = .waiting := by rw [hlamp]; rfl
  intro u
  have hu : u = lastJudged s (startTest v) := by
    rw [← firstJudgements_waiting hlife hwaits hunclaimed]
    exact settle_memberless hmemberless
  have hselection : (startTest v).group.selection = .elected := by
    rw [startTest_group, hveq]
    exact congrArg Group.selection hgroup
  refine ⟨?_, ?_⟩
  · rw [hu, lastJudged_group]; exact hselection
  · rw [hu, lastJudged_lamp, hlamp]
    exact ⟨rfl, rfl, rfl, rfl, rfl, fun hfree =>
      mem_lastJudgements (hqueue (hasFree_takeHead t rest hfree) (hasFree_replied t rest r hfree))⟩

/-- The mode ON with the own station not selected leaves the lamp where it is (R3, R113). -/
theorem settle_turnedOn (h : Settled s) (hm : s.group.mode = none) (hs : s.group.selection = .unselected)
    (l : HallLine) :
    let u := settle s ((turnedOn c s).setLine l)
    u.group.selection = .unselected ∧ u.lamp.state = s.lamp.state := by
  set v := (turnedOn c s).setLine l
  have hselection : v.group.selection = .unselected := hs
  have hwanted : wanted v = wanted s := by
    unfold wanted
    rw [hselection, hm]
    rfl
  have rs : SteadyReads s v := ⟨rfl, rfl, rfl, rfl, rfl, rfl, rfl, rfl, rfl, hwanted, rfl, rfl, rfl⟩
  have hsteady : Steady v := h.steady.congr rs
  intro u
  have hu : u = lastJudged s v := by
    conv_rhs => rw [← firstJudgements_steady hsteady]
    exact settle_unelected hsteady.life (by rw [hselection]; nofun)
  refine ⟨(settle_keeps s v).selection hselection, ?_⟩
  rw [hu, lastJudged_lamp]
  rfl

/-- Settles O14: the mode, what the election and the start make of the lamp, and the settling that follows. -/
theorem groupOnTurnsTheGroupOn : Obligations.GroupOnTurnsTheGroupOn := by
  intro s t rest hs h hb hp
  have ho : ownGroupOn t (takeHead t rest s) = (groupOn .request (takeHead t rest s), some (.of .taken)) :=
    ownGroupOn_passes hb hp
  refine ⟨fun hm => ⟨_, finish_replied h ho, ?_⟩, fun hm => finish_answered hs h (ofKind_atHead h) ?_⟩
  · have hmHead : (takeHead t rest s).group.mode = none := hm
    have q : Risen (takeHead t rest s) (groupOn .request (takeHead t rest s)) := groupOn_risen hmHead
    have hveq := replied_eq (directed s t) t (.of .taken) (groupOn .request (takeHead t rest s))
    have hlocks : (settle s (replied (directed s t) t (.of .taken) (groupOn .request (takeHead t rest s)))).locks =
        s.locks := by
      rw [settle_locks, hveq]
      · exact q.locks
      · rw [hveq]; exact LifeJudged.risen (s := takeHead t rest s) hs.lifeJudged q _
    have horders : groupOrders
        (settle s (replied (directed s t) t (.of .taken) (groupOn .request (takeHead t rest s)))).group =
          (some .request, s.group.levelOverride, s.group.slotLevel) := by
      rw [settle_orders, hveq]
      exact groupOn_orders (s := takeHead t rest s) hm
    simp only [groupOrders, Prod.mk.injEq] at horders
    obtain ⟨hmode, hlevel, hslot⟩ := horders
    refine ⟨hmode, hlevel, hslot, hlocks, answerQueued_settle _ _ _ _ _, outside_settle_replied _ q.outside,
      fun halone ha ht hd hf hl => settle_groupOn_elected hs halone hm ha ht hd hf hl, fun hn hsel => ?_⟩
    have hstands : groupOn .request (takeHead t rest s) = turnedOn .request (takeHead t rest s) :=
      groupOn_unelected hmHead hn
    rw [hveq, hstands]
    exact settle_turnedOn hs hm hsel _
  · rw [ho, groupOn_request (s := takeHead t rest s) hm]

/-! ### GROUP_OFF (R102 to R104, R13) -/

theorem ownGroupOff_passes (hb : t.body = [])
    (hp : passesCheck s.locks (.station t.origin.toNat) ⟨false, true, false, false, false⟩ = true) :
    ownGroupOff t s = (groupOff s, some (.of .taken)) :=
  (if_neg (not_not.mpr hb)).trans (if_pos hp)

/-- Settles O15: the group's turning OFF, with the answer sent after it. -/
theorem groupOffTurnsTheGroupOff : Obligations.GroupOffTurnsTheGroupOff := by
  intro s t rest hs h hb hp
  have ho : ownGroupOff t (takeHead t rest s) = (groupOff (takeHead t rest s), some (.of .taken)) :=
    ownGroupOff_passes hb hp
  refine ⟨fun hm => ⟨_, finish_replied h ho, ?_⟩, fun hm => finish_answered hs h (ofKind_atHead h) ?_⟩
  · have hqueued := answerQueued_settle t (.of .taken) s s (groupOff (takeHead t rest s))
    have hout : outside (settle s (replied (directed s t) t (.of .taken) (groupOff (takeHead t rest s)))) =
        outside (answered t rest (.of .taken) s) := outside_settle_replied _ (outside_groupOff _)
    have hveq := replied_eq (directed s t) t (.of .taken) (groupOff (takeHead t rest s))
    rw [hveq] at hqueued hout ⊢
    obtain ⟨hmode, hlevel, hselection, htimer, hgrowth, hslot, hlamp⟩ :=
      settle_groupOff (s := takeHead t rest s) s
        (replied (directed s t) t (.of .taken) (groupOff (takeHead t rest s))).line hm
    exact ⟨hmode, hlevel, hselection, htimer, hgrowth, hslot, hqueued, hout, hlamp⟩
  · rw [ho, groupOff_off (s := takeHead t rest s) hm]

/-! ### LEVEL (R108, R109, R115) -/

/-- The level brought into its range, and whether that changed it (R108). -/
theorem ownLevel_passes {x : Byte} (hb : t.body = [x])
    (hp : passesCheck s.locks (.station t.origin.toNat) ⟨false, true, false, false, false⟩ = true) :
    ownLevel t s = (s.setGroup { s.group with levelOverride := some (max 10 (min 200 x.toNat)) },
      some ⟨.taken, decide (x.toNat < 10 ∨ 200 < x.toNat), []⟩) := by
  have hclamped : (clamp 10 200 x.toNat != x.toNat) = decide (x.toNat < 10 ∨ 200 < x.toNat) := by
    unfold clamp
    rw [Bool.eq_iff_iff, bne_iff_ne, decide_eq_true_iff]
    omega
  unfold ownLevel
  rw [hb]
  simp only [hclamped]
  exact if_pos hp

/-- Settles O16: the override alone changes, and the settled P is the one of the override. -/
theorem levelSetsTheOverrideAndThePower : Obligations.LevelSetsTheOverrideAndThePower := by
  intro s t rest x hs h hb hp
  set r : Result := ⟨.taken, decide (x.toNat < 10 ∨ 200 < x.toNat), []⟩
  set w := (takeHead t rest s).setGroup { s.group with levelOverride := some (max 10 (min 200 x.toNat)) } with hw
  have ho : ownLevel t (takeHead t rest s) = (w, some r) := ownLevel_passes hb hp
  have hqueued := answerQueued_settle t r s s w
  have hout : outside (settle s (replied (directed s t) t r w)) = outside (answered t rest (.of .taken) s) :=
    outside_settle_replied _ rfl
  refine ⟨_, finish_replied h ho, ?_⟩
  set v := replied (directed s t) t r w with hv
  have hveq : v = w.setLine v.line := replied_eq _ _ _ _
  have horders : groupOrders (settle s v).group =
      (s.group.mode, some (max 10 (min 200 x.toNat)), s.group.slotLevel) := by
    rw [settle_orders, hveq]; rfl
  simp only [groupOrders, Prod.mk.injEq] at horders
  obtain ⟨hmode, hlevel, hslot⟩ := horders
  have hunclamped : (settle s v).group.unclamped = unclampedPower w := by
    rw [settle_unclamped, hveq]; rfl
  have hcap : (settle s v).lamp.cap = s.lamp.cap := by
    refine (congrArg Lamp.cap (settle_keeps s v).lamp :).trans ?_
    rw [hveq]; rfl
  have hpower := (settle_settled s v).group_p
  have hsettings : (settle s v).settings = s.settings := by
    rw [settle_settings, hveq]; rfl
  rw [hcap, hsettings] at hpower
  have hlife : LifeJudged v := by
    rw [hveq]
    exact hs.lifeJudged.congr rfl rfl rfl rfl
  have hlocks : v.locks = s.locks := by rw [hveq]; rfl
  exact ⟨hlevel, hmode, hslot, hunclamped, hpower, hqueued, hout, (settle_locks hlife s).trans hlocks⟩

end Sys2Proof.Machine
end

section
/-! ## IDLE_TIMER_EXPIRY and SHORTFALL_TIMER_EXPIRY (06, 07, R106, R117, R118, R136) -/

namespace Sys2Proof.Machine

variable {s u v w b : State} {l : HallLine} {n : Nat}

/-! ### What a lamp put out leaves in the send queue (R5, R13) -/

theorem reportExtinction_line (s : State) : (reportExtinction s).line = s.line := by
  unfold reportExtinction
  rw [requestWrite_eq]
  rfl

theorem releaseClaim_others (s : State) :
    othersFilled (releaseClaim s).line.queue ≤ othersFilled s.line.queue + 1 := by
  have hrelease : othersFilled (handOver .release (withdrawClaims s.line)).queue ≤ _ := handOver_others
  have hwithdrawn : othersFilled (withdrawClaims s.line).queue ≤ othersFilled s.line.queue := withdrawClaims_others
  exact hrelease.trans (Nat.succ_le_succ hwithdrawn)

/-- Out of STRIKING a RELEASE is sent, out of WARMING and LIT nothing (R12, R91). -/
theorem extinguish_others (m : LampState) (s : State) :
    othersFilled (extinguish m s).line.queue ≤ othersFilled s.line.queue + 1 := by
  unfold extinguish
  cases s.lamp.state with
  | striking p => exact releaseClaim_others s
  | warming | lit =>
    simp only [burning, if_true]
    rw [reportExtinction_line]
    exact Nat.le_succ _
  | dark | waiting | cooling | fault => exact Nat.le_succ _

theorem unwanted_others (s : State) : othersFilled (unwanted s).line.queue ≤ othersFilled s.line.queue + 1 := by
  unfold unwanted
  cases s.lamp.state with
  | waiting => exact releaseClaim_others s
  | striking | warming | lit => exact extinguish_others .cooling s
  | dark | cooling | fault => exact Nat.le_succ _

/-- The group turned OFF fills one entry at most, that of a RELEASE (R13, R91). -/
theorem groupOff_others (s : State) : othersFilled (groupOff s).line.queue ≤ othersFilled s.line.queue + 1 := by
  cases hm : s.group.mode with
  | none => rw [groupOff_off hm]; exact Nat.le_succ _
  | some c =>
    have hoff : wanted (turnedOff s) = false := rfl
    rw [groupOff_on (by rw [hm]; rfl)]
    unfold onDecision
    rw [hoff, Bool.and_false]
    split
    · exact Nat.le_succ _
    · split
      · exact unwanted_others (turnedOff s)
      · exact Nat.le_succ _

/-- With six entries in use at most there is one for a telegram after the group's turning OFF (R171). -/
theorem hasFree_groupOff (h : othersFilled s.line.queue + s.line.reserved < 6) : hasFree (groupOff s).line = true := by
  have hline : (outside (groupOff s)).line = (outside s).line := congrArg State.line (outside_groupOff s)
  have hreserved : (groupOff s).line.reserved = s.line.reserved := (congrArg HallLine.reserved hline :)
  have hothers := groupOff_others s
  unfold hasFree
  rw [hreserved]
  exact decide_eq_true (by omega)

/-! ### Idle off (R106, R136) -/

/-- While the idle timer runs the group is ON by a cause that idle off acts on (R106, R136). -/
theorem idleCondition_mode (h : idleCondition s = true) :
    s.group.mode = some .request ∨ s.group.mode = some .keypad ∨ s.group.mode = some .signal := by
  unfold idleCondition at h
  cases hm : s.group.mode with
  | none => rw [hm] at h; cases h
  | some c =>
    cases c with
    | schedule => rw [hm] at h; cases h
    | request | keypad | signal => simp

theorem idleOff_eq (h : idleCondition s = true) : idleOff s =
    if passesCheck s.locks .signal ⟨false, true, false, false, false⟩ then
      send (modeTelegram kindGroupOff) (groupOff s) else s := by
  unfold idleOff
  rcases idleCondition_mode h with e | e | e <;> rw [e]

/-- The idle timer stopped (R136). -/
def idleStopped (s : State) : State := s.setSource { s.source with idle := none }

theorem idleExpired_running (h : s.source.idle.isSome = true) : idleExpired s = idleOff (idleStopped s) := if_pos h

/-- The group OFF, no idle timer runs (R136). -/
theorem Settled.idle_off (h : Settled s) (hm : s.group.mode = none) : s.source.idle = none := by
  obtain ⟨-, -, -, -, -, -, hidle⟩ := h
  have hcondition : idleCondition s = false := by unfold idleCondition; rw [hm]; rfl
  have hnone := idleJudge_fixed.mp hidle
  rw [hcondition] at hnone
  exact Option.isNone_iff_eq_none.mp (Option.isSome_eq_false_iff.mp hnone)

/-- A stopped idle timer whose conditions hold starts anew, and nothing else is left to settle (R136). -/
theorem settle_idleStopped (h : Settled s) (hi : idleCondition s = true) :
    settle s (idleStopped s) = s.setSource { s.source with idle := some (s.settings.idle * 60000) } := by
  obtain ⟨-, -, -, hgroup, htarget, hfan, -⟩ := id h
  set v := idleStopped s
  have rs : SteadyReads s v := ⟨rfl, rfl, rfl, rfl, rfl, rfl, rfl, rfl, rfl, rfl, rfl, rfl, rfl⟩
  have hsteady : Steady v := h.steady.congr rs
  have hjudged : judgeGroup v = v := judgeGroup_fixed_congr (s := s) ⟨rfl, rfl, rfl, rfl, rfl, rfl⟩ hgroup
  have hretarget : retarget v = v := retarget_congr htarget rfl rfl rfl rfl rfl
  have hstall : fanStallJudge v = v := fanStallJudge_congr hfan rfl rfl rfl
  have hcondition : idleCondition v = true := hi
  have hidle : idleJudge v = s.setSource { s.source with idle := some (s.settings.idle * 60000) } := by
    unfold idleJudge
    rw [hcondition]
    rfl
  rw [settle_timers (b := s) (lifeJudge_fixed.mpr hsteady.life) (startTest_fixed.mpr hsteady.start) hsteady.strike
    hjudged (withdrawTest_same rfl), hretarget, hstall, hidle]
  exact beaconJudge_same rfl

/-- Settles O46: idle off turns the group OFF, or is refused and leaves the timer to be started again. -/
theorem idleTurnsTheGroupOff : Obligations.IdleTurnsTheGroupOff := by
  intro s h hi
  have hcondition : idleCondition s = true := by
    obtain ⟨-, -, -, -, -, -, hidle⟩ := h
    rw [← idleJudge_fixed.mp hidle, hi]
  have hop := idleExpired_running hi
  have hoff := idleOff_eq (s := idleStopped s) hcondition
  have hmode : (idleStopped s).group.mode.isSome = true := by
    change s.group.mode.isSome = true
    rcases idleCondition_mode hcondition with e | e | e <;> rw [e] <;> rfl
  refine ⟨fun hp => ⟨settle s (send (modeTelegram kindGroupOff) (groupOff (idleStopped s))), ?_, ?_⟩, fun hp => ?_⟩
  · exact congrArg (fun v => Host.Outcome.next (settle s v)) (hop.trans (hoff.trans (if_pos hp)))
  · obtain ⟨hnone, hlevel, hselection, -, -, -, hlamp⟩ :=
      settle_groupOff (s := idleStopped s) s
        (handOver (modeTelegram kindGroupOff) (groupOff (idleStopped s)).line) hmode
    refine ⟨hnone, hlevel, hselection, (settle_settled _ _).idle_off hnone, ?_, fun hs hw => ?_, fun hfree => ?_⟩
    · rw [outside_settle, outside_send, outside_groupOff]
      rfl
    · obtain ⟨hout, -⟩ := hlamp hs hw
      exact hout
    · exact (settle_keeps s _).queue _ (mem_handOver (hasFree_groupOff (s := idleStopped s) hfree)) nofun
  · refine congrArg Host.Outcome.next ?_
    have hrefused : idleExpired s = idleStopped s := hop.trans (hoff.trans (if_neg (Bool.eq_false_iff.mp hp)))
    rw [hrefused]
    exact settle_idleStopped h hcondition

/-! ### A growth step (R117, R118) -/

/-- The growth counted on, its timer ended (R118). -/
def grownBy (n : Nat) (s : State) : State := s.setGroup { s.group with growth := n, shortTimer := none }

/-- The own station selected by a growth step (R118). -/
def selectGrown (s : State) : State := s.setGroup { s.group with selection := .grown }

theorem growthStep_running (h : s.group.shortTimer.isSome = true) : growthStep s =
    if amongFirst (min 30 (s.group.growth + 1)) s && s.group.selection == .unselected then
      onDecision (wanted s) (selectGrown (grownBy (min 30 (s.group.growth + 1)) s))
    else grownBy (min 30 (s.group.growth + 1)) s := if_pos h

/-- The shortfall timer runs only while the group is ON (R117). -/
theorem Settled.shortTimer_mode (h : Settled s) (ht : s.group.shortTimer.isSome = true) :
    s.group.mode.isSome = true := by
  by_contra hn
  obtain ⟨hnone, -⟩ := h.group_off (Option.not_isSome_iff_eq_none.mp hn)
  rw [hnone] at ht
  cases ht

/-- After a growth step the count stands and the timer runs again if the group is short still; else both are reset
(R117). -/
theorem lastJudged_growth (b : State) (ht : w.group.shortTimer = none) :
    let u := lastJudged b w
    u.group.growth = (if groupShort u = true then w.group.growth else 0) ∧
    u.group.shortTimer = (if groupShort u = true then some 10000 else none) := by
  intro u
  have hshort : groupShort u = shortWhenJudged w := lastJudged_groupShort b w
  have hgroup : u.group = judgedGroup w := lastJudged_group b w
  rw [hshort, hgroup]
  refine ⟨rfl, ?_⟩
  change runWhile _ _ _ = _
  rw [ht]
  rfl

/-- The count alone gives the settling the growth and its timer to judge, and nothing to withdraw by. -/
theorem settle_grownBy (h : Settled s) (n : Nat) : settle s (grownBy n s) = lastJudged s (grownBy n s) := by
  have rs : SteadyReads s (grownBy n s) := ⟨rfl, rfl, rfl, rfl, rfl, rfl, rfl, rfl, rfl, rfl, rfl, rfl, rfl⟩
  have hfirst := firstJudgements_steady (h.steady.congr rs)
  conv_rhs => rw [← hfirst]
  refine settle_unwithdrawn (withdrawTest_same ?_)
  rw [hfirst, judgeGroup_spec]
  rfl

/-- The growth is no matter of the lamp's. -/
theorem lastJudged_grownBy_lamp (h : Settled s) (n : Nat) : (lastJudged s (grownBy n s)).lamp = s.lamp := by
  obtain ⟨-, -, -, hgroup, htarget, hfan, -⟩ := h
  set v := grownBy n s
  have hpower : commonPower v = v.group.p := (congrArg Group.p (judgeGroup_fixed.mp hgroup) :)
  have hheld : judgedHeldP v = s.lamp.heldP := if_pos hpower
  have hlamp : (judgeGroup v).lamp = s.lamp := by
    rw [judgeGroup_spec, hheld]
    rfl
  have hout : outside (judgeGroup v) = outside s := outside_judgeGroup v
  have hretarget : retarget (judgeGroup v) = judgeGroup v :=
    retarget_congr htarget (by rw [hlamp]) (by rw [hlamp]) (by rw [hlamp]) (by rw [hlamp])
      (congrArg State.settings hout :)
  have hstall : fanStallJudge (judgeGroup v) = judgeGroup v :=
    fanStallJudge_congr hfan (by rw [hlamp]) (by rw [hlamp]) (congrArg (fun x : State => x.pins.tacho) hout :)
  unfold lastJudged
  rw [hretarget, hstall, beaconJudge_eq]
  exact hlamp

/-- The start conditions read of the group its mode and selection (R3). -/
theorem startConditions_setGroup {g g' : Group} (hm : g.mode = g'.mode) (hs : g.selection = g'.selection) :
    startConditions (s.setGroup g) = startConditions (s.setGroup g') := by
  have hw : wanted (s.setGroup g) = wanted (s.setGroup g') := by
    unfold wanted
    simp only [State.setGroup_group, hm, hs]
  unfold startConditions
  rw [hw]
  rfl

/-- The own station become GROWN, with what the decision makes of its lamp (R118, R4, R15). -/
theorem onDecision_grown (hm : s.group.mode.isSome = true) (n : Nat) :
    let v := onDecision (wanted s) (selectGrown (grownBy n s))
    Risen s v ∧ v.group = (selectGrown (grownBy n s)).group := by
  have hw : wanted (selectGrown (grownBy n s)) = true := by simp [wanted, selectGrown, grownBy, hm]
  have hset : Risen s (selectGrown (grownBy n s)) := ⟨.inl rfl, rfl, rfl, rfl, rfl, rfl⟩
  refine ⟨?_, onDecision_group _ _⟩
  rcases onDecision_wanted hw (wanted s) with e | e <;> rw [e]
  · exact hset
  · exact hset.trans (.nowWanted _)

/-- A GROWN station does not withdraw (R119): only the group's judgement and what follows it are left to settle. -/
theorem settle_grown (h : Settled s) (hm : s.group.mode.isSome = true) (n : Nat) :
    let v := onDecision (wanted s) (selectGrown (grownBy n s))
    settle s v = lastJudged s (firstJudgements v) ∧ (firstJudgements v).group = (selectGrown (grownBy n s)).group ∧
    (settle s v).locks = s.locks := by
  intro v
  obtain ⟨q, hgroup⟩ : Risen s v ∧ v.group = (selectGrown (grownBy n s)).group := onDecision_grown hm n
  have hlife : LifeJudged v := h.lifeJudged.risen q v.line
  obtain ⟨-, hfirst⟩ := firstJudgements_keep hlife
  refine ⟨settle_unelected hlife (by rw [hgroup]; nofun), hfirst.trans hgroup, (settle_locks hlife s).trans q.locks⟩

/-- In DARK, its start conditions met and no claim in the list, the lamp of a station become GROWN waits (R4, R118). -/
theorem settle_grown_waits (h : Settled s) (hm : s.group.mode.isSome = true) (hsel : s.group.selection = .unselected)
    (hclaim : ownClaimed s = false) (hd : s.lamp.state = .dark)
    (hc : startConditions (selectGrown (grownBy n s)) = true) :
    (settle s (onDecision (wanted s) (selectGrown (grownBy n s)))).lamp.state = .waiting := by
  set w := selectGrown (grownBy n s)
  have hbefore : wanted s = false := by simp [wanted, hsel]
  have hw : wanted w = true := by simp [w, wanted, selectGrown, grownBy, hm]
  obtain ⟨-, -, -, hservice, -⟩ := startConditions_free hc
  have hop : onDecision (wanted s) w = enterWaiting w := by
    unfold onDecision
    rw [hservice, hbefore, hw]
    exact nowWanted_dark (s := w) hd hc
  have hrest : startTest (enterWaiting w) = enterWaiting w := startTest_fixed.mpr nofun
  have hlife : LifeJudged (enterWaiting w) :=
    h.lifeJudged.congr rfl rfl rfl (congrArg litSide hd).symm
  have hfirst := firstJudgements_waiting hlife (by rw [hrest]; rfl) hclaim
  obtain ⟨hsettle, -⟩ := settle_grown h hm n
  rw [hsettle, lastJudged_lamp, hop, hfirst, hrest]
  rfl

/-- Settles O52: by whether the own station is among the first, and so becomes GROWN, or the count alone rises. -/
theorem growthSteps : Obligations.GrowthSteps := by
  intro s h
  refine ⟨fun ht => ⟨settle s (growthStep s), rfl, ?_⟩, fun hn => finish_unchanged h (if_neg (by rw [hn]; nofun))⟩
  have hm := h.shortTimer_mode ht
  have hop := growthStep_running ht
  set n := min 30 (s.group.growth + 1)
  cases hin : amongFirst n s && s.group.selection == .unselected with
  | true =>
    rw [hin] at hop
    have hgrown : growthStep s = onDecision (wanted s) (selectGrown (grownBy n s)) := hop.trans (if_pos rfl)
    obtain ⟨hamong, hsel⟩ : amongFirst n s = true ∧ s.group.selection = .unselected := by simpa using hin
    obtain ⟨q, hgroup⟩ := onDecision_grown hm n
    obtain ⟨hsettle, hfirst, hlocks⟩ := settle_grown h hm n
    rw [← hgrown] at hgroup hsettle hfirst hlocks q
    obtain ⟨hgrowth, htimer⟩ := lastJudged_growth (w := firstJudgements (growthStep s)) s (by rw [hfirst]; rfl)
    rw [← hsettle, hfirst] at hgrowth
    rw [← hsettle] at htimer
    have hselection : (settle s (growthStep s)).group.selection = .grown := by
      rw [hsettle, lastJudged_group]
      exact (congrArg Group.selection hfirst :)
    have hmode : (settle s (growthStep s)).group.mode = s.group.mode := by
      rw [settle_mode, hgroup]
      rfl
    refine ⟨hgrowth, htimer, hmode, (outside_settle _ _).trans q.outside, hlocks,
      fun _ _ => ⟨hselection, fun hclaim hd hc => ?_⟩, fun hno => ?_⟩
    · rw [hgrown]
      refine settle_grown_waits h hm hsel hclaim hd ?_
      refine (startConditions_setGroup ?_ ?_).trans hc
      · exact hmode.symm
      · exact hselection.symm
    · rcases hno with e | e
      · rw [hamong] at e; cases e
      · exact absurd hsel e
  | false =>
    rw [hin] at hop
    have hgrown : growthStep s = grownBy n s := hop.trans (if_neg nofun)
    have hlife : LifeJudged (grownBy n s) := h.lifeJudged.congr rfl rfl rfl rfl
    have hlocks : (settle s (grownBy n s)).locks = s.locks := settle_locks hlife s
    obtain ⟨hgrowth, htimer⟩ := lastJudged_growth (w := grownBy n s) s rfl
    rw [hgrown]
    rw [settle_grownBy h n] at hlocks ⊢
    refine ⟨hgrowth, htimer, by rw [lastJudged_group]; rfl, outside_lastJudged _ _, hlocks, fun hamong hsel => ?_,
      fun _ => ⟨by rw [lastJudged_group]; rfl, lastJudged_grownBy_lamp h n⟩⟩
    rw [hamong, hsel] at hin
    cases hin

end Sys2Proof.Machine
end

section
/-! ## The forms of the Geometry Engine (03, R45 to R59) -/

namespace Sys2Proof.Machine

variable {fmt : Fin 4} {g : Geometry} {c : CornerSet} {n : Nat}

/-! ### What holds of the engine in every state, and what of the set in flight -/

/-- What holds of the engine whatever its state (R45, R48, R54, R58). -/
structure EngineForm (fmt : Fin 4) (g : Geometry) : Prop where
  active : inRange fmt g.active = g.active
  inFlight : ∀ c ∈ g.inFlight, inRange fmt c = c
  pending : ∀ c ∈ g.pendingSet, inRange fmt c = c
  f : g.f = lightFraction fmt g.active
  activeId : g.activeId ≤ 255
  lastId : g.lastId ≤ 255
  inFlightId : ∀ n ∈ g.inFlightId, 1 ≤ n ∧ n ≤ 255 ∧ n ≠ g.activeId
  lowest : (-(panelWidth fmt / 4 : Nat) : Int) ≤ g.v
  highest : g.v ≤ (panelWidth fmt / 4 : Nat)
  steps : g.v % 8 = 0
  attempt : g.attempt = 1 ∨ g.attempt = 2

/-- The set in flight with its F and table once they are computed (R54). -/
structure FlightComputed (fmt : Fin 4) (g : Geometry) : Prop where
  set : g.inFlight.isSome = true
  identity : g.inFlightId.isSome = true
  f : g.inFlightF = g.inFlight.map (lightFraction fmt)
  table : g.inFlightTable = g.inFlight.map (warpTable fmt)

/-- What is in flight, by the engine's state (R54, R55). -/
def FlightForm (fmt : Fin 4) (g : Geometry) : Prop :=
  match g.state with
  | .idle => g.inFlight = none ∧ g.inFlightId = none ∧ g.inFlightF = none ∧ g.inFlightTable = none
  | .computing =>
    g.inFlight.isSome = true ∧ g.inFlightId.isSome = true ∧ g.inFlightF = none ∧ g.inFlightTable = none
  | .loading =>
    g.inFlight.isSome = true ∧ g.inFlightId.isSome = true ∧ g.inFlightF = g.inFlight.map (lightFraction fmt) ∧
      g.inFlightTable = g.inFlight.map (warpTable fmt) ∧ g.linesSent ≤ panelHeight fmt ∧
      (g.loadWait.isSome = true → g.linesSent = panelHeight fmt)
  | .swapWait =>
    g.inFlight.isSome = true ∧ g.inFlightId.isSome = true ∧ g.inFlightF = g.inFlight.map (lightFraction fmt) ∧
      g.inFlightTable = g.inFlight.map (warpTable fmt)

theorem geometrySafe_iff : GeometrySafe fmt g ↔ EngineForm fmt g ∧ FlightForm fmt g := by
  constructor
  · rintro ⟨h1, h2, h3, h4, h5, h6, h7, h8, h9, h10, h11, hflight⟩
    exact ⟨⟨h1, h2, h3, h4, h5, h6, h7, h8, h9, h10, h11⟩, hflight⟩
  · rintro ⟨⟨h1, h2, h3, h4, h5, h6, h7, h8, h9, h10, h11⟩, hflight⟩
    exact ⟨h1, h2, h3, h4, h5, h6, h7, h8, h9, h10, h11, hflight⟩

theorem GeometrySafe.form (h : GeometrySafe fmt g) : EngineForm fmt g := (geometrySafe_iff.mp h).1

theorem GeometrySafe.flight (h : GeometrySafe fmt g) : FlightForm fmt g := (geometrySafe_iff.mp h).2

/-- A table being sent is the whole one of the set in flight, and no more of it has gone than it has (R55). -/
theorem GeometrySafe.loading (h : GeometrySafe fmt g) (hs : g.state = .loading) :
    FlightComputed fmt g ∧ g.linesSent ≤ panelHeight fmt ∧
      (g.loadWait.isSome = true → g.linesSent = panelHeight fmt) := by
  have hflight := h.flight
  unfold FlightForm at hflight
  rw [hs] at hflight
  obtain ⟨hset, hid, hf, ht, hlines⟩ := hflight
  exact ⟨⟨hset, hid, hf, ht⟩, hlines⟩

theorem GeometrySafe.swapWait (h : GeometrySafe fmt g) (hs : g.state = .swapWait) : FlightComputed fmt g := by
  have hflight := h.flight
  unfold FlightForm at hflight
  rw [hs] at hflight
  obtain ⟨hset, hid, hf, ht⟩ := hflight
  exact ⟨hset, hid, hf, ht⟩

theorem GeometrySafe.computing (h : GeometrySafe fmt g) (hs : g.state = .computing) :
    g.inFlight.isSome = true ∧ g.inFlightId.isSome = true := by
  have hflight := h.flight
  unfold FlightForm at hflight
  rw [hs] at hflight
  obtain ⟨hset, hid, -⟩ := hflight
  exact ⟨hset, hid⟩

theorem FlightComputed.tableLength (h : FlightComputed fmt g) : tableLength g = panelHeight fmt := by
  obtain ⟨x, hx⟩ := Option.isSome_iff_exists.mp h.set
  unfold Machine.tableLength
  rw [h.table, hx]
  simp [warpTable]

/-! ### Computing starts (R54) -/

theorem nextIdentity_form (last active : Nat) :
    1 ≤ nextIdentity last active ∧ nextIdentity last active ≤ 255 ∧ nextIdentity last active ≠ active := by
  unfold nextIdentity
  simp only
  split <;> omega

theorem EngineForm.startComputing (h : EngineForm fmt g) (hc : inRange fmt c = c) :
    GeometrySafe fmt (startComputing c g) := by
  obtain ⟨hlow, hhigh, hne⟩ := nextIdentity_form g.lastId g.activeId
  refine geometrySafe_iff.mpr ⟨?_, rfl, rfl, rfl, rfl⟩
  exact { h with
    inFlight := fun _ e => by cases e; exact hc
    lastId := hhigh
    inFlightId := fun _ e => by cases e; exact ⟨hlow, hhigh, hne⟩ }

/-! ### Edits (R46 to R49) -/

theorem EngineForm.newestSet (h : EngineForm fmt g) : inRange fmt (newestSet g) = newestSet g := by
  have hflight : inRange fmt (g.inFlight.getD g.active) = g.inFlight.getD g.active := by
    cases hg : g.inFlight with
    | none => exact h.active
    | some c => exact h.inFlight c hg
  unfold Machine.newestSet
  split
  · next c hp => exact h.pending c hp
  · cases g.state with
    | idle => exact h.active
    | computing | loading | swapWait => exact hflight

theorem GeometrySafe.setPending (h : GeometrySafe fmt g) (hc : inRange fmt c = c) :
    GeometrySafe fmt { g with pendingSet := some c } :=
  geometrySafe_iff.mpr ⟨{ h.form with pending := fun _ e => by cases e; exact hc }, h.flight⟩

theorem GeometrySafe.offerEdit (h : GeometrySafe fmt g) (hc : inRange fmt c = c) :
    GeometrySafe fmt (offerEdit c g) := by
  unfold Machine.offerEdit
  split
  · exact h
  · split
    · exact EngineForm.startComputing (g := { g with pendingSet := none }) { h.form with pending := nofun } hc
    all_goals exact h.setPending hc

theorem GeometrySafe.setKeystone (h : GeometrySafe fmt g) {v : Int} (hlow : (-(panelWidth fmt / 4 : Nat) : Int) ≤ v)
    (hhigh : v ≤ (panelWidth fmt / 4 : Nat)) (hsteps : v % 8 = 0) : GeometrySafe fmt { g with v := v } :=
  geometrySafe_iff.mpr ⟨{ h.form with lowest := hlow, highest := hhigh, steps := hsteps }, h.flight⟩

theorem inRange_idem (fmt : Fin 4) (c : CornerSet) : inRange fmt (inRange fmt c) = inRange fmt c := by
  simp [inRange]

theorem keystoneSet_inRange (hc : inRange fmt c = c) {v : Int} (hlow : (-(panelWidth fmt / 4 : Nat) : Int) ≤ v)
    (hhigh : v ≤ (panelWidth fmt / 4 : Nat)) : inRange fmt (keystoneSet c v) = keystoneSet c v := by
  obtain ⟨htop, hbot, -⟩ := pullsInRange_iff.mpr hc
  rw [← pullsInRange_iff]
  unfold keystoneSet
  split
  · exact ⟨htop, hbot, Nat.zero_le _, by simp only; omega, Nat.zero_le _, by simp only; omega⟩
  · exact ⟨htop, hbot, by simp only; omega, Nat.zero_le _, by simp only; omega, Nat.zero_le _⟩

/-! ### The records of a table go (R55) -/

/-- The records that have gone by now leave the engine in its form (R55, log 26). -/
theorem GeometrySafe.recordsGone (h : GeometrySafe fmt g) (hn : RecordsGone g n) (draws : Nat) :
    GeometrySafe fmt { g with linesSent := n, linkDraws := draws } := by
  refine geometrySafe_iff.mpr ⟨{ h.form with }, ?_⟩
  have hflight := h.flight
  unfold FlightForm at hflight ⊢
  cases hs : g.state with
  | idle | computing | swapWait => rw [hs] at hflight; exact hflight
  | loading =>
    obtain ⟨hcomputed, hlines, hall⟩ := h.loading hs
    have hlength := hcomputed.tableLength
    obtain ⟨hset, hid, hf, ht⟩ := hcomputed
    refine ⟨hset, hid, hf, ht, ?_⟩
    unfold RecordsGone at hn
    change n ≤ panelHeight fmt ∧ (g.loadWait.isSome = true → n = panelHeight fmt)
    cases hw : g.loadWait with
    | none =>
      rw [if_pos (by simp [sendingTable, hs, hw])] at hn
      obtain ⟨-, hmax, -⟩ := hn
      exact ⟨by omega, nofun⟩
    | some w =>
      rw [if_neg (by simp [sendingTable, hs, hw])] at hn
      rw [hn]
      exact ⟨hlines, fun _ => hall (by rw [hw]; rfl)⟩

/-! ### A load fails, a table is swapped in, the engine is reset (R56, R58, R62) -/

theorem EngineForm.loadFails (h : EngineForm fmt g) : GeometrySafe fmt (loadFails g) := by
  refine geometrySafe_iff.mpr ⟨?_, rfl, rfl, rfl, rfl⟩
  refine { h with inFlight := nofun, pending := fun c hc => ?_, inFlightId := nofun }
  change c ∈ (if g.pendingSet.isSome then g.pendingSet else g.inFlight) at hc
  split at hc
  · exact h.pending c hc
  · exact h.inFlight c hc

theorem GeometrySafe.swapped (h : GeometrySafe fmt g) (hs : g.state = .swapWait) : GeometrySafe fmt (swapped g) := by
  obtain ⟨hset, hid, hf, -⟩ := h.swapWait hs
  obtain ⟨c, hc⟩ := Option.isSome_iff_exists.mp hset
  obtain ⟨i, hi⟩ := Option.isSome_iff_exists.mp hid
  obtain ⟨-, hhigh, -⟩ := h.form.inFlightId i hi
  refine geometrySafe_iff.mpr ⟨?_, rfl, rfl, rfl, rfl⟩
  refine { h.form with inFlight := nofun, inFlightId := nofun, active := ?_, f := ?_, activeId := ?_ }
  · change inRange fmt (g.inFlight.getD g.active) = g.inFlight.getD g.active
    rw [hc]; exact h.form.inFlight c hc
  · change g.inFlightF.getD g.f = lightFraction fmt (g.inFlight.getD g.active)
    rw [hf, hc]; rfl
  · change g.inFlightId.getD g.activeId ≤ 255
    rw [hi]; exact hhigh

theorem GeometrySafe.resetEngine (h : GeometrySafe fmt g) : GeometrySafe fmt (resetEngine g) := by
  have hpending : ∀ c ∈ (if g.pendingSet.isSome then g.pendingSet else g.inFlight), inRange fmt c = c := by
    intro c hc
    split at hc
    · exact h.form.pending c hc
    · exact h.form.inFlight c hc
  have hedited : EngineForm fmt { g with pendingSet := if g.pendingSet.isSome then g.pendingSet else g.inFlight } :=
    { h.form with pending := hpending }
  unfold Machine.resetEngine
  split
  · exact h.form.startComputing h.form.active
  · exact hedited.startComputing h.form.active
  · exact hedited.startComputing h.form.active
  · exact geometrySafe_iff.mpr ⟨{ h.form with }, h.flight⟩

end Sys2Proof.Machine
end

section
/-! ## The forms of the source list and the selector (07, R121 to R134, R138) -/

namespace Sys2Proof.Machine

variable {s u : State} {i : Input} {o : Origin}

/-! ### A source list, and the part of a state that the two forms read -/

/-- At most four sources, and no input twice (R121). -/
def ListForm (xs : List SourceEntry) : Prop := xs.length ≤ 4 ∧ (xs.map fun e => e.input).Nodup

theorem ListForm.pushed {xs : List SourceEntry} (h : ListForm xs) (i : Input) (o : Origin) : ListForm (pushed i o xs) := by
  obtain ⟨-, hnodup⟩ := h
  refine ⟨List.length_take_le _ _, ?_⟩
  unfold Machine.pushed
  rw [List.map_take]
  refine List.Nodup.sublist (List.take_sublist _ _) ?_
  rw [List.map_cons, List.nodup_cons]
  refine ⟨fun hmem => ?_, List.Nodup.sublist (List.filter_sublist.map _) hnodup⟩
  obtain ⟨e, he, hei⟩ := List.mem_map.mp hmem
  have hne := (List.mem_filter.mp he).2
  simp [hei] at hne

/-- The selector and the engine in their forms, and the initial list that the selector starts with (R121, R138, 7.4, R45). -/
def InForm (s : State) : Prop :=
  SourcesSafe s.source ∧ GeometrySafe s.straps.format s.geometry ∧ ListForm s.settings.initialList

theorem InForm.source (k : InForm s) : SourcesSafe s.source := k.1

theorem InForm.engine (k : InForm s) : GeometrySafe s.straps.format s.geometry := k.2.1

theorem InForm.initial (k : InForm s) : ListForm s.settings.initialList := k.2.2

theorem Safe.inForm (h : Safe s) : InForm s := by
  obtain ⟨-, hsettings, -, -, -, -, -, hsource, -, -, -, -, -, hengine, -⟩ := h
  refine ⟨hsource, hengine, ?_⟩
  unfold SettingsSafe at hsettings
  tauto

/-- What the two forms read of a state. -/
def formView (s : State) : Source × Geometry × Fin 4 × List SourceEntry :=
  ({ s.source with idle := none }, s.geometry, s.straps.format, s.settings.initialList)

theorem InForm.of_view (k : InForm s) (h : formView u = formView s) : InForm u := by
  obtain ⟨hsource, hengine, hinitial⟩ := k
  simp only [formView, Prod.mk.injEq] at h
  obtain ⟨hs, hg, hf, hi⟩ := h
  have hform : SourcesSafe { u.source with idle := none } := by rw [hs]; exact hsource
  exact ⟨hform, by rw [hg, hf]; exact hengine, by rw [hi]; exact hinitial⟩

theorem formView_of_outside (h : outside u = outside s) : formView u = formView s := (congrArg formView h :)

theorem InForm.of_outside (k : InForm s) (h : outside u = outside s) : InForm u := k.of_view (formView_of_outside h)

/-! ### What is shown is in the list (R121, R129, R130) -/

/-- An input of the list is shown, or none where the list is empty. -/
def ShownForm (xs : List SourceEntry) (shown : Option Input) : Prop :=
  match shown with
  | none => xs = []
  | some i => ∃ e ∈ xs, e.input = i

/-- The wanted input is one of the list, none for an empty list alone (R129). -/
theorem wantedInput_form (s : State) : ShownForm s.source.list (wantedInput s) := by
  rw [wantedInput_entry]
  cases hw : wantedEntry (shownProtected s) s with
  | some e => exact ⟨e, List.mem_of_find?_eq_some (wantedEntry_first hw), rfl⟩
  | none =>
    change s.source.list = []
    unfold wantedEntry at hw
    split at hw
    · assumption
    · split at hw <;> cases hw

theorem SourcesSafe.list {x : Source} (h : SourcesSafe x) : ListForm x.list := ⟨h.1, h.2.1⟩

theorem SourcesSafe.shown {x : Source} (h : SourcesSafe x) : ShownForm x.list x.shown := by
  obtain ⟨-, -, hshown, -⟩ := h
  unfold ShownForm
  split <;> rename_i e <;> rw [e] at hshown <;> exact hshown

/-- The timers and the shown input, by the selector's state (7.4). -/
def TimersForm (x : Source) : Prop :=
  match x.state with
  | .showing => x.hold = none ∧ x.switch = none ∧ x.shown.isSome = true
  | .holding => x.hold.isSome = true ∧ x.switch = none
  | .noSignal => x.hold = none ∧ x.switch = none
  | .switching => x.hold = none ∧ x.switch.isSome = true ∧ x.shown.isSome = true

theorem SourcesSafe.timers {x : Source} (h : SourcesSafe x) : TimersForm x := h.2.2.2

theorem sourcesSafe_of {x : Source} (hlist : ListForm x.list) (hshown : ShownForm x.list x.shown)
    (htimers : TimersForm x) : SourcesSafe x := by
  refine ⟨hlist.1, hlist.2, ?_, htimers⟩
  unfold ShownForm at hshown
  split <;> rename_i e <;> rw [e] at hshown <;> exact hshown

/-! ### The scaler link (R55, R131) -/

theorem InForm.linkProgress (k : InForm s) : InForm (linkProgress s) := by
  obtain ⟨n, hn, hprogress⟩ := linkProgress_eq s
  rw [hprogress]
  exact ⟨k.source, k.engine.recordsGone hn _, k.initial⟩

theorem InForm.sendSelect (k : InForm s) (i : Option Input) (o : Option Origin) : InForm (sendSelect i o s) :=
  k.linkProgress

/-! ### Switches, judgements and pushes (R124, R130 to R134) -/

/-- What a judgement finds: a list in form, and nothing shown without one. What is shown need not be of the list, as a push
may have removed it. -/
structure Judgeable (s : State) : Prop where
  list : ListForm s.source.list
  shown : s.source.list = [] → s.source.shown = none
  engine : GeometrySafe s.straps.format s.geometry
  initial : ListForm s.settings.initialList

theorem InForm.judgeable (k : InForm s) : Judgeable s := by
  refine ⟨k.source.list, fun h => ?_, k.engine, k.initial⟩
  have hshown := k.source.shown
  rw [h] at hshown
  cases hs : s.source.shown with
  | none => rfl
  | some i => rw [hs] at hshown; obtain ⟨e, he, -⟩ := hshown; cases he

/-- A switch to an input of the list (R131). -/
theorem Judgeable.beginSwitch (j : Judgeable s) (hi : ∃ e ∈ s.source.list, e.input = i) :
    InForm (beginSwitch (some i) s) :=
  InForm.sendSelect (s := s.setSource
      { s.source with hold := none, shown := some i, switch := some 1500, state := .switching })
    ⟨sourcesSafe_of j.list hi ⟨rfl, rfl, rfl⟩, j.engine, j.initial⟩ _ _

theorem Judgeable.switchToWanted (j : Judgeable s) (hne : wantedInput s ≠ s.source.shown) :
    InForm (Machine.beginSwitch (wantedInput s) s) := by
  have hform := wantedInput_form s
  cases hw : wantedInput s with
  | some i => rw [hw] at hform; exact j.beginSwitch hform
  | none => rw [hw] at hform hne; exact absurd (j.shown hform).symm hne

/-- The judgement of R130 ends in one of the states of table 7.4. -/
theorem Judgeable.judge (j : Judgeable s) : InForm (judgeWith (wantedInput s) s) := by
  have stays {x : Source} (hshown : wantedInput s = s.source.shown) (hl : x.list = s.source.list)
      (hs : x.shown = s.source.shown) (ht : TimersForm x) : InForm (s.setSource x) := by
    refine ⟨sourcesSafe_of (x := x) (by rw [hl]; exact j.list) ?_ ht, j.engine, j.initial⟩
    rw [hl, hs, ← hshown]
    exact wantedInput_form s
  unfold judgeWith
  split
  · next hne => exact j.switchToWanted hne
  · next heq =>
    have heq : wantedInput s = s.source.shown := not_not.mp heq
    split
    · next hpresent =>
      refine stays heq rfl rfl ⟨rfl, rfl, ?_⟩
      unfold shownPresent at hpresent
      cases hs : s.source.shown with
      | none => rw [hs] at hpresent; cases hpresent
      | some i => rfl
    · split
      · next hhold => exact stays heq rfl rfl ⟨hhold, rfl⟩
      · next hhold =>
        split
        · exact stays heq rfl rfl ⟨by simpa using hhold, rfl⟩
        · exact stays heq rfl rfl ⟨rfl, rfl⟩

theorem InForm.endSwitch (k : InForm s) : InForm (endSwitch s) := k.judgeable.judge

theorem InForm.judgeSource (k : InForm s) : InForm (judgeSource s) := by
  unfold Machine.judgeSource
  split
  · exact k
  all_goals exact k.judgeable.judge

theorem SourcesSafe.switching {x : Source} (h : SourcesSafe x) (hs : x.state = .switching) :
    x.hold = none ∧ x.switch.isSome = true ∧ x.shown.isSome = true := by
  have htimers := h.timers
  unfold TimersForm at htimers
  rwa [hs] at htimers

/-- A push judges anew, or while SWITCHING keeps a target that is in the list still (R124, R133). -/
theorem InForm.push (k : InForm s) (i : Input) (o : Origin) : InForm (push i o s) := by
  obtain ⟨v, hv, hjudge, hswitch⟩ := push_eq i o s
  have hlist : v.source.list = ⟨i, o⟩ :: (pushed i o s.source.list).tail := by rw [hv]; rfl
  have j : Judgeable v := by
    rw [hv]
    exact ⟨k.source.list.pushed i o, nofun, k.engine, k.initial⟩
  by_cases hst : v.source.state = .switching
  · obtain ⟨-, htimer, hsome⟩ := k.source.switching (by rw [hv] at hst; exact hst)
    obtain ⟨x, hx⟩ := Option.isSome_iff_exists.mp hsome
    have hxv : v.source.shown = some x := by rw [hv]; exact hx
    rw [(hswitch hst).2 x hxv]
    split
    · next hin =>
      obtain ⟨e, he, hei⟩ := List.any_eq_true.mp hin
      refine ⟨sourcesSafe_of j.list ?_ ?_, j.engine, j.initial⟩
      · rw [hxv]; exact ⟨e, he, by simpa using hei⟩
      · unfold TimersForm
        rw [hst, hv]
        exact ⟨rfl, htimer, hsome⟩
    · next hout =>
      refine j.switchToWanted fun heq => hout ?_
      have hform := wantedInput_form v
      rw [heq, hxv] at hform
      obtain ⟨e, he, hei⟩ := hform
      exact List.any_eq_true.mpr ⟨e, he, by simpa using hei⟩
  · rw [hjudge hst]; exact j.judge

theorem judgeSource_eq (h : s.source.state ≠ .switching) : judgeSource s = judgeWith (wantedInput s) s := by
  unfold judgeSource
  split
  · next hs => exact absurd hs h
  all_goals rfl

/-- A hold that runs does so outside SWITCHING, so its end is judged (R134). -/
theorem InForm.holdExpired (k : InForm s) : InForm (holdExpired s) := by
  unfold Machine.holdExpired
  split
  · next hhold =>
    rw [judgeSource_eq]
    · exact Judgeable.judge ⟨k.source.list, k.judgeable.shown, k.engine, k.initial⟩
    · intro hs
      obtain ⟨hnone, -⟩ := k.source.switching hs
      rw [hnone] at hhold; cases hhold
  · exact k

theorem InForm.takeLockReport (k : InForm s) (i : Input) : InForm (takeLockReport i s) := by
  unfold Machine.takeLockReport
  split
  · exact k.endSwitch
  · exact k

theorem InForm.switchExpired (k : InForm s) : InForm (switchExpired s) := by
  unfold Machine.switchExpired
  split
  · exact k.endSwitch
  · exact k

/-- The selector starts with a list in form (R138). -/
theorem startSelector_inForm (hlist : ListForm s.source.list) (hhold : s.source.hold = none)
    (hengine : GeometrySafe s.straps.format s.geometry) (hinitial : ListForm s.settings.initialList) :
    InForm (startSelector s) := by
  unfold startSelector
  split
  · next hl =>
    refine InForm.sendSelect (s := s.setSource { s.source with shown := none, switch := none, state := .noSignal }) ?_ _ _
    exact ⟨sourcesSafe_of hlist hl ⟨hhold, rfl⟩, hengine, hinitial⟩
  · next e rest hl =>
    have he : e ∈ s.source.list := by rw [hl]; exact List.mem_cons_self
    exact Judgeable.beginSwitch ⟨hlist, fun h => (by rw [hl] at h; cases h), hengine, hinitial⟩ ⟨e, he, rfl⟩

theorem InForm.resetSelector (k : InForm s) : InForm (resetSelector s) :=
  startSelector_inForm (s := s.setSource { Source.powerOn with list := s.settings.initialList }) k.initial rfl k.engine
    k.initial

end Sys2Proof.Machine
end

section
/-! ## What touches neither the selector nor the engine (01 to 06, 08, 10) -/

namespace Sys2Proof.Machine

variable {s u : State}

/-! ### Operations that touch neither the selector nor the engine -/

@[simp] theorem formView_setStart (s : State) (x : StartUp) : formView (s.setStart x) = formView s := rfl
@[simp] theorem formView_setPins (s : State) (x : Pins) : formView (s.setPins x) = formView s := rfl
@[simp] theorem formView_setLamp (s : State) (x : Lamp) : formView (s.setLamp x) = formView s := rfl
@[simp] theorem formView_setWear (s : State) (x : Wear) : formView (s.setWear x) = formView s := rfl
@[simp] theorem formView_setPeers (s : State) (x : List Peer) : formView (s.setPeers x) = formView s := rfl
@[simp] theorem formView_setListen (s : State) (x : Listen) : formView (s.setListen x) = formView s := rfl
@[simp] theorem formView_setClaims (s : State) (x : List ClaimEntry) : formView (s.setClaims x) = formView s := rfl
@[simp] theorem formView_setGroup (s : State) (x : Group) : formView (s.setGroup x) = formView s := rfl
@[simp] theorem formView_setLocks (s : State) (x : List Lock) : formView (s.setLocks x) = formView s := rfl
@[simp] theorem formView_setPanel (s : State) (x : Panel) : formView (s.setPanel x) = formView s := rfl
@[simp] theorem formView_setClock (s : State) (x : Clock) : formView (s.setClock x) = formView s := rfl
@[simp] theorem formView_setSchedule (s : State) (x : Schedule) : formView (s.setSchedule x) = formView s := rfl
@[simp] theorem formView_setLine (s : State) (x : HallLine) : formView (s.setLine x) = formView s := rfl
@[simp] theorem formView_setSerial (s : State) (x : List Host.Cell) : formView (s.setSerial x) = formView s := rfl

/-! ### The lamp, the group and the locks: nothing outside them changes -/

@[simp] theorem formView_send (p : Payload) (s : State) : formView (send p s) = formView s := rfl
@[simp] theorem formView_setRelight (b : Bool) (s : State) : formView (setRelight b s) = formView s := rfl
@[simp] theorem formView_clearSelection (s : State) : formView (clearSelection s) = formView s := rfl
@[simp] theorem formView_releaseClaim (s : State) : formView (releaseClaim s) = formView s := rfl
@[simp] theorem formView_enterWaiting (s : State) : formView (enterWaiting s) = formView s := rfl
@[simp] theorem formView_startWrite (s : State) : formView (startWrite s) = formView s :=
  formView_of_outside (outside_startWrite s)
@[simp] theorem formView_requestWrite (s : State) : formView (requestWrite s) = formView s :=
  formView_of_outside (outside_requestWrite s)
@[simp] theorem formView_extinguish (n : LampState) (s : State) : formView (extinguish n s) = formView s :=
  formView_of_outside (outside_extinguish n s)
@[simp] theorem formView_unwanted (s : State) : formView (unwanted s) = formView s :=
  formView_of_outside (outside_unwanted s)
@[simp] theorem formView_startTest (s : State) : formView (startTest s) = formView s :=
  formView_of_outside (outside_startTest s)
@[simp] theorem formView_nowWanted (s : State) : formView (nowWanted s) = formView s :=
  formView_of_outside (outside_nowWanted s)
@[simp] theorem formView_onDecision (b : Bool) (s : State) : formView (onDecision b s) = formView s :=
  formView_of_outside (outside_onDecision b s)
@[simp] theorem formView_electIfAvailable (b s : State) : formView (electIfAvailable b s) = formView s :=
  formView_of_outside (outside_electIfAvailable b s)
@[simp] theorem formView_groupOn (c : OnCause) (s : State) : formView (groupOn c s) = formView s :=
  formView_of_outside (outside_groupOn c s)
@[simp] theorem formView_groupOff (s : State) : formView (groupOff s) = formView s :=
  formView_of_outside (outside_groupOff s)
@[simp] theorem formView_addLock (l : Lock) (s : State) : formView (addLock l s) = formView s :=
  formView_of_outside (outside_addLock l s)
@[simp] theorem formView_removeLock (h : Holder) (s : State) : formView (removeLock h s) = formView s :=
  formView_of_outside (outside_removeLock h s)
@[simp] theorem formView_latchFault (f : LampFault) (s : State) : formView (latchFault f s) = formView s :=
  formView_of_outside (outside_latchFault f s)
@[simp] theorem formView_failAttempt (s : State) : formView (failAttempt s) = formView s :=
  formView_of_outside (outside_failAttempt s)
@[simp] theorem formView_tryClear (s : State) : formView (tryClear s).1 = formView s :=
  formView_of_outside (outside_tryClear s)

theorem InForm.settle (k : InForm s) (b : State) : InForm (settle b s) := k.of_outside (outside_settle b s)

/-! ### Lamp Control (01), Lamp Wear (02) -/

@[simp] theorem formView_litSenseArrives (s : State) : formView (litSenseArrives s) = formView s := by
  unfold litSenseArrives enterWarming; simp only; split <;> simp
@[simp] theorem formView_litSenseLost (s : State) : formView (litSenseLost s) = formView s := by
  unfold litSenseLost dropsOut; simp only; (repeat' split) <;> simp
@[simp] theorem formView_litWaitExpired (s : State) : formView (litWaitExpired s) = formView s := by
  unfold litWaitExpired; split <;> simp
@[simp] theorem formView_warmUpExpired (s : State) : formView (warmUpExpired s) = formView s := by
  unfold warmUpExpired; split <;> simp
@[simp] theorem formView_rampOnce (s : State) : formView (rampOnce s) = formView s := by
  unfold rampOnce; split <;> simp
@[simp] theorem formView_coolDownExpired (s : State) : formView (coolDownExpired s) = formView s :=
  formView_of_outside (outside_coolDownExpired s)
@[simp] theorem formView_restrikeExpired (s : State) : formView (restrikeExpired s) = formView s :=
  formView_of_outside (outside_restrikeExpired s)
@[simp] theorem formView_fanStalls (s : State) : formView (fanStalls s) = formView s := by
  unfold fanStalls; simp only; (repeat' split) <;> simp
@[simp] theorem formView_tachoStalls (s : State) : formView (tachoStalls s) = formView s := by
  unfold tachoStalls; simp only; split <;> simp
@[simp] theorem formView_supplyFails (s : State) : formView (supplyFails s) = formView s := by
  unfold supplyFails; simp only; split <;> simp
@[simp] theorem formView_takeSample (x : Sensor) (s : State) : formView (takeSample x s) = formView s := by
  unfold takeSample; simp only; (repeat' split) <;> simp
@[simp] theorem formView_reportLitSecond (s : State) : formView (reportLitSecond s) = formView s := by
  unfold reportLitSecond; simp only; (repeat' split) <;> simp
@[simp] theorem formView_writeEnds (o : WriteOutcome) (s : State) : formView (writeEnds o s) = formView s := by
  unfold writeEnds; simp only; split <;> simp
@[simp] theorem formView_writeFails (w : RecordWrite) (s : State) : formView (writeFails w s) = formView s := by
  unfold writeFails; split <;> simp
@[simp] theorem formView_zoneHolds (bytes : List Byte) (s : State) : formView (zoneHolds bytes s) = formView s := by
  unfold zoneHolds; split <;> simp
@[simp] theorem formView_readBackTaken (bytes : List Byte) (s : State) :
    formView (readBackTaken bytes s) = formView s := by
  unfold readBackTaken; simp only; (repeat' split) <;> simp
@[simp] theorem formView_writeTimesOut (bytes : List Byte) (s : State) :
    formView (writeTimesOut bytes s) = formView s := by
  unfold writeTimesOut; split <;> simp

/-! ### Peer View (04), Power Circuits (05), Screen Groups (06) -/

@[simp] theorem formView_beginFresh (s : State) : formView (beginFresh s) = formView s := rfl
@[simp] theorem formView_beaconEnded (s : State) : formView (beaconEnded s) = formView s := by
  unfold beaconEnded; simp only; split <;> rfl
@[simp] theorem formView_periodicBeacon (s : State) : formView (periodicBeacon s) = formView s := by
  unfold periodicBeacon; split <;> rfl
@[simp] theorem formView_lose (n : Nat) (s : State) : formView (lose n s) = formView s := by
  unfold lose; simp only; split <;> simp
@[simp] theorem formView_loseAll (ns : List Nat) (s : State) : formView (loseAll ns s) = formView s := by
  induction ns generalizing s with
  | nil => rfl
  | cons n rest ih => rw [loseAll, ih, formView_lose]
@[simp] theorem formView_confirmExpired (n : Nat) (s : State) : formView (confirmExpired n s) = formView s := by
  unfold confirmExpired; (repeat' split) <;> simp
@[simp] theorem formView_presenceExpired (n : Nat) (s : State) : formView (presenceExpired n s) = formView s := by
  unfold presenceExpired; (repeat' split) <;> simp
@[simp] theorem formView_freshEnds (s : State) : formView (freshEnds s) = formView s := by
  unfold freshEnds; simp only; split <;> simp
@[simp] theorem formView_duplicateEnds (s : State) : formView (duplicateEnds s) = formView s := by
  unfold duplicateEnds; simp only; split <;> simp
@[simp] theorem formView_qualityMinute (s : State) : formView (qualityMinute s) = formView s := by
  unfold qualityMinute; simp only; (repeat' split) <;> simp
@[simp] theorem formView_takeBeacon (t : Telegram) (s : State) : formView (takeBeacon t s) = formView s := by
  unfold takeBeacon foreignBeacon; simp only; (repeat' split) <;> simp
@[simp] theorem formView_claimAged (n : Nat) (s : State) : formView (claimAged n s) = formView s := by
  unfold claimAged; split <;> simp
@[simp] theorem formView_renewClaim (s : State) : formView (renewClaim s) = formView s := by
  unfold renewClaim; simp only; (repeat' split) <;> simp
@[simp] theorem formView_ownClaimEcho (s : State) : formView (ownClaimEcho s) = formView s := by
  unfold ownClaimEcho; (repeat' split) <;> simp
@[simp] theorem formView_takeClaim (t : Telegram) (s : State) : formView (takeClaim t s) = formView s := by
  unfold takeClaim; split <;> simp
@[simp] theorem formView_takeRelease (t : Telegram) (s : State) : formView (takeRelease t s) = formView s := by
  unfold takeRelease; split <;> simp
@[simp] theorem formView_growthStep (s : State) : formView (growthStep s) = formView s := by
  unfold growthStep; simp only; (repeat' split) <;> simp

/-! ### Locks and keys (08) -/

@[simp] theorem formView_lockMinute (n : Nat) (s : State) : formView (lockMinute n s) = formView s := by
  unfold lockMinute; (repeat' split) <;> simp
@[simp] theorem formView_pressPower (s : State) : formView (pressPower s) = formView s := by
  unfold pressPower powerInService powerForGroup; (repeat' split) <;> simp
@[simp] theorem formView_pressClear (s : State) : formView (pressClear s) = formView s := by
  unfold pressClear; split <;> simp
@[simp] theorem formView_leavePosition (old : Option KeyPosition) (b s : State) :
    formView (leavePosition old b s) = formView s := by
  unfold leavePosition applyDecision; (repeat' split) <;> simp
@[simp] theorem formView_enterPosition (p : KeyPosition) (s : State) : formView (enterPosition p s) = formView s := by
  unfold enterPosition lampIntoService; simp only; (repeat' split) <;> simp
@[simp] theorem formView_setPosition (p : KeyPosition) (s : State) : formView (setPosition p s) = formView s := rfl

/-! ### The hall line (10) -/

@[simp] theorem formView_hear (x : LineSignal) (s : State) : formView (hear x s) = formView s := rfl
@[simp] theorem formView_reserveForHead (s : State) : formView (reserveForHead s) = formView s := by
  unfold reserveForHead; (repeat' split) <;> rfl
@[simp] theorem formView_beginSending (n : Nat) (s : State) : formView (beginSending n s) = formView s := by
  unfold beginSending; simp only; (repeat' split) <;> simp

end Sys2Proof.Machine
end

section
/-! ## The commands of the engine and of the selector keep the two forms (03, 07, R45 to R59, R121 to R137) -/

namespace Sys2Proof.Machine

variable {s u : State}

/-! ### Geometry Engine (03) -/

theorem InForm.setGeometry (k : InForm s) {g : Geometry} (h : GeometrySafe s.straps.format g) : InForm (s.setGeometry g) :=
  ⟨k.source, h, k.initial⟩

theorem InForm.sendSwapRequest (k : InForm s) : InForm (sendSwapRequest s) := by
  unfold Machine.sendSwapRequest
  split <;> exact k

theorem InForm.computationEnds (k : InForm s) : InForm (computationEnds s) := by
  unfold Machine.computationEnds
  split
  · next hs =>
    obtain ⟨hset, hid⟩ := k.engine.computing hs
    refine k.setGeometry (geometrySafe_iff.mpr ⟨{ k.engine.form with attempt := .inl rfl }, ?_⟩)
    exact ⟨hset, hid, rfl, rfl, Nat.zero_le _, nofun⟩
  · exact k

/-- With the last record every record of the table has gone (R55). -/
theorem InForm.lastRecordSent (k : InForm s) : InForm (lastRecordSent s) := by
  unfold Machine.lastRecordSent
  split
  · next hsending =>
    have hs : s.geometry.state = .loading := by
      unfold sendingTable at hsending
      rw [Bool.and_eq_true, beq_iff_eq] at hsending
      exact hsending.1
    obtain ⟨hcomputed, hlines, -⟩ := k.engine.loading hs
    have hlength := hcomputed.tableLength
    obtain ⟨hset, hid, hf, ht⟩ := hcomputed
    have hall : max s.geometry.linesSent (min (tableLength s.geometry) (tableLength s.geometry)) =
        panelHeight s.straps.format := by rw [hlength]; omega
    refine ⟨k.source, geometrySafe_iff.mpr ⟨{ k.engine.form with }, ?_⟩, k.initial⟩
    unfold FlightForm
    simp only [sendRecords, State.setGeometry_geometry, hs, hall]
    exact ⟨hset, hid, hf, ht, le_rfl, fun _ => rfl⟩
  · exact k

theorem namesLoad_loading {g : Geometry} {id n : Nat} (h : namesLoad id n g = true) : g.state = .loading := by
  unfold namesLoad at h
  simp only [Bool.and_eq_true, beq_iff_eq] at h
  obtain ⟨⟨hs, -⟩, -⟩ := h
  exact hs

theorem linkProgress_state (s : State) : (linkProgress s).geometry.state = s.geometry.state := by
  obtain ⟨n, -, h⟩ := linkProgress_eq s
  rw [h]; rfl

theorem InForm.takeAcknowledgement (k : InForm s) (id n : Nat) : InForm (takeAcknowledgement id n s) := by
  unfold Machine.takeAcknowledgement
  split
  · next hnames =>
    have hs := (linkProgress_state s).trans (namesLoad_loading hnames)
    obtain ⟨⟨hset, hid, hf, ht⟩, -⟩ := k.linkProgress.engine.loading hs
    refine InForm.sendSwapRequest (k.linkProgress.setGeometry ?_)
    exact geometrySafe_iff.mpr ⟨{ k.linkProgress.engine.form with }, hset, hid, hf, ht⟩
  · exact k

/-- A failed attempt begins anew from line 0, or the load fails (R55, R56). -/
theorem InForm.attemptFails (k : InForm s) (hs : s.geometry.state = .loading) : InForm (attemptFails s) := by
  have hloading := (linkProgress_state s).trans hs
  obtain ⟨⟨hset, hid, hf, ht⟩, -⟩ := k.linkProgress.engine.loading hloading
  unfold Machine.attemptFails
  simp only
  split
  · refine k.linkProgress.setGeometry
      (geometrySafe_iff.mpr ⟨{ k.linkProgress.engine.form with attempt := .inr rfl }, ?_⟩)
    unfold FlightForm
    rw [hloading]
    exact ⟨hset, hid, hf, ht, Nat.zero_le _, nofun⟩
  · exact k.linkProgress.setGeometry k.linkProgress.engine.form.loadFails

theorem InForm.takeRefusal (k : InForm s) (id n : Nat) : InForm (takeRefusal id n s) := by
  unfold Machine.takeRefusal
  split
  · next hnames => exact k.attemptFails (namesLoad_loading hnames)
  · exact k

theorem InForm.loadWaitExpired (k : InForm s) : InForm (loadWaitExpired s) := by
  unfold Machine.loadWaitExpired
  split
  · next h => exact k.attemptFails h.1
  · exact k

theorem InForm.takeSwapReport (k : InForm s) (id : Nat) : InForm (takeSwapReport id s) := by
  unfold Machine.takeSwapReport
  split
  · next h =>
    have hswapped := k.engine.swapped h.1
    simp only
    split
    · next c hc =>
      refine k.setGeometry (EngineForm.startComputing (g := { swapped s.geometry with pendingSet := none }) ?_ ?_)
      · exact { hswapped.form with pending := nofun }
      · exact hswapped.form.pending c hc
    · exact k.setGeometry hswapped
  · exact k

theorem InForm.repeatSwapRequest (k : InForm s) : InForm (repeatSwapRequest s) := by
  unfold Machine.repeatSwapRequest
  split
  · exact InForm.sendSwapRequest (k.setGeometry (geometrySafe_iff.mpr ⟨{ k.engine.form with }, k.engine.flight⟩))
  · exact k

theorem InForm.swapWaitEnds (k : InForm s) : InForm (swapWaitEnds s) := by
  unfold Machine.swapWaitEnds
  split
  · exact k.setGeometry (geometrySafe_iff.mpr ⟨{ k.engine.form with }, k.engine.flight⟩)
  · exact k

/-- The keystone value moves by whole steps within a quarter of the panel's width (R48). -/
theorem InForm.stepKeystone (k : InForm s) {by8 : Int} (h : by8 % 8 = 0) : InForm (stepKeystone by8 s) := by
  have hquarter : ((panelWidth s.straps.format / 4 : Nat) : Int) % 8 = 0 := by
    generalize s.straps.format = fmt
    fin_cases fmt <;> rfl
  have hsteps := k.engine.form.steps
  unfold Machine.stepKeystone
  simp only
  generalize hq : ((panelWidth s.straps.format / 4 : Nat) : Int) = q at hquarter
  set v := max (-q) (min q (s.geometry.v + by8)) with hv
  have hlow : -q ≤ v := by omega
  have hhigh : v ≤ q := by omega
  rw [← hq] at hlow hhigh
  refine k.setGeometry (GeometrySafe.offerEdit ?_ (keystoneSet_inRange k.engine.form.newestSet hlow hhigh))
  exact k.engine.setKeystone hlow hhigh (by omega)

/-! ### Source Selection (07) -/

theorem InForm.signalWake (k : InForm s) : InForm (signalWake s) := by
  refine k.of_view ?_
  unfold Machine.signalWake
  (repeat' split) <;> simp

/-- The inputs as a sample of their lines leaves them (R122, R123). -/
def sensed (lines : Six Bool) (s : State) : Six InputSense := sixZip senseSample s.source.inputs lines

/-- A presence changes by a sample. -/
def presenceChanged (lines : Six Bool) (s : State) : Bool :=
  allInputs.any fun i => (sixGet s.source.inputs i).presence != (sixGet (sensed lines s) i).presence

/-- The top entry's input gains, or settles to PRESENT, by a sample (R128). -/
def topRises (lines : Six Bool) (s : State) : Bool :=
  (topInput s).any fun i => rose (sixGet s.source.inputs i) (sixGet (sensed lines s) i)

/-- An input of the list gains by a sample (R137). -/
def listedGain (lines : Six Bool) (s : State) : Bool :=
  s.source.list.any fun e => gained (sixGet s.source.inputs e.input) (sixGet (sensed lines s) e.input)

/-- The selector with a sample's presences, before its judgement (R122, R128). -/
def presenceSampled (lines : Six Bool) (s : State) : State :=
  s.setSource { s.source with inputs := sensed lines s, topPassed := s.source.topPassed && !topRises lines s }

/-- The judgement that follows a sample by which a presence changes (R122, R130). -/
def judgedSample (lines : Six Bool) (s : State) : State :=
  if presenceChanged lines s then judgeSource (presenceSampled lines s) else presenceSampled lines s

/-- A sample is the presences taken over, the judgement, and a signal wake (R122, R137). -/
theorem samplePresence_eq (lines : Six Bool) (s : State) : samplePresence lines s =
    if (s.settings.signalWake && listedGain lines s) = true then signalWake (judgedSample lines s)
    else judgedSample lines s := by
  have htop : (match topInput s with
      | some i =>
        if rose (sixGet s.source.inputs i) (sixGet (sensed lines s) i) then
          s.setSource { s.source with inputs := sensed lines s, topPassed := false }
        else s.setSource { s.source with inputs := sensed lines s }
      | none => s.setSource { s.source with inputs := sensed lines s }) = presenceSampled lines s := by
    unfold presenceSampled topRises
    cases topInput s with
    | none => simp
    | some i => cases hr : rose (sixGet s.source.inputs i) (sixGet (sensed lines s) i) <;> simp [hr]
  unfold judgedSample
  rw [← htop]
  rfl

theorem InForm.samplePresence (k : InForm s) (lines : Six Bool) : InForm (samplePresence lines s) := by
  have hsampled : InForm (presenceSampled lines s) := k
  have hjudged : InForm (judgedSample lines s) := by
    unfold judgedSample
    split
    · exact hsampled.judgeSource
    · exact hsampled
  rw [samplePresence_eq]
  split
  · exact hjudged.signalWake
  · exact hjudged

theorem InForm.idleExpired (k : InForm s) : InForm (idleExpired s) := by
  have hstopped : formView (s.setSource { s.source with idle := none }) = formView s := rfl
  refine k.of_view ?_
  unfold Machine.idleExpired idleOff
  (repeat' split) <;> simp [hstopped]

end Sys2Proof.Machine
end

section
/-! ## Every step keeps the forms of the selector and the engine (R45 to R59, R121 to R139) -/

namespace Sys2Proof.Machine

variable {s u : State}

/-! ### Clock and Room Schedule (09) -/

@[simp] theorem formView_scheduleLock (x : Option Slot) (s : State) : formView (scheduleLock x s) = formView s := by
  unfold scheduleLock; split <;> simp
@[simp] theorem formView_enterOn (eff on : Option Slot) (s : State) : formView (enterOn eff on s) = formView s := by
  unfold enterOn leaveSlot; simp only; (repeat' split) <;> simp
@[simp] theorem formView_lockAgain (x : Option Slot) (s : State) : formView (lockAgain x s) = formView s := by
  unfold lockAgain; split <;> simp
@[simp] theorem formView_onAgain (s : State) : formView (onAgain s) = formView s := by
  unfold onAgain; split <;> simp
@[simp] theorem formView_sureExpired (s : State) : formView (sureExpired s) = formView s := by
  unfold sureExpired; split <;> simp

/-- A slot entered pushes its source (R127). -/
theorem InForm.enterEffective (k : InForm s) (x : Option Slot) : InForm (enterEffective x s) := by
  have hlevel : InForm (s.setGroup { s.group with slotLevel := slotLevelOf x }) := k
  unfold Machine.enterEffective
  simp only
  split <;> split
  · exact (hlevel.push _ _).of_view (formView_groupOff _)
  · exact hlevel.of_view (formView_groupOff _)
  · exact hlevel.push _ _
  · exact hlevel

theorem InForm.enterAgain (k : InForm s) (x : Option Slot) : InForm (enterAgain x s) := by
  unfold Machine.enterAgain
  split
  · exact k.enterEffective _
  · exact k

theorem InForm.evaluate (k : InForm s) : InForm (evaluate s) := by
  have hlock : InForm (scheduleLock (effectiveSlot s.clock.minute s.schedule.slots) s) := k.of_view (by simp)
  unfold Machine.evaluate
  simp only
  refine InForm.of_view ?_ (formView_setSchedule _ _)
  split <;> split
  · exact (hlock.enterEffective _).of_view (formView_enterOn _ _ _)
  · exact hlock.of_view (formView_enterOn _ _ _)
  · exact hlock.enterEffective _
  · exact hlock

theorem InForm.evaluateIfSure (k : InForm s) : InForm (evaluateIfSure s) := by
  unfold Machine.evaluateIfSure
  split
  · exact k.evaluate
  · exact k

theorem InForm.setSlots (k : InForm s) (xs : List Slot) : InForm (setSlots xs s) := by
  unfold Machine.setSlots
  split
  · exact k
  · exact InForm.evaluateIfSure (s := s.setSchedule { s.schedule with slots := xs }) k

theorem InForm.advanceSecond (k : InForm s) : InForm (advanceSecond s) := by
  unfold Machine.advanceSecond
  split
  · refine InForm.evaluateIfSure ?_; exact k
  · exact k

theorem InForm.secondEnds (k : InForm s) : InForm (secondEnds s) := by
  unfold Machine.secondEnds
  split
  · exact k
  · exact k.advanceSecond

theorem InForm.minuteEnds (k : InForm s) : InForm (minuteEnds s) := by
  unfold Machine.minuteEnds
  split
  · exact k.secondEnds
  · exact k

theorem InForm.adopt (k : InForm s) (minute seconds : Nat) : InForm (adopt minute seconds s) := by
  have hstep : InForm (stepClock minute seconds s) := by
    unfold stepClock
    refine InForm.evaluate ?_; exact k
  unfold Machine.adopt
  simp only
  split
  · exact hstep
  · split
    · exact hstep
    · exact k

theorem InForm.takeTime (k : InForm s) (t : Telegram) : InForm (takeTime t s) := by
  unfold Machine.takeTime
  split
  · simp only
    split
    · refine InForm.adopt ?_ _ _; exact k
    · exact k
  · exact k

theorem InForm.slewOnce (k : InForm s) : InForm (slewOnce s) := by
  unfold Machine.slewOnce
  split
  · split
    · refine InForm.advanceSecond ?_; exact k
    · split <;> exact k
  · exact k

/-! ### The warm reset (R183) -/

theorem InForm.resetSchedule (k : InForm s) : InForm (resetSchedule s) := by
  cases hsure : s.clock.sure.isSome with
  | true =>
    unfold Machine.resetSchedule
    simp only [State.setClock_clock, hsure, if_true]
    refine InForm.evaluate ?_; exact k
  | false =>
    rw [resetSchedule_unsure hsure]
    refine InForm.of_view (InForm.enterAgain (s := lockAgain _ (s.setClock { s.clock with source := none })) ?_ _)
      (formView_onAgain _)
    exact k.of_view (by simp)

@[simp] theorem formView_resetLamp (s : State) : formView (resetLamp s) = formView s := by
  unfold resetLamp; simp only; (repeat' split) <;> simp

@[simp] theorem formView_resetPeers (s : State) : formView (resetPeers s) = formView s := rfl

theorem InForm.warmReset (k : InForm s) : InForm (warmReset s) := by
  have hlocks : InForm (resetLocks (resetLamp ((s.setLine (resetLine s.line)).setClaims []))) := by
    refine k.of_view ?_
    unfold resetLocks
    simp
  have hengine := hlocks.linkProgress.engine.resetEngine
  unfold Machine.warmReset
  simp only
  refine InForm.resetSchedule (InForm.resetSelector ((hlocks.linkProgress.setGeometry hengine).of_view ?_))
  simp

/-! ### Keys (08) -/

theorem InForm.pressSource (k : InForm s) : InForm (pressSource s) := by
  unfold Machine.pressSource
  split
  · exact (k.push _ _).of_view (formView_send _ _)
  · exact k

theorem InForm.pressKeystone (k : InForm s) {by8 : Int} (h : by8 % 8 = 0) : InForm (pressKeystone by8 s) := by
  unfold Machine.pressKeystone
  split
  · exact k.stepKeystone h
  · exact k

theorem InForm.whenSettled (k : InForm s) {press : State → State} (hp : ∀ s, InForm s → InForm (press s)) :
    InForm (whenSettled press s) := by
  unfold Machine.whenSettled
  split
  · exact (hp s k).settle s
  · exact k

theorem InForm.sampleKey {get : Panel → Key} {put : Panel → Key → Panel} {press : State → State}
    (hp : ∀ s, InForm s → InForm (press s)) (samples : List Bool) (k : InForm s) :
    InForm (sampleKey get put press samples s) := by
  induction samples generalizing s with
  | nil => exact k
  | cons x rest ih =>
    have hk : InForm (s.setPanel (put s.panel (keySample (get s.panel) x).1)) := k
    unfold Machine.sampleKey
    refine ih ?_
    split
    · exact hk.whenSettled hp
    · exact hk

theorem InForm.settlePosition (k : InForm s) (p : KeyPosition) : InForm (settlePosition p s) := by
  unfold Machine.settlePosition
  simp only
  split
  · exact k
  · refine InForm.settle (k.of_view ?_) s
    simp

theorem InForm.sampleSwitch (samples : List KeyReading) (k : InForm s) : InForm (sampleSwitch samples s) := by
  induction samples generalizing s with
  | nil => exact k
  | cons r rest ih =>
    unfold Machine.sampleSwitch
    refine ih ?_
    split
    · refine InForm.settlePosition ?_ _; exact k
    · exact k

/-! ### The Hall Line (10) -/

theorem InForm.reserveForHead (k : InForm s) : InForm (reserveForHead s) := k.of_view (formView_reserveForHead s)

theorem InForm.ownerDrop (k : InForm s) (p : Payload) : InForm (ownerDrop p s) := by
  unfold Machine.ownerDrop
  split
  · exact k.of_view (formView_beaconEnded s)
  · exact k.reserveForHead
  · exact k.reserveForHead
  · exact k.reserveForHead
  · exact k.warmReset
  · exact k.reserveForHead

theorem InForm.ownerEcho (k : InForm s) (p : Payload) : InForm (ownerEcho p s) := by
  unfold Machine.ownerEcho
  split
  · exact k.of_view (formView_beaconEnded s)
  · exact k.of_view (by simp)
  · exact k.reserveForHead
  · exact k.reserveForHead
  · exact k.warmReset
  · exact k.reserveForHead

theorem InForm.attemptFailed (k : InForm s) : InForm (attemptFailed s) := by
  unfold Machine.attemptFailed
  split
  · exact k
  · simp only
    split
    · exact InForm.reserveForHead (s := s.setLine { s.line with queue := notSending s.line.queue }) k
    · split
      · refine InForm.ownerDrop ?_ _; exact k
      · exact k

theorem InForm.lineLost (k : InForm s) : InForm (lineLost s) := by
  unfold Machine.lineLost
  split
  · simp only
    split
    · exact k
    · refine InForm.attemptFailed ?_; exact k
  · exact k

theorem InForm.lineFaulted (k : InForm s) : InForm (lineFaulted s) := by
  unfold Machine.lineFaulted
  split
  · simp only
    split
    · exact k
    · refine InForm.attemptFailed ?_; exact k
  · exact k

theorem InForm.sentComplete (k : InForm s) : InForm (sentComplete s) := by
  unfold Machine.sentComplete
  split
  · simp only
    split
    · exact k
    · split
      · refine InForm.ownerEcho ?_ _; exact k
      · exact k
  · exact k

theorem InForm.deliver (k : InForm s) (t : Telegram) : InForm (deliver t s) := by
  unfold Machine.deliver
  split
  · exact k
  · split
    · unfold handTo takeRequest
      (repeat' split)
      · exact k.of_view (formView_takeBeacon t s)
      · exact k.of_view (formView_takeClaim t s)
      · exact k.of_view (formView_takeRelease t s)
      · exact k.takeTime t
      all_goals exact k
    · exact k

theorem InForm.receiveAll (signals : List LineSignal) (k : InForm s) : InForm (receiveAll signals s) := by
  induction signals generalizing s with
  | nil => exact k
  | cons x rest ih =>
    have hk : InForm (hear x s) := k
    unfold Machine.receiveAll receiveOne
    refine ih ?_
    split
    · exact (hk.deliver _).settle s
    · exact hk

theorem InForm.receive (k : InForm s) (signals : List LineSignal) : InForm (receive signals s) := by
  unfold Machine.receive
  split
  · exact k.receiveAll signals
  · exact k

/-! ### Requests -/

/-- An owner keeps the two forms, so the dispatch of a request to it does (R175, R176). -/
theorem InForm.dispatch (k : InForm s) {accepts : Telegram → Bool} {owner : Owner}
    (ho : ∀ t s, InForm s → InForm (owner t s).1) : InForm (dispatch accepts owner s) := by
  unfold Machine.dispatch
  split
  · exact k
  · next t rest _ =>
    split
    · have hr : InForm (if t.origin = 0 then (takeHead t rest s, none) else owner t (takeHead t rest s)).1 := by
        split
        · exact k
        · exact ho t _ k
      simp only
      generalize (if t.origin = 0 then (takeHead t rest s, none) else owner t (takeHead t rest s)) = r at hr
      split
      · split
        · exact hr
        · exact InForm.reserveForHead (s := r.1.setLine { r.1.line with reserved := r.1.line.reserved - 1 }) hr
      · exact hr
    · exact k

/-! Owners that touch neither the selector nor the engine. -/

theorem formView_ownGroupOn (t : Telegram) (s : State) : formView (ownGroupOn t s).1 = formView s := by
  unfold ownGroupOn refuse; (repeat' split) <;> simp
theorem formView_ownGroupOff (t : Telegram) (s : State) : formView (ownGroupOff t s).1 = formView s := by
  unfold ownGroupOff refuse; (repeat' split) <;> simp
theorem formView_ownLevel (t : Telegram) (s : State) : formView (ownLevel t s).1 = formView s := by
  unfold ownLevel refuse; (repeat' split) <;> rfl
theorem formView_ownLock (t : Telegram) (s : State) : formView (ownLock t s).1 = formView s := by
  unfold ownLock takeLock refuse; simp only; (repeat' split) <;> simp
theorem formView_ownUnlock (t : Telegram) (s : State) : formView (ownUnlock t s).1 = formView s := by
  unfold ownUnlock refuse; (repeat' split) <;> simp
theorem formView_ownClearFault (t : Telegram) (s : State) : formView (ownClearFault t s).1 = formView s := by
  unfold ownClearFault refuse; split <;> simp
theorem formView_ownLampNew (t : Telegram) (s : State) : formView (ownLampNew t s).1 = formView s := by
  unfold ownLampNew newLamp refuse; (repeat' split) <;> simp

theorem InForm.ownShow (k : InForm s) (t : Telegram) : InForm (ownShow t s).1 := by
  unfold Machine.ownShow refuse
  (repeat' split) <;> first | exact k | exact k.push _ _

/-- CORNERS offers a set brought into range (R46, R47). -/
theorem InForm.ownCorners (k : InForm s) (t : Telegram) : InForm (ownCorners t s).1 := by
  have hzero : GeometrySafe s.straps.format { s.geometry with v := 0 } :=
    k.engine.setKeystone (by omega) (by omega) rfl
  unfold Machine.ownCorners refuse
  split
  · split
    · exact k.setGeometry (hzero.offerEdit (inRange_idem _ _))
    · exact k
  · exact k

theorem InForm.ownSlotPut (k : InForm s) (t : Telegram) : InForm (ownSlotPut t s).1 := by
  unfold Machine.ownSlotPut refuse
  split
  · exact k.setSlots _
  · exact k

theorem InForm.ownSlotDrop (k : InForm s) (t : Telegram) : InForm (ownSlotDrop t s).1 := by
  unfold Machine.ownSlotDrop refuse
  (repeat' split) <;> first | exact k | exact k.setSlots _

theorem InForm.ownRestart (k : InForm s) (t : Telegram) : InForm (ownRestart t s).1 := by
  unfold Machine.ownRestart refuse
  (repeat' split) <;> first | exact k | exact k.warmReset

/-! ### Start-up (11) -/

/-- Each pair of bytes gives the initial list one source at most, of an input not in it (R138). -/
theorem initialListFrom_form (entries : List Byte) (acc : List SourceEntry) (h : (acc.map fun e => e.input).Nodup) :
    ((initialListFrom entries acc).map fun e => e.input).Nodup ∧
      (initialListFrom entries acc).length ≤ acc.length + entries.length / 2 := by
  induction entries, acc using initialListFrom.induct with
  | case1 i o rest acc input origin ho hi ih =>
    have hlonger : (if acc.any fun e => e.input == input then acc else acc ++ [⟨input, origin⟩]).length ≤
        acc.length + 1 := by
      split <;> simp
    have hnew : ((if acc.any fun e => e.input == input then acc else acc ++ [⟨input, origin⟩]).map
        fun e => e.input).Nodup := by
      split
      · exact h
      · next hn =>
        rw [List.map_append]
        refine List.Nodup.append h (List.nodup_singleton _) ?_
        simp only [List.map_cons, List.map_nil, List.disjoint_singleton]
        intro hmem
        obtain ⟨e, he, hei⟩ := List.mem_map.mp hmem
        exact hn (List.any_eq_true.mpr ⟨e, he, by simpa using hei⟩)
    obtain ⟨hnodup, hlength⟩ := ih hnew
    rw [initialListFrom, hi, ho]
    refine ⟨hnodup, hlength.trans ?_⟩
    simp only [List.length_cons]
    omega
  | case2 i o rest acc hn ih =>
    obtain ⟨hnodup, hlength⟩ := ih h
    have hskip : initialListFrom (i :: o :: rest) acc = initialListFrom rest acc := by
      rw [initialListFrom]
      split
      · next input origin hi ho => exact absurd ho (hn input origin hi)
      · rfl
    rw [hskip]
    refine ⟨hnodup, hlength.trans ?_⟩
    simp only [List.length_cons]
    omega
  | case3 entries acc hshort =>
    rw [initialListFrom]
    · exact ⟨h, Nat.le_add_right _ _⟩
    · exact hshort

/-- Zone 3 holds four sources at most (12.6). -/
theorem zoneData_sources {silent : List Nat} {s : State} {d : List Byte} (h : zoneData silent s 3 = some d) :
    d.length ≤ 10 := by
  unfold zoneData at h
  simp only at h
  split at h
  · next hgood =>
    simp only [Bool.and_eq_true] at hgood
    obtain ⟨⟨⟨-, hallowed⟩, -⟩, -⟩ := hgood
    obtain rfl := Option.some.inj h
    unfold lengthAllowed at hallowed
    simp only [Bool.and_eq_true, decide_eq_true_eq, beq_iff_eq] at hallowed
    rw [List.length_take]
    omega
  · cases h

theorem fromZone_initialList {data : Option (List Byte)} {take : List Byte → Settings → Settings} {x : Settings}
    (h : ∀ d x, (take d x).initialList = x.initialList) : (fromZone data take x).initialList = x.initialList := by
  unfold fromZone
  split
  · exact h _ _
  · rfl

theorem settingsRead_initialList (silent : List Nat) (s : State) : ListForm (settingsRead silent s).initialList := by
  have hdefault : (fromZone (zoneData silent s 2) lampFrom (fromZone (zoneData silent s 1) identityFrom
      Settings.defaults)).initialList = [] := by
    rw [fromZone_initialList, fromZone_initialList]
    · rfl
    · intro d x; unfold identityFrom; split <;> rfl
    · intro d x; unfold lampFrom; split <;> rfl
  have hempty : ListForm [] := ⟨Nat.zero_le _, List.nodup_nil⟩
  unfold settingsRead
  generalize fromZone (zoneData silent s 2) lampFrom _ = x at hdefault
  unfold fromZone
  split
  · next d hd =>
    have hshort := zoneData_sources hd
    unfold sourcesFrom
    split
    · next h i entries =>
      obtain ⟨hnodup, hlength⟩ := initialListFrom_form entries [] List.nodup_nil
      refine ⟨?_, hnodup⟩
      simp only [List.length_cons, List.length_nil] at hshort hlength
      simp only
      omega
    · rw [hdefault]; exact hempty
  · rw [hdefault]; exact hempty

theorem cornersRead_inRange (fmt : Fin 4) (data : Option (List Byte)) :
    inRange fmt (cornersRead fmt data) = cornersRead fmt data := by
  unfold cornersRead
  split
  · exact inRange_idem _ _
  · simp [inRange, CornerSet.plain]

/-- Pass two offers the stored corners and starts the selector with the stored list (R61, R138). -/
theorem InForm.secondPassOnce (k : InForm s) (silent : List Nat) : InForm (secondPassOnce silent s) := by
  unfold Machine.secondPassOnce
  split
  · exact k
  · have hlist := settingsRead_initialList silent s
    unfold secondPass
    exact startSelector_inForm hlist rfl (k.engine.offerEdit (cornersRead_inRange _ _)) hlist

@[simp] theorem formView_enableReceiver (s : State) : formView (enableReceiver s) = formView s := by
  unfold enableReceiver; simp only; split <;> simp

theorem inForm_poweredOn (p : PowerUp) (s : State) : InForm (poweredOn p s) := by
  refine ⟨⟨Nat.zero_le _, List.nodup_nil, rfl, rfl, rfl⟩, ?_, Nat.zero_le _, List.nodup_nil⟩
  exact ⟨by simp [poweredOn, State.reset, Geometry.powerOn, inRange, CornerSet.plain], nofun, nofun,
    (lightFraction_plain _).symm, Nat.zero_le _, Nat.zero_le _, nofun,
    Int.neg_nonpos_of_nonneg (Int.natCast_nonneg _), Int.natCast_nonneg _, rfl, .inl rfl, rfl, rfl, rfl, rfl⟩

/-! ### Every step -/

theorem inForm_of_finish {op : State → State} {t : State} (hop : InForm (op s)) (e : finish op s = .next t) :
    InForm t := by
  obtain rfl := Host.Outcome.next.inj e
  exact hop.settle s

theorem inForm_of_view {op : State → State} {t : State} (k : InForm s) (hop : formView (op s) = formView s)
    (e : finish op s = .next t) : InForm t := inForm_of_finish (k.of_view hop) e

theorem inForm_of_owner {accepts : Telegram → Bool} {owner : Owner} {t : State} (k : InForm s)
    (ho : ∀ t s, InForm s → InForm (owner t s).1) (e : finish (dispatch accepts owner) s = .next t) : InForm t :=
  inForm_of_finish (k.dispatch ho) e

/-- An owner of a QUERY changes nothing (R177). -/
theorem inForm_of_query {accepts : Telegram → Bool} {read : Telegram → State → Option Result} {t : State} (k : InForm s)
    (e : finish (dispatch accepts fun t s => queryForm t s (read t s)) s = .next t) : InForm t :=
  inForm_of_owner k (fun t s k => by rw [queryForm_state]; exact k) e

theorem inForm_of_key {get : Panel → Key} {put : Panel → Key → Panel} {press : State → State} {samples : List Bool}
    {t : State} (k : InForm s)
    (e : (Host.Outcome.next (sampleKey get put press samples s) : Host.Outcome State Fault Refusal) = .next t)
    (hp : ∀ s, InForm s → InForm (press s)) : InForm t := by
  obtain rfl := Host.Outcome.next.inj e
  exact InForm.sampleKey hp samples k

theorem exec_inForm {i : Instr} {t : State} (k : InForm s) (e : exec i s = .next t) : InForm t := by
  cases i with
  | powerOn p =>
    have e : execPowerOn p s = .next t := e
    unfold execPowerOn at e
    split at e
    · cases e
    · obtain rfl := Host.Outcome.next.inj e
      exact (inForm_poweredOn p s).settle _
  | secondPass silent => exact inForm_of_finish (k.secondPassOnce silent) e
  | loss => exact inForm_of_finish k.lineLost e
  | lineFault => exact inForm_of_finish k.lineFaulted e
  | ownEcho => exact inForm_of_finish k.sentComplete e
  | receiveError | requestArrival | answer | beacon | claim | release | time | telegramOfUnknownKind =>
    obtain rfl := Host.Outcome.next.inj e
    exact k.receive _
  | groupOn => exact inForm_of_owner k (fun t s k => k.of_view (formView_ownGroupOn t s)) e
  | groupOff => exact inForm_of_owner k (fun t s k => k.of_view (formView_ownGroupOff t s)) e
  | level => exact inForm_of_owner k (fun t s k => k.of_view (formView_ownLevel t s)) e
  | showInput => exact inForm_of_owner k (fun t _ k => k.ownShow t) e
  | corners => exact inForm_of_owner k (fun t _ k => k.ownCorners t) e
  | lock => exact inForm_of_owner k (fun t s k => k.of_view (formView_ownLock t s)) e
  | unlock => exact inForm_of_owner k (fun t s k => k.of_view (formView_ownUnlock t s)) e
  | slotPut => exact inForm_of_owner k (fun t _ k => k.ownSlotPut t) e
  | slotDrop => exact inForm_of_owner k (fun t _ k => k.ownSlotDrop t) e
  | clearFault => exact inForm_of_owner k (fun t s k => k.of_view (formView_ownClearFault t s)) e
  | lampNew => exact inForm_of_owner k (fun t s k => k.of_view (formView_ownLampNew t s)) e
  | restart => exact inForm_of_owner k (fun t _ k => k.ownRestart t) e
  | queryWear | queryLocks | querySlot | queryCorners => exact inForm_of_query k e
  | computationEnd => exact inForm_of_finish k.computationEnds e
  | loadSent => exact inForm_of_finish k.lastRecordSent e
  | loadAcknowledgement i n => exact inForm_of_finish (k.takeAcknowledgement i n) e
  | loadRefusal i n => exact inForm_of_finish (k.takeRefusal i n) e
  | loadWaitExpiry => exact inForm_of_finish k.loadWaitExpired e
  | swapReport i => exact inForm_of_finish (k.takeSwapReport i) e
  | swapRequestRepeat => exact inForm_of_finish k.repeatSwapRequest e
  | swapWaitTimeout => exact inForm_of_finish k.swapWaitEnds e
  | presenceSample lines => exact inForm_of_finish (k.samplePresence lines) e
  | lockReport input => exact inForm_of_finish (k.takeLockReport input) e
  | switchTimerExpiry => exact inForm_of_finish k.switchExpired e
  | holdTimerExpiry => exact inForm_of_finish k.holdExpired e
  | idleTimerExpiry => exact inForm_of_finish k.idleExpired e
  | keypadPower => exact inForm_of_key k e fun s k => k.of_view (formView_pressPower s)
  | keypadSource => exact inForm_of_key k e fun _ k => k.pressSource
  | keypadVPlus => exact inForm_of_key k e fun _ k => k.pressKeystone (by decide)
  | keypadVMinus => exact inForm_of_key k e fun _ k => k.pressKeystone (by decide)
  | keypadClear => exact inForm_of_key k e fun s k => k.of_view (formView_pressClear s)
  | keySwitchSettle samples =>
    obtain rfl := Host.Outcome.next.inj e
    exact InForm.sampleSwitch samples k
  | clockSecond => exact inForm_of_finish k.secondEnds e
  | minuteChange => exact inForm_of_finish k.minuteEnds e
  | slewTimerExpiry => exact inForm_of_finish k.slewOnce e
  | retryGapExpiry | dropoutWindowExpiry | fanTestExpiry | tachometerRunning | supplyLowReleased | beaconSpacingExpiry =>
    exact inForm_of_view k rfl e
  | _ => exact inForm_of_view k (by simp) e

/-- A step from a safe state keeps the forms of the selector and the engine. -/
theorem step_inForm {t : State} (h : Safe s) (e : step s = .next t) : InForm t := by
  unfold step at e
  split at e
  · cases e; exact h.inForm
  · next c rest _ => exact exec_inForm (s := s.setPending rest) h.inForm e

/-- Settles O59: every operation keeps the forms, the selector's by its pushes, judgements and switches, the engine's by
its edits, its work on a table and the records that go with a select command. -/
theorem sourcesAndGeometryStayInForm : Obligations.SourcesAndGeometryStayInForm := fun _ _ h e =>
  have k := step_inForm h e
  ⟨k.source, k.engine⟩

end Sys2Proof.Machine
end

section
/-! ## The settling after a change of the selector, and SHOW (07, R124, R125, R130 to R133, R136) -/

namespace Sys2Proof.Machine

variable {s u v w : State} {i : Input} {o : Origin} {e : SourceEntry} {t : Telegram} {rest : List Telegram}

/-! ### All that a change of the selector leaves -/

/-- A state but for the selector, the scaler link, the engine's two counters of records, and the line. -/
def besides (s : State) : State :=
  { s with
    source := .powerOn, geometry := { s.geometry with linesSent := 0, linkDraws := 0 }, scalerLink := []
    line := .powerOn }

theorem besides_setSource (s : State) (x : Source) : besides (s.setSource x) = besides s := rfl

theorem besides_linkProgress (s : State) : besides (linkProgress s) = besides s := by
  obtain ⟨n, -, h⟩ := linkProgress_eq s
  rw [h]; rfl

theorem besides_beginSwitch (x : Option Input) (s : State) : besides (beginSwitch x s) = besides s :=
  besides_linkProgress _

theorem besides_judgeWith (x : Option Input) (s : State) : besides (judgeWith x s) = besides s := by
  unfold judgeWith
  split
  · exact besides_beginSwitch x s
  · (repeat' split) <;> rfl

theorem besides_judgeSource (s : State) : besides (judgeSource s) = besides s := by
  unfold judgeSource
  split
  · rfl
  all_goals exact besides_judgeWith _ s

theorem besides_push (i : Input) (o : Origin) (s : State) : besides (push i o s) = besides s := by
  obtain ⟨v, hv, hjudge, hswitch⟩ := push_eq i o s
  have hbesides : besides v = besides s := by rw [hv]; rfl
  by_cases hst : v.source.state = .switching
  · obtain ⟨hnone, hsome⟩ := hswitch hst
    cases hx : v.source.shown with
    | none => rw [hnone hx]; exact hbesides
    | some x =>
      rw [hsome x hx]
      split
      · exact hbesides
      · exact (besides_beginSwitch _ v).trans hbesides
  · rw [hjudge hst]
    exact (besides_judgeWith _ v).trans hbesides

/-- What the settling reads is as it was but for the selector. -/
theorem quiet_of_besides (m : besides u = besides s) : Quiet s (u.setSource s.source) :=
  ⟨(congrArg State.lamp m :), (congrArg State.wear m :), (congrArg State.claims m :), (congrArg State.group m :),
    (congrArg State.locks m :), (congrArg State.peers m :), (congrArg State.settings m :), (congrArg State.straps m :),
    (congrArg (fun x => x.pins.tacho) m :), (congrArg (fun x => x.pins.supplyLow) m :),
    (congrArg (fun x => x.geometry.f) m :), (congrArg isFresh m :), (congrArg isDuplicate m :), (congrArg inService m :),
    rfl, rfl, rfl⟩

/-- After a change of the selector alone the idle timer and the beacon are left to settle (R80, R136). -/
theorem settle_selector (h : Settled s) (m : besides u = besides s) : settle s u = beaconJudge s (idleJudge u) := by
  have q := quiet_of_besides m
  set w := u.setSource s.source with hw
  obtain ⟨hlife, hstart, hstrike, hgroup, htarget, hfan, -⟩ := h.quiet q
  have hinputs : powerInputs u = powerInputs s := (members_quiet q).2.2.2.2.2.2.1
  have hlife : lifeJudge u = u := lifeJudge_fixed.mpr (lifeJudge_fixed (s := w).mp hlife)
  have hstart : startTest u = u := startTest_fixed.mpr (startTest_fixed (s := w).mp hstart)
  have hstrike : strikeTest u = u := strikeTest_fixed.mpr (strikeTest_fixed (s := w).mp hstrike)
  have hgroup : judgeGroup u = u := judgeGroup_fixed.mpr (judgeGroup_fixed (s := w).mp hgroup)
  have htarget : retarget u = u := retarget_fixed.mpr (retarget_fixed (s := w).mp htarget)
  have hfan : fanStallJudge u = u := fanStallJudge_fixed.mpr (fanStallJudge_fixed (s := w).mp hfan)
  rw [settle_timers hlife hstart hstrike hgroup (withdrawTest_same hinputs.symm), htarget, hfan]

theorem besides_settle (h : Settled s) (m : besides u = besides s) : besides (settle s u) = besides s := by
  rw [settle_selector h m, beaconJudge_eq]
  exact m

/-! ### What the selector is after the settling -/

/-- `u` has the selector, but for its idle timer, the scaler link and the engine as `v` has them. -/
def SameSelector (v u : State) : Prop :=
  u.source = { v.source with idle := u.source.idle } ∧ u.scalerLink = v.scalerLink ∧ u.geometry = v.geometry

theorem sameSelector_of_outside (h : outside u = outside v) : SameSelector v u := by
  refine ⟨?_, (congrArg State.scalerLink h :), (congrArg State.geometry h :)⟩
  have hsource : { u.source with idle := none } = { v.source with idle := none } := (congrArg State.source h :)
  exact congrArg (fun x : Source => { x with idle := u.source.idle }) hsource

theorem settle_sameSelector (b v : State) : SameSelector v (settle b v) := sameSelector_of_outside (outside_settle b v)

theorem SwitchTo.same (h : SwitchTo e s v) (k : SameSelector v u) : SwitchTo e s u := by
  obtain ⟨hsource, hsent⟩ := h
  obtain ⟨hu, hlink, hgeometry⟩ := k
  refine ⟨?_, ?_⟩
  · rw [hu, hsource]
  · unfold SelectSent at hsent ⊢
    rwa [hlink, hgeometry]

theorem StaysIn.same {x : SelectorState} {hold : Timer} (h : StaysIn x hold s v) (k : SameSelector v u) :
    StaysIn x hold s u := by
  obtain ⟨hsource, hlink, hgeometry⟩ := h
  obtain ⟨hu, hulink, hugeometry⟩ := k
  exact ⟨by rw [hu, hsource], hulink.trans hlink, hugeometry.trans hgeometry⟩

theorem Judged.same {x : Option SourceEntry} (h : Judged x s v) (k : SameSelector v u) : Judged x s u := by
  obtain ⟨hswitch, hstays⟩ := h
  refine ⟨fun e he hne => (hswitch e he hne).same k, fun hx => ?_⟩
  have h := hstays hx
  split at h
  · next hp => rw [if_pos hp]; exact h.same k
  · next hp =>
    rw [if_neg hp]
    split at h
    · next hh => rw [if_pos hh]; exact h.same k
    · next hh =>
      rw [if_neg hh]
      split at h
      · next hd => rw [if_pos hd]; exact h.same k
      · next hd => rw [if_neg hd]; exact h.same k

theorem PushedOnTop.same (h : PushedOnTop i o s v) (k : SameSelector v u) : PushedOnTop i o s u := by
  obtain ⟨hu, hlink, hgeometry⟩ := k
  unfold PushedOnTop SelectSent at h ⊢
  rw [hu, hlink, hgeometry]
  exact h

/-! ### SHOW (R124, R125) -/

theorem ownShow_passes (hb : t.body = [byteOf (inputCode i)])
    (hp : passesCheck s.locks (.station t.origin.toNat) ⟨false, false, true, false, false⟩ = true) :
    ownShow t s = (push i (.station t.origin.toNat) s, some (.of .taken)) := by
  unfold ownShow
  rw [hb]
  simp only [inputOf_byteOf]
  exact if_pos hp

/-- Settles O17: the push of the taken request; the settling then has the idle timer and the beacon alone to judge. -/
theorem showPutsTheInputOnTop : Obligations.ShowPutsTheInputOnTop := by
  intro s t rest i hs h hb hp
  have ho := ownShow_passes (s := takeHead t rest s) hb hp
  have hpushed : PushedOnTop i (.station t.origin.toNat) s (push i (.station t.origin.toNat) (takeHead t rest s)) :=
    push_pushed i _ (takeHead t rest s)
  set p := push i (.station t.origin.toNat) (takeHead t rest s) with hpush
  have hreplied : besides (replied (directed s t) t (.of .taken) p) = besides s := by
    rw [replied_eq]
    exact besides_push i _ (takeHead t rest s)
  have hsame : SameSelector p (settle s (replied (directed s t) t (.of .taken) p)) := by
    rw [replied_eq]
    exact settle_sameSelector s (p.setLine _)
  have hrest := besides_settle hs hreplied
  exact ⟨_, finish_replied h ho, hpushed.same hsame, answerQueued_settle t _ s s p, (congrArg State.lamp hrest :),
    (congrArg State.wear hrest :), (congrArg State.claims hrest :), (congrArg State.group hrest :),
    (congrArg State.locks hrest :), (congrArg State.peers hrest :), (congrArg State.clock hrest :),
    (congrArg State.schedule hrest :)⟩

end Sys2Proof.Machine
end

section
/-! ## The ends of a switch and of the hold (07, R128 to R134) -/

namespace Sys2Proof.Machine

variable {s u v : State} {i j : Input} {e : SourceEntry} {rest : List SourceEntry}

/-! ### The wanted entry (R129) -/

theorem wantedEntry_top (b : Bool) (hl : s.source.list = e :: rest) (hp : s.source.topPassed = false) :
    wantedEntry b s = some e := by
  unfold wantedEntry
  rw [hl, hp]
  rfl

/-- With the top passed and nothing protected, the first present entry is wanted, or the top one (R128, R129). -/
theorem wantedEntry_unprotected (hl : s.source.list = e :: rest) (hp : s.source.topPassed = true) :
    wantedEntry false s = some ((s.source.list.find? fun x => inputPresent s x.input).getD e) := by
  unfold wantedEntry
  rw [hl, hp]
  simp only [if_true, Bool.false_and, Bool.or_false]

/-- With the top passed and the shown input protected, the first entry that is present or shown is wanted (R129). -/
theorem wantedEntry_protected (hl : s.source.list = e :: rest) (hp : s.source.topPassed = true)
    (hs : s.source.shown = some i) : wantedEntry true s =
      some ((s.source.list.find? fun x => inputPresent s x.input || x.input == i).getD e) := by
  have hshown : ∀ x : SourceEntry, (some i == some x.input) = (x.input == i) := by
    intro x
    rw [Bool.eq_iff_iff, beq_iff_eq, beq_iff_eq, Option.some_inj]
    exact eq_comm
  unfold wantedEntry
  rw [hl, hp, hs]
  simp only [if_true, Bool.true_and, hshown]

theorem topInput_cons (hl : s.source.list = e :: rest) : topInput s = some e.input := by
  unfold topInput
  rw [hl]
  rfl

theorem list_of_topInput (h : topInput s = some i) : ∃ e rest, s.source.list = e :: rest ∧ e.input = i := by
  unfold topInput at h
  cases hl : s.source.list with
  | nil => rw [hl] at h; cases h
  | cons e rest => rw [hl] at h; exact ⟨e, rest, rfl, Option.some.inj h⟩

theorem shownPresent_some (h : s.source.shown = some i) : shownPresent s = inputPresent s i := by
  unfold shownPresent
  rw [h]

/-! ### A judgement that leaves what is shown (R130) -/

theorem judgeWith_present (hp : shownPresent s = true) : judgeWith s.source.shown s =
    s.setSource { s.source with hold := none, switch := none, state := .showing } := by
  unfold judgeWith
  rw [if_neg (not_not.mpr rfl), if_pos hp]

theorem judgeWith_dark (hp : shownPresent s = false) (hh : s.source.hold = none) (ht : s.source.shown = topInput s)
    (hpassed : s.source.topPassed = true) : judgeWith s.source.shown s =
      s.setSource { s.source with switch := none, state := .noSignal } := by
  unfold judgeWith
  rw [if_neg (not_not.mpr rfl), if_neg (by rw [hp]; decide), if_neg (by rw [hh]; decide), if_pos (.inr ⟨ht, hpassed⟩)]

theorem judgeWith_holds (hp : shownPresent s = false) (hh : s.source.hold = none) (hs : s.source.shown = some i)
    (ht : topInput s = some i → s.source.topPassed = false) : judgeWith s.source.shown s =
      s.setSource
        { s.source with hold := some (s.settings.hold * 1000), switch := none, state := .holding } := by
  have hlit : ¬(s.source.shown = none ∨ s.source.shown = topInput s ∧ s.source.topPassed = true) := by
    rintro (hn | ⟨htop, hpassed⟩)
    · rw [hs] at hn; cases hn
    · rw [ht (htop.symm.trans hs)] at hpassed; cases hpassed
  unfold judgeWith
  rw [if_neg (not_not.mpr rfl), if_neg (by rw [hp]; decide), if_neg (by rw [hh]; decide), if_neg hlit]

/-- A selector that goes on showing what it shows leaves nothing to settle (R80, R136). -/
theorem finish_shows {op : State → State} {x : Source} (h : Settled s) (hop : op s = s.setSource x)
    (hshown : x.shown = s.source.shown) (hinputs : x.inputs = s.source.inputs) (hidle : x.idle = s.source.idle) :
    finish op s = .next (s.setSource x) := by
  have hcauses : beaconCauses s = beaconCauses (op s) := by
    rw [hop]
    unfold beaconCauses
    rw [State.setSource_source, hshown]
    rfl
  rw [finish_quiet h ?_ hcauses, hop]
  rw [hop]
  exact ⟨rfl, rfl, rfl, rfl, rfl, rfl, rfl, rfl, rfl, rfl, rfl, rfl, rfl, rfl, hshown, hinputs, hidle⟩

/-! ### The wanted input is another (R130, R131) -/

theorem judgeWith_switches (hw : wantedEntry (shownProtected s) s = some e) (hne : s.source.shown ≠ some e.input) :
    SwitchTo e s (judgeWith (wantedInput s) s) := by
  obtain ⟨hswitch, -⟩ := judgeWith_judged (shownProtected s) s
  rw [wantedInput_entry]
  exact hswitch e hw hne

theorem wantedInput_of_entry (hw : wantedEntry (shownProtected s) s = some e) : wantedInput s = some e.input := by
  rw [wantedInput_entry, hw]
  rfl

/-- A switch that an event begins, once it is settled (R131). -/
theorem finish_switches {op : State → State} (h : Settled s) (hb : besides (op s) = besides s)
    (hs : SwitchTo e s (op s)) : ∃ u, finish op s = .next u ∧ SwitchBegun e s u := by
  have hrest := besides_settle h hb
  exact ⟨_, rfl, hs.same (settle_sameSelector s _), (congrArg State.lamp hrest :), (congrArg State.group hrest :),
    (congrArg State.locks hrest :), (congrArg State.wear hrest :), (congrArg State.claims hrest :)⟩

/-! ### The end of a switch (R132) -/

/-- The two events that end a switch to an input: its lock report, and the switch timer where it runs (R132). -/
theorem exec_endSwitch (hst : s.source.state = .switching) (hs : s.source.shown = some i) :
    exec (.lockReport i) s = finish endSwitch s ∧
      (s.source.switch.isSome = true → exec .switchTimerExpiry s = finish endSwitch s) := by
  have hreport : takeLockReport i s = endSwitch s := if_pos ⟨hst, hs⟩
  refine ⟨congrArg (fun u => Host.Outcome.next (settle s u)) hreport, fun hw => ?_⟩
  have htimer : switchExpired s = endSwitch s := if_pos ⟨hst, hw⟩
  exact congrArg (fun u => Host.Outcome.next (settle s u)) htimer

/-- Another lock report is disregarded (R132). -/
theorem takeLockReport_other (hs : s.source.shown = some i) (hne : j ≠ i) : takeLockReport j s = s :=
  if_neg fun h => hne (Option.some.inj (h.2.symm.trans hs))

theorem endSwitch_switches (h : Settled s) (hw : wantedEntry (shownProtected s) s = some e)
    (hne : s.source.shown ≠ some e.input) : ∃ u, finish endSwitch s = .next u ∧ SwitchBegun e s u :=
  finish_switches h (besides_judgeWith _ s) (judgeWith_switches hw hne)

theorem endSwitch_shown (hw : wantedInput s = s.source.shown) : endSwitch s = judgeWith s.source.shown s := by
  unfold endSwitch
  rw [hw]

/-- A switch that ends on the wanted input shows it, or holds it where it is absent (R130, R132). -/
theorem finish_endSwitch_shown (h : Settled s) (hw : wantedInput s = some i) (hs : s.source.shown = some i)
    (hh : s.source.hold = none) (ht : topInput s = some i → s.source.topPassed = false) :
    finish endSwitch s = .next (s.setSource
      (if inputPresent s i = true then { s.source with hold := none, switch := none, state := .showing }
      else { s.source with hold := some (s.settings.hold * 1000), switch := none, state := .holding })) := by
  have hop := endSwitch_shown (hw.trans hs.symm)
  have hpresent := shownPresent_some hs
  split
  · next hp => exact finish_shows h (hop.trans (judgeWith_present (hpresent.trans hp))) rfl rfl rfl
  · next hp =>
    rw [Bool.not_eq_true] at hp
    exact finish_shows h (hop.trans (judgeWith_holds (hpresent.trans hp) hh hs ht)) rfl rfl rfl

/-- While SWITCHING to an input that is not the passed top, it is protected (7.4). -/
theorem shownProtected_switching (hst : s.source.state = .switching)
    (h : (s.source.topPassed && s.source.shown == topInput s) = false) : shownProtected s = true := by
  unfold shownProtected
  rw [hst, h]
  simp

theorem shownProtected_passed (hst : s.source.topPassed = true) (hs : s.source.shown = topInput s)
    (hh : s.source.hold = none) : shownProtected s = false := by
  unfold shownProtected
  rw [hst, hs, hh]
  simp

/-- Outside SWITCHING the hold alone protects what is shown (7.4). -/
theorem shownProtected_hold (hst : s.source.state ≠ .switching) : shownProtected s = s.source.hold.isSome := by
  have hno : (s.source.state == .switching) = false := beq_eq_false_iff_ne.mpr hst
  unfold shownProtected
  rw [hno]
  simp

theorem not_present_of_absent {x : SourceEntry} (hi : inputPresent s i = false) (hx : inputPresent s x.input = true) :
    x.input ≠ i := by
  rintro rfl
  rw [hi] at hx
  cases hx

/-! ### The end of the hold (R134) -/

/-- The selector once the hold has run out, before the judgement (R134). -/
def holdEnded (s : State) : State :=
  s.setSource
    { s.source with
      hold := none
      topPassed := s.source.topPassed || (s.source.shown.isSome && s.source.shown == topInput s) }

theorem holdExpired_holding (hst : s.source.state = .holding) (hh : s.source.hold.isSome = true) :
    holdExpired s = judgeWith (wantedInput (holdEnded s)) (holdEnded s) := by
  have hout : (holdEnded s).source.state ≠ .switching := by
    change s.source.state ≠ .switching
    rw [hst]; nofun
  rw [← judgeSource_eq hout]
  exact if_pos hh

theorem besides_holdExpired (s : State) : besides (holdExpired s) = besides s := by
  unfold holdExpired
  split
  · exact besides_judgeSource _
  · rfl

theorem shownProtected_holdEnded (hst : s.source.state = .holding) : shownProtected (holdEnded s) = false :=
  shownProtected_hold (s := holdEnded s) (by change s.source.state ≠ _; rw [hst]; nofun)

theorem holdEnded_lower (hs : s.source.shown = some i) (ht : topInput s ≠ some i) :
    holdEnded s = s.setSource { s.source with hold := none } := by
  have hpassed : (s.source.topPassed || (s.source.shown.isSome && s.source.shown == topInput s)) =
      s.source.topPassed := by
    rw [hs, beq_eq_false_iff_ne.mpr ht.symm]
    simp
  unfold holdEnded
  rw [hpassed]

theorem holdEnded_top (hs : s.source.shown ≠ none) (ht : s.source.shown = topInput s) :
    holdEnded s = s.setSource { s.source with hold := none, topPassed := true } := by
  have hpassed : (s.source.topPassed || (s.source.shown.isSome && s.source.shown == topInput s)) = true := by
    rw [← ht, Option.isSome_iff_ne_none.mpr hs]
    simp
  unfold holdEnded
  rw [hpassed]

/-- The hold ends on a lower, absent entry: what is wanted without its protection is switched to (R129, R134). -/
theorem holdExpired_lower (h : Settled s) (hst : s.source.state = .holding) (hh : s.source.hold.isSome = true)
    (hs : s.source.shown = some i) (ht : topInput s ≠ some i) (hw : wantedEntry false s = some e) (hne : e.input ≠ i) :
    ∃ u, exec .holdTimerExpiry s = .next u ∧ SwitchBegun e s u := by
  refine finish_switches h (besides_holdExpired s) ?_
  rw [holdExpired_holding hst hh]
  have hprotected := shownProtected_holdEnded hst
  rw [holdEnded_lower hs ht] at hprotected ⊢
  refine judgeWith_switches (s := s.setSource { s.source with hold := none }) ?_ ?_
  · rw [hprotected]; exact hw
  · change s.source.shown ≠ some e.input
    rw [hs]
    exact fun he => hne (Option.some.inj he).symm

/-- The hold ends on the absent top: the top is passed, and with no entry present it stays in NO_SIGNAL (R129, R134). -/
theorem holdExpired_dark (h : Settled s) (hst : s.source.state = .holding) (hh : s.source.hold.isSome = true)
    (hs : s.source.shown = some i) (ht : topInput s = some i) (hi : inputPresent s i = false)
    (hnone : (s.source.list.find? fun x => inputPresent s x.input) = none) :
    exec .holdTimerExpiry s = .next (s.setSource
      { s.source with hold := none, topPassed := true, switch := none, state := .noSignal }) := by
  refine finish_shows h ?_ rfl rfl rfl
  obtain ⟨e, rest, hl, rfl⟩ := list_of_topInput ht
  have hprotected := shownProtected_holdEnded hst
  rw [holdExpired_holding hst hh]
  rw [holdEnded_top (by rw [hs]; nofun) (hs.trans ht.symm)] at hprotected ⊢
  set w := s.setSource { s.source with hold := none, topPassed := true } with hw
  have hwanted : wantedEntry (shownProtected w) w = some e := by
    rw [hprotected, wantedEntry_unprotected (s := w) hl rfl]
    exact congrArg (fun x => some (x.getD e)) hnone
  rw [(wantedInput_of_entry hwanted).trans hs.symm]
  exact judgeWith_dark (s := w) ((shownPresent_some (s := w) hs).trans hi) rfl (hs.trans ht.symm) rfl

/-- The hold ends on the absent top: the top is passed, and the first present entry is switched to (R129, R134). -/
theorem holdExpired_passes (h : Settled s) (hst : s.source.state = .holding) (hh : s.source.hold.isSome = true)
    (hs : s.source.shown = some i) (ht : topInput s = some i) (hi : inputPresent s i = false)
    (hx : (s.source.list.find? fun x => inputPresent s x.input) = some e) :
    ∃ u, exec .holdTimerExpiry s = .next u ∧
      SwitchBegun e (s.setSource { s.source with hold := none, topPassed := true }) u := by
  obtain ⟨top, rest, hl, rfl⟩ := list_of_topInput ht
  have hprotected := shownProtected_holdEnded hst
  have hop := holdExpired_holding hst hh
  rw [holdEnded_top (by rw [hs]; nofun) (hs.trans ht.symm)] at hprotected hop
  set w := s.setSource { s.source with hold := none, topPassed := true } with hw
  have hwanted : wantedEntry (shownProtected w) w = some e := by
    rw [hprotected, wantedEntry_unprotected (s := w) hl rfl]
    exact congrArg (fun x => some (x.getD top)) hx
  have hswitch : SwitchTo e w (holdExpired s) := by
    rw [hop]
    refine judgeWith_switches hwanted ?_
    change s.source.shown ≠ some e.input
    rw [hs]
    have hpresent : inputPresent s e.input = true := (List.find?_some hx :)
    exact fun he => not_present_of_absent hi hpresent (Option.some.inj he).symm
  have hrest := besides_settle h (besides_holdExpired s)
  exact ⟨_, rfl, hswitch.same (settle_sameSelector s _), (congrArg State.lamp hrest :), (congrArg State.group hrest :),
    (congrArg State.locks hrest :), (congrArg State.wear hrest :), (congrArg State.claims hrest :)⟩

/-- Settles O45: by which entry is wanted when a switch or a hold ends, and whether that is the one shown. -/
theorem switchesAndHoldsEnd : Obligations.SwitchesAndHoldsEnd := by
  intro s i j h
  refine ⟨fun hst hs hh ht hp => ?_, fun e rest hst hs hp hl hne => ?_, fun hst hs hh ht hp ha => ?_,
    fun e rest hst hs hh hp hl hne x hx => ?_, fun e rest hst hh hs hl hne ha => ?_, fun hst hh hn ht ha => ?_⟩
  · obtain ⟨hreport, htimer⟩ := exec_endSwitch hst hs
    obtain ⟨e, rest, hl, rfl⟩ := list_of_topInput ht
    have hdone := finish_endSwitch_shown h (wantedInput_of_entry (wantedEntry_top _ hl hp)) hs hh fun _ => hp
    exact ⟨hreport.trans hdone, fun hw => (htimer hw).trans hdone,
      fun hne => finish_unchanged h (takeLockReport_other hs hne)⟩
  · obtain ⟨hreport, htimer⟩ := exec_endSwitch hst hs
    rw [hreport]
    have hbegun := endSwitch_switches h (wantedEntry_top _ hl hp) (by rw [hs]; exact fun he => hne (Option.some.inj he).symm)
    exact ⟨hbegun, fun hw => by rw [htimer hw]; exact hbegun⟩
  · obtain ⟨hreport, htimer⟩ := exec_endSwitch hst hs
    obtain ⟨e, rest, hl, rfl⟩ := list_of_topInput ht
    have hwanted := wantedEntry_unprotected hl hp
    rw [← shownProtected_passed hp (hs.trans ht.symm) hh] at hwanted
    refine ⟨fun x hx => ?_, fun hnone => ?_⟩
    · have hpresent : inputPresent s x.input = true := (List.find?_some hx :)
      have hx : (s.source.list.find? fun x => inputPresent s x.input) = some x := hx
      rw [hx, Option.getD_some] at hwanted
      have hbegun := endSwitch_switches h hwanted
        (by rw [hs]; exact fun he => not_present_of_absent ha hpresent (Option.some.inj he).symm)
      rw [hreport]
      exact ⟨hbegun, fun hw => by rw [htimer hw]; exact hbegun⟩
    · rw [hnone, Option.getD_none] at hwanted
      have hop := endSwitch_shown ((wantedInput_of_entry hwanted).trans hs.symm)
      have hdark : finish endSwitch s = .next (s.setSource { s.source with switch := none, state := .noSignal }) :=
        finish_shows h
          (hop.trans (judgeWith_dark ((shownPresent_some hs).trans ha) hh (hs.trans ht.symm) hp)) rfl rfl rfl
      exact ⟨hreport.trans hdark, fun hw => (htimer hw).trans hdark⟩
  · obtain ⟨hreport, htimer⟩ := exec_endSwitch hst hs
    have htop : topInput s ≠ some i := by
      rw [topInput_cons hl]
      exact fun he => hne (Option.some.inj he)
    have hprotected : shownProtected s = true := by
      refine shownProtected_switching hst ?_
      rw [hs, Bool.and_eq_false_iff]
      exact .inr (beq_eq_false_iff_ne.mpr htop.symm)
    have hwanted := wantedEntry_protected hl hp hs
    have hx : (s.source.list.find? fun x => inputPresent s x.input || x.input == i) = some x := hx
    rw [hx, Option.getD_some, ← hprotected] at hwanted
    refine ⟨fun hother => ?_, fun hsame => ?_⟩
    · rw [hreport]
      have hbegun := endSwitch_switches h hwanted (by rw [hs]; exact fun he => hother (Option.some.inj he).symm)
      exact ⟨hbegun, fun hw => by rw [htimer hw]; exact hbegun⟩
    · have hdone := finish_endSwitch_shown h ((wantedInput_of_entry hwanted).trans (congrArg some hsame)) hs hh
        fun he => absurd he htop
      have hkept : ({ s.source with hold := none, switch := none, state := .showing } : Source) =
          { s.source with switch := none, state := .showing } := by rw [← hh]
      rw [hkept] at hdone
      exact ⟨hreport.trans hdone, fun hw => (htimer hw).trans hdone⟩
  · have htop : topInput s ≠ some i := by
      rw [topInput_cons hl]
      exact fun he => hne (Option.some.inj he)
    intro next
    refine holdExpired_lower h hst hh hs htop (e := next) ?_ ?_
    · cases hp : s.source.topPassed with
      | true => rw [wantedEntry_unprotected hl hp]; exact congrArg some (if_pos hp).symm
      | false =>
        rw [wantedEntry_top false hl hp]
        exact congrArg some (if_neg (by rw [hp]; decide)).symm
    · change (if s.source.topPassed = true then _ else e).input ≠ i
      split
      · cases hx : s.source.list.find? fun x => inputPresent s x.input with
        | none => exact hne
        | some x =>
          have hpresent : inputPresent s x.input = true := (List.find?_some hx :)
          exact not_present_of_absent ha hpresent
      · exact hne
  · obtain ⟨i, hs⟩ := Option.ne_none_iff_exists'.mp hn
    have htop : topInput s = some i := ht.symm.trans hs
    have hi : inputPresent s i = false := (shownPresent_some hs).symm.trans ha
    cases hx : s.source.list.find? fun x => inputPresent s x.input with
    | none =>
      exact ⟨_, holdExpired_dark h hst hh hs htop hi hx, rfl, rfl, rfl, rfl, fun _ => ⟨rfl, rfl, rfl⟩, nofun, rfl, rfl,
        rfl, rfl, rfl⟩
    | some x =>
      obtain ⟨u, hu, hswitch, hlamp, hgroup, hlocks, hwear, hclaims⟩ := holdExpired_passes h hst hh hs htop hi hx
      obtain ⟨hlist, hpassed, hinputs, hshown, hstate, htimer, hhold, hsent⟩ := hswitch.shows
      refine ⟨u, hu, hpassed, hhold, hlist, hinputs, nofun, ?_, hlamp, hgroup, hlocks, hwear, hclaims⟩
      rintro y ⟨⟩
      exact ⟨hstate, hshown, htimer, hsent⟩

end Sys2Proof.Machine
end

section
/-! ## The form of the Lock Set (08, R140, R144 to R147, R151) -/

namespace Sys2Proof.Machine

variable {s u : State} {ls : List Lock} {l : Lock}

/-! ### What the form reads, and what touches nothing of it -/

/-- One lock a holder, each of its form, station locks apart (R140, R144). -/
structure LocksForm (ls : List Lock) : Prop where
  nodup : (ls.map fun l => l.holder).Nodup
  formed : ∀ l ∈ ls, lockFormed l = true
  apart : ∀ l ∈ ls, ∀ m ∈ ls, stationsApart l m = true

theorem LocksSafe.form (k : LocksSafe s) : LocksForm s.locks := ⟨k.1, k.2.1, k.2.2.1⟩

theorem LocksSafe.keySwitch (k : LocksSafe s) :
    (lockOf s.locks .keySwitch).isSome = true ↔ s.panel.switch.settled = some .locked := k.2.2.2

theorem LocksForm.safe (k : LocksForm s.locks)
    (h : (lockOf s.locks .keySwitch).isSome = true ↔ s.panel.switch.settled = some .locked) : LocksSafe s :=
  ⟨k.nodup, k.formed, k.apart, h⟩

/-- The Lock Set and the settled position of the key switch. -/
def lockView (s : State) : List Lock × Option KeyPosition := (s.locks, s.panel.switch.settled)

theorem LocksSafe.of_view (k : LocksSafe s) (h : lockView u = lockView s) : LocksSafe u := by
  obtain ⟨hlocks, hsettled⟩ := Prod.mk.inj h
  unfold LocksSafe
  rw [hlocks, hsettled]
  exact k

/-- An operation of the lamp, the locks or the group leaves the panel. -/
theorem lockView_of_outside (h : outside u = outside s) : lockView u = (u.locks, s.panel.switch.settled) := by
  unfold lockView
  rw [show u.panel = s.panel from (congrArg State.panel h :)]

@[simp] theorem lockView_setStart (s : State) (x : StartUp) : lockView (s.setStart x) = lockView s := rfl
@[simp] theorem lockView_setSettings (s : State) (x : Settings) : lockView (s.setSettings x) = lockView s := rfl
@[simp] theorem lockView_setPins (s : State) (x : Pins) : lockView (s.setPins x) = lockView s := rfl
@[simp] theorem lockView_setLamp (s : State) (x : Lamp) : lockView (s.setLamp x) = lockView s := rfl
@[simp] theorem lockView_setWear (s : State) (x : Wear) : lockView (s.setWear x) = lockView s := rfl
@[simp] theorem lockView_setGeometry (s : State) (x : Geometry) : lockView (s.setGeometry x) = lockView s := rfl
@[simp] theorem lockView_setPeers (s : State) (x : List Peer) : lockView (s.setPeers x) = lockView s := rfl
@[simp] theorem lockView_setListen (s : State) (x : Listen) : lockView (s.setListen x) = lockView s := rfl
@[simp] theorem lockView_setClaims (s : State) (x : List ClaimEntry) : lockView (s.setClaims x) = lockView s := rfl
@[simp] theorem lockView_setGroup (s : State) (x : Group) : lockView (s.setGroup x) = lockView s := rfl
@[simp] theorem lockView_setSource (s : State) (x : Source) : lockView (s.setSource x) = lockView s := rfl
@[simp] theorem lockView_setClock (s : State) (x : Clock) : lockView (s.setClock x) = lockView s := rfl
@[simp] theorem lockView_setSchedule (s : State) (x : Schedule) : lockView (s.setSchedule x) = lockView s := rfl
@[simp] theorem lockView_setLine (s : State) (x : HallLine) : lockView (s.setLine x) = lockView s := rfl
@[simp] theorem lockView_setSerial (s : State) (x : List Host.Cell) : lockView (s.setSerial x) = lockView s := rfl
@[simp] theorem lockView_setScalerLink (s : State) (x : List ScalerMessage) :
    lockView (s.setScalerLink x) = lockView s := rfl

@[simp] theorem lockView_send (p : Payload) (s : State) : lockView (send p s) = lockView s := rfl
@[simp] theorem lockView_setRelight (b : Bool) (s : State) : lockView (setRelight b s) = lockView s := rfl
@[simp] theorem lockView_clearSelection (s : State) : lockView (clearSelection s) = lockView s := rfl
@[simp] theorem lockView_releaseClaim (s : State) : lockView (releaseClaim s) = lockView s := rfl
@[simp] theorem lockView_enterWaiting (s : State) : lockView (enterWaiting s) = lockView s := rfl
@[simp] theorem lockView_startWrite (s : State) : lockView (startWrite s) = lockView s := by
  rw [lockView_of_outside (outside_startWrite s), startWrite_locks]; rfl
@[simp] theorem lockView_requestWrite (s : State) : lockView (requestWrite s) = lockView s := by
  rw [lockView_of_outside (outside_requestWrite s), requestWrite_locks]; rfl
@[simp] theorem lockView_extinguish (n : LampState) (s : State) : lockView (extinguish n s) = lockView s := by
  rw [lockView_of_outside (outside_extinguish n s), extinguish_locks]; rfl
@[simp] theorem lockView_unwanted (s : State) : lockView (unwanted s) = lockView s := by
  rw [lockView_of_outside (outside_unwanted s), unwanted_locks]; rfl
@[simp] theorem lockView_startTest (s : State) : lockView (startTest s) = lockView s := by
  rw [lockView_of_outside (outside_startTest s), startTest_locks]; rfl
@[simp] theorem lockView_nowWanted (s : State) : lockView (nowWanted s) = lockView s := by
  rw [lockView_of_outside (outside_nowWanted s), nowWanted_locks]; rfl
@[simp] theorem lockView_onDecision (b : Bool) (s : State) : lockView (onDecision b s) = lockView s := by
  rw [lockView_of_outside (outside_onDecision b s), onDecision_locks]; rfl
@[simp] theorem lockView_electIfAvailable (b s : State) : lockView (electIfAvailable b s) = lockView s := by
  rw [lockView_of_outside (outside_electIfAvailable b s), electIfAvailable_locks]; rfl
@[simp] theorem lockView_groupOn (c : OnCause) (s : State) : lockView (groupOn c s) = lockView s := by
  rw [lockView_of_outside (outside_groupOn c s), groupOn_locks]; rfl
@[simp] theorem lockView_groupOff (s : State) : lockView (groupOff s) = lockView s := by
  rw [lockView_of_outside (outside_groupOff s), groupOff_locks]; rfl
@[simp] theorem lockView_intoFault (s : State) : lockView (intoFault s) = lockView s := rfl
@[simp] theorem lockView_latchFault (f : LampFault) (s : State) : lockView (latchFault f s) = lockView s := by
  unfold latchFault; simp only; split <;> simp
@[simp] theorem lockView_failAttempt (s : State) : lockView (failAttempt s) = lockView s := by
  unfold failAttempt; simp only; split <;> simp
@[simp] theorem lockView_tryClear (s : State) : lockView (tryClear s).1 = lockView s := by
  unfold tryClear clearFaults; simp only; (repeat' split) <;> simp
@[simp] theorem lockView_reserveForHead (s : State) : lockView (reserveForHead s) = lockView s := by
  unfold reserveForHead; (repeat' split) <;> rfl
@[simp] theorem lockView_linkProgress (s : State) : lockView (linkProgress s) = lockView s := by
  unfold linkProgress sendRecords; split <;> rfl

/-! ### Lamp Control (01), Lamp Wear (02), Geometry Engine (03) -/

@[simp] theorem lockView_litSenseArrives (s : State) : lockView (litSenseArrives s) = lockView s := by
  unfold litSenseArrives enterWarming; simp only; split <;> simp
@[simp] theorem lockView_litSenseLost (s : State) : lockView (litSenseLost s) = lockView s := by
  unfold litSenseLost dropsOut; simp only; (repeat' split) <;> simp
@[simp] theorem lockView_litWaitExpired (s : State) : lockView (litWaitExpired s) = lockView s := by
  unfold litWaitExpired; split <;> simp
@[simp] theorem lockView_warmUpExpired (s : State) : lockView (warmUpExpired s) = lockView s := by
  unfold warmUpExpired; split <;> simp
@[simp] theorem lockView_rampOnce (s : State) : lockView (rampOnce s) = lockView s := by
  unfold rampOnce; split <;> simp
@[simp] theorem lockView_coolDownExpired (s : State) : lockView (coolDownExpired s) = lockView s := by
  unfold coolDownExpired; simp only; (repeat' split) <;> simp
@[simp] theorem lockView_restrikeExpired (s : State) : lockView (restrikeExpired s) = lockView s := by
  unfold restrikeExpired guardEndsCooling; simp only; (repeat' split) <;> simp
@[simp] theorem lockView_fanStalls (s : State) : lockView (fanStalls s) = lockView s := by
  unfold fanStalls; simp only; (repeat' split) <;> simp
@[simp] theorem lockView_tachoStalls (s : State) : lockView (tachoStalls s) = lockView s := by
  unfold tachoStalls; simp only; split <;> simp
@[simp] theorem lockView_supplyFails (s : State) : lockView (supplyFails s) = lockView s := by
  unfold supplyFails; simp only; split <;> simp
@[simp] theorem lockView_takeSample (x : Sensor) (s : State) : lockView (takeSample x s) = lockView s := by
  unfold takeSample; simp only; (repeat' split) <;> simp
@[simp] theorem lockView_reportLitSecond (s : State) : lockView (reportLitSecond s) = lockView s := by
  unfold reportLitSecond; simp only; (repeat' split) <;> simp
@[simp] theorem lockView_writeEnds (o : WriteOutcome) (s : State) : lockView (writeEnds o s) = lockView s := by
  unfold writeEnds; simp only; split <;> simp
@[simp] theorem lockView_writeFails (w : RecordWrite) (s : State) : lockView (writeFails w s) = lockView s := by
  unfold writeFails; split <;> simp
@[simp] theorem lockView_zoneHolds (bytes : List Byte) (s : State) : lockView (zoneHolds bytes s) = lockView s := by
  unfold zoneHolds; split <;> simp
@[simp] theorem lockView_readBackTaken (bytes : List Byte) (s : State) :
    lockView (readBackTaken bytes s) = lockView s := by
  unfold readBackTaken; simp only; (repeat' split) <;> simp
@[simp] theorem lockView_writeTimesOut (bytes : List Byte) (s : State) :
    lockView (writeTimesOut bytes s) = lockView s := by
  unfold writeTimesOut; split <;> simp
@[simp] theorem lockView_sendSwapRequest (s : State) : lockView (sendSwapRequest s) = lockView s := by
  unfold sendSwapRequest; split <;> rfl
@[simp] theorem lockView_computationEnds (s : State) : lockView (computationEnds s) = lockView s := by
  unfold computationEnds; split <;> rfl
@[simp] theorem lockView_lastRecordSent (s : State) : lockView (lastRecordSent s) = lockView s := by
  unfold lastRecordSent; split <;> rfl
@[simp] theorem lockView_takeAcknowledgement (i n : Nat) (s : State) :
    lockView (takeAcknowledgement i n s) = lockView s := by
  unfold takeAcknowledgement; split <;> simp
@[simp] theorem lockView_attemptFails (s : State) : lockView (attemptFails s) = lockView s := by
  unfold attemptFails; simp only; split <;> simp
@[simp] theorem lockView_takeRefusal (i n : Nat) (s : State) : lockView (takeRefusal i n s) = lockView s := by
  unfold takeRefusal; split <;> simp
@[simp] theorem lockView_loadWaitExpired (s : State) : lockView (loadWaitExpired s) = lockView s := by
  unfold loadWaitExpired; split <;> simp
@[simp] theorem lockView_takeSwapReport (i : Nat) (s : State) : lockView (takeSwapReport i s) = lockView s := by
  unfold takeSwapReport; simp only; (repeat' split) <;> simp
@[simp] theorem lockView_repeatSwapRequest (s : State) : lockView (repeatSwapRequest s) = lockView s := by
  unfold repeatSwapRequest; split <;> simp
@[simp] theorem lockView_swapWaitEnds (s : State) : lockView (swapWaitEnds s) = lockView s := by
  unfold swapWaitEnds; split <;> simp

/-! ### Peer View (04), Power Circuits (05), Screen Groups (06) -/

@[simp] theorem lockView_beginFresh (s : State) : lockView (beginFresh s) = lockView s := rfl
@[simp] theorem lockView_beaconEnded (s : State) : lockView (beaconEnded s) = lockView s := by
  unfold beaconEnded; simp only; split <;> rfl
@[simp] theorem lockView_periodicBeacon (s : State) : lockView (periodicBeacon s) = lockView s := by
  unfold periodicBeacon; split <;> rfl
@[simp] theorem lockView_freshEnds (s : State) : lockView (freshEnds s) = lockView s := by
  unfold freshEnds; simp only; split <;> simp
@[simp] theorem lockView_duplicateEnds (s : State) : lockView (duplicateEnds s) = lockView s := by
  unfold duplicateEnds; simp only; split <;> simp
@[simp] theorem lockView_takeBeacon (t : Telegram) (s : State) : lockView (takeBeacon t s) = lockView s := by
  unfold takeBeacon foreignBeacon; simp only; (repeat' split) <;> simp
@[simp] theorem lockView_claimAged (n : Nat) (s : State) : lockView (claimAged n s) = lockView s := by
  unfold claimAged; split <;> simp
@[simp] theorem lockView_renewClaim (s : State) : lockView (renewClaim s) = lockView s := by
  unfold renewClaim; simp only; (repeat' split) <;> simp
@[simp] theorem lockView_ownClaimEcho (s : State) : lockView (ownClaimEcho s) = lockView s := by
  unfold ownClaimEcho; (repeat' split) <;> simp
@[simp] theorem lockView_takeClaim (t : Telegram) (s : State) : lockView (takeClaim t s) = lockView s := by
  unfold takeClaim; split <;> simp
@[simp] theorem lockView_takeRelease (t : Telegram) (s : State) : lockView (takeRelease t s) = lockView s := by
  unfold takeRelease; split <;> simp
@[simp] theorem lockView_growthStep (s : State) : lockView (growthStep s) = lockView s := by
  unfold growthStep; simp only; (repeat' split) <;> simp

/-! ### Source Selection (07), keys (08) -/

@[simp] theorem lockView_sendSelect (i : Option Input) (o : Option Origin) (s : State) :
    lockView (sendSelect i o s) = lockView s := by
  unfold sendSelect tellScaler; simp
@[simp] theorem lockView_beginSwitch (i : Option Input) (s : State) : lockView (beginSwitch i s) = lockView s := by
  unfold beginSwitch; simp
@[simp] theorem lockView_judgeWith (i : Option Input) (s : State) : lockView (judgeWith i s) = lockView s := by
  unfold judgeWith; (repeat' split) <;> simp
@[simp] theorem lockView_judgeSource (s : State) : lockView (judgeSource s) = lockView s := by
  unfold judgeSource; split <;> simp
@[simp] theorem lockView_push (i : Input) (o : Origin) (s : State) : lockView (push i o s) = lockView s := by
  unfold push; simp only; (repeat' split) <;> simp
@[simp] theorem lockView_startSelector (s : State) : lockView (startSelector s) = lockView s := by
  unfold startSelector; split <;> simp
@[simp] theorem lockView_signalWake (s : State) : lockView (signalWake s) = lockView s := by
  unfold signalWake; (repeat' split) <;> simp
@[simp] theorem lockView_idleOff (s : State) : lockView (idleOff s) = lockView s := by
  unfold idleOff; (repeat' split) <;> simp
@[simp] theorem lockView_samplePresence (lines : Six Bool) (s : State) :
    lockView (samplePresence lines s) = lockView s := by
  unfold samplePresence; simp only; (repeat' split) <;> simp
@[simp] theorem lockView_takeLockReport (i : Input) (s : State) : lockView (takeLockReport i s) = lockView s := by
  unfold takeLockReport endSwitch; split <;> simp
@[simp] theorem lockView_switchExpired (s : State) : lockView (switchExpired s) = lockView s := by
  unfold switchExpired endSwitch; split <;> simp
@[simp] theorem lockView_holdExpired (s : State) : lockView (holdExpired s) = lockView s := by
  unfold holdExpired; split <;> simp
@[simp] theorem lockView_idleExpired (s : State) : lockView (idleExpired s) = lockView s := by
  unfold idleExpired; split <;> simp
@[simp] theorem lockView_pressPower (s : State) : lockView (pressPower s) = lockView s := by
  unfold pressPower powerInService powerForGroup; (repeat' split) <;> simp
@[simp] theorem lockView_pressSource (s : State) : lockView (pressSource s) = lockView s := by
  unfold pressSource; split <;> simp
@[simp] theorem lockView_pressKeystone (n : Int) (s : State) : lockView (pressKeystone n s) = lockView s := by
  unfold pressKeystone; split <;> rfl
@[simp] theorem lockView_pressClear (s : State) : lockView (pressClear s) = lockView s := by
  unfold pressClear; split <;> simp

/-! ### The schedule's enterings (09), the hall line (10), start-up (11) -/

@[simp] theorem lockView_enterEffective (x : Option Slot) (s : State) :
    lockView (enterEffective x s) = lockView s := by
  unfold enterEffective; simp only; (repeat' split) <;> simp
@[simp] theorem lockView_enterOn (eff on : Option Slot) (s : State) : lockView (enterOn eff on s) = lockView s := by
  unfold enterOn leaveSlot; simp only; (repeat' split) <;> simp
@[simp] theorem lockView_enterAgain (x : Option Slot) (s : State) : lockView (enterAgain x s) = lockView s := by
  unfold enterAgain; split <;> simp
@[simp] theorem lockView_onAgain (s : State) : lockView (onAgain s) = lockView s := by
  unfold onAgain; split <;> simp
@[simp] theorem lockView_sureExpired (s : State) : lockView (sureExpired s) = lockView s := by
  unfold sureExpired; split <;> simp
@[simp] theorem lockView_resetLamp (s : State) : lockView (resetLamp s) = lockView s := by
  unfold resetLamp; simp only; (repeat' split) <;> simp
@[simp] theorem lockView_resetSelector (s : State) : lockView (resetSelector s) = lockView s := by
  unfold resetSelector; simp
@[simp] theorem lockView_resetPeers (s : State) : lockView (resetPeers s) = lockView s := rfl
@[simp] theorem lockView_hear (x : LineSignal) (s : State) : lockView (hear x s) = lockView s := rfl
@[simp] theorem lockView_beginSending (n : Nat) (s : State) : lockView (beginSending n s) = lockView s := by
  unfold beginSending; simp only; (repeat' split) <;> simp
@[simp] theorem lockView_enableReceiver (s : State) : lockView (enableReceiver s) = lockView s := by
  unfold enableReceiver; simp only; split <;> simp
@[simp] theorem lockView_secondPassOnce (silent : List Nat) (s : State) :
    lockView (secondPassOnce silent s) = lockView s := by
  unfold secondPassOnce secondPass; split <;> simp

end Sys2Proof.Machine
end

section
/-! ## The operations of the Lock Set keep its form (08, R143 to R149, R151, R153) -/

namespace Sys2Proof.Machine

variable {s u : State} {ls : List Lock} {l : Lock} {h : Holder}

/-! ### A lock added, replaced or removed -/

theorem scopesMeet_comm (x y : Scopes) : scopesMeet x y = scopesMeet y x := by
  simp only [scopesMeet, Bool.and_comm]

theorem stationsApart_comm (l m : Lock) : stationsApart l m = stationsApart m l := by
  unfold stationsApart
  cases l.holder with
  | station a =>
    cases m.holder with
    | station c => simp only; rw [scopesMeet_comm, Bool.beq_comm]
    | keySwitch | wear | schedule => rfl
  | keySwitch | wear | schedule => cases m.holder <;> rfl

theorem mem_withoutHolder {m : Lock} : m ∈ withoutHolder h ls ↔ m ∈ ls ∧ m.holder ≠ h := by
  simp [withoutHolder]

theorem LocksForm.without (k : LocksForm ls) (h : Holder) : LocksForm (withoutHolder h ls) where
  nodup := k.nodup.sublist (List.filter_sublist.map _)
  formed m hm := k.formed m (mem_withoutHolder.mp hm).1
  apart m hm n hn := k.apart m (mem_withoutHolder.mp hm).1 n (mem_withoutHolder.mp hn).1

/-- A formed lock that is apart from the other holders' takes the place of its holder's (R144). -/
theorem LocksForm.replace (k : LocksForm ls) (hformed : lockFormed l = true)
    (hapart : ∀ m ∈ ls, m.holder ≠ l.holder → stationsApart l m = true) :
    LocksForm (withoutHolder l.holder ls ++ [l]) := by
  have hrest := k.without l.holder
  have hself : stationsApart l l = true := by unfold stationsApart; cases l.holder <;> simp
  have hother (m : Lock) (hm : m ∈ withoutHolder l.holder ls) : stationsApart l m = true :=
    hapart m (mem_withoutHolder.mp hm).1 (mem_withoutHolder.mp hm).2
  refine ⟨?_, ?_, ?_⟩
  · rw [List.map_append]
    refine List.Nodup.append hrest.nodup (List.nodup_singleton _) ?_
    simp only [List.map_cons, List.map_nil, List.disjoint_singleton]
    intro hmem
    obtain ⟨m, hm, hholder⟩ := List.mem_map.mp hmem
    exact (mem_withoutHolder.mp hm).2 hholder
  · simp only [List.forall_mem_append, List.forall_mem_singleton]
    exact ⟨hrest.formed, hformed⟩
  · simp only [List.forall_mem_append, List.forall_mem_singleton]
    exact ⟨fun m hm => ⟨hrest.apart m hm, stationsApart_comm l m ▸ hother m hm⟩, hother, hself⟩

theorem LocksSafe.addLock (k : LocksSafe s) (hkey : l.holder ≠ .keySwitch) (hformed : lockFormed l = true)
    (hapart : ∀ m ∈ s.locks, m.holder ≠ l.holder → stationsApart l m = true) : LocksSafe (addLock l s) := by
  by_cases hin : s.locks.contains l = true
  · unfold Machine.addLock
    rw [if_pos hin]
    exact k
  · have hlocks := addLock_locks l s
    rw [if_neg hin] at hlocks
    have hpanel : (Machine.addLock l s).panel = s.panel := (congrArg State.panel (outside_addLock l s) :)
    refine LocksForm.safe ?_ ?_
    · rw [hlocks]; exact k.form.replace hformed hapart
    · rw [hlocks, hpanel, lockOf_replaced hkey.symm]; exact k.keySwitch

theorem lockOf_without_other {g : Holder} (hne : h ≠ g) (ls : List Lock) :
    lockOf (withoutHolder h ls) g = lockOf ls g := by
  unfold lockOf withoutHolder
  rw [List.find?_filter]
  congr 1
  funext m
  by_cases hm : m.holder = g <;> simp [hm, hne.symm]

theorem LocksSafe.removeLock (k : LocksSafe s) (hne : h ≠ .keySwitch) : LocksSafe (removeLock h s) := by
  have hpanel : (Machine.removeLock h s).panel = s.panel := (congrArg State.panel (outside_removeLock h s) :)
  refine LocksForm.safe ?_ ?_
  · rw [removeLock_locks]; exact k.form.without h
  · rw [removeLock_locks, hpanel, lockOf_without_other hne]; exact k.keySwitch

/-- The life limit adds no lock but a formed WEAR lock (R39, R144). -/
theorem LocksSafe.lifeJudge (k : LocksSafe s) : LocksSafe (lifeJudge s) := by
  unfold Machine.lifeJudge
  simp only
  (repeat' split)
  · exact k
  · exact k
  · exact LocksSafe.addLock (s := s.setWear _) k nofun rfl fun _ _ _ => rfl
  · exact k

theorem LocksSafe.settle (k : LocksSafe s) (b : State) : LocksSafe (settle b s) := by
  have hjudge (x : State) : lockView (judgeGroup x) = lockView x := by
    rw [lockView_of_outside (outside_judgeGroup x), (judgeGroup_rest x).1]; rfl
  have hstrike (x : State) : lockView (strikeTest x) = lockView x := by
    rw [lockView_of_outside (outside_strikeTest x), strikeTest_locks]; rfl
  have hwithdraw (x : State) : lockView (withdrawTest b x) = lockView x := by
    rw [lockView_of_outside (outside_withdrawTest b x), (withdrawTest_locks b x).1]; rfl
  have hlast (x : State) : lockView (beaconJudge b (idleJudge (fanStallJudge (retarget x)))) = lockView x := by
    rw [beaconJudge_eq, retarget_eq]; rfl
  have hfirst := (k.lifeJudge.of_view (lockView_startTest _)).of_view (hstrike _)
  refine hfirst.lifeJudge.of_view ?_
  unfold Machine.settle
  simp only [hlast, hjudge, hwithdraw]

/-! ### The minutes of a timed lock (R147) -/

theorem lowerMinutes_holder (n : Nat) (l : Lock) : (lowerMinutes n l).holder = l.holder := by
  unfold lowerMinutes; split <;> rfl

theorem lowerMinutes_scopes (n : Nat) (l : Lock) : (lowerMinutes n l).scopes = l.scopes := by
  unfold lowerMinutes; split <;> rfl

theorem lockOf_lowerMinutes (n : Nat) (ls : List Lock) :
    lockOf (ls.map (lowerMinutes n)) h = (lockOf ls h).map (lowerMinutes n) := by
  unfold lockOf
  rw [List.find?_map]
  congr 2
  funext l
  simp only [Function.comp, lowerMinutes_holder]

theorem mem_of_lockOf (hl : lockOf ls h = some l) : l ∈ ls ∧ l.holder = h :=
  ⟨List.mem_of_find?_eq_some hl, by simpa using List.find?_some hl⟩

/-- A holder has one lock (R140). -/
theorem LocksForm.lockOf (k : LocksForm ls) (hl : l ∈ ls) : lockOf ls l.holder = some l := by
  cases hfind : Machine.lockOf ls l.holder with
  | none => exact absurd (List.find?_eq_none.mp hfind l hl) (by simp)
  | some m =>
    obtain ⟨hm, hholder⟩ := mem_of_lockOf hfind
    rw [List.inj_on_of_nodup_map k.nodup hm hl hholder]

/-- A lock of more than one minute left loses one and stays in form (R147). -/
theorem LocksForm.lowerMinutes {n m : Nat} (k : LocksForm ls) (hl : Machine.lockOf ls (.station n) = some l)
    (hm : l.minutes = some m) (htwo : 2 ≤ m) : LocksForm (ls.map (lowerMinutes n)) := by
  refine ⟨?_, ?_, ?_⟩
  · rw [List.map_map, show (fun l => l.holder) ∘ Machine.lowerMinutes n = fun l => l.holder from
      funext (lowerMinutes_holder n)]
    exact k.nodup
  · rw [List.forall_mem_map]
    intro x hx
    have hformed := k.formed x hx
    unfold Machine.lowerMinutes
    split
    · next hholder =>
      obtain rfl : x = l := Option.some.inj ((hholder ▸ k.lockOf hx).symm.trans hl)
      simp only [lockFormed, hholder, hm, Bool.and_eq_true, decide_eq_true_eq, Option.map_some] at hformed ⊢
      obtain ⟨hrest, -, hmax⟩ := hformed
      exact ⟨hrest, by omega, by omega⟩
    · exact hformed
  · simp only [List.forall_mem_map, stationsApart, lowerMinutes_holder, lowerMinutes_scopes]
    exact k.apart

theorem LocksSafe.lockMinute (k : LocksSafe s) (n : Nat) : LocksSafe (lockMinute n s) := by
  unfold Machine.lockMinute
  split
  · next l hl =>
    split
    · next m hm =>
      split
      · exact k.removeLock nofun
      · refine LocksForm.safe (k.form.lowerMinutes hl hm (by omega)) ?_
        rw [State.setLocks_locks, lockOf_lowerMinutes, Option.isSome_map]
        exact k.keySwitch
    · exact k
  · exact k

/-! ### A station goes LOST (R71, R149) -/

theorem LocksSafe.lose (k : LocksSafe s) (n : Nat) : LocksSafe (lose n s) := by
  rw [lose_eq]
  exact LocksSafe.removeLock (s := s.setPeers _) k nofun

theorem LocksSafe.loseAll (k : LocksSafe s) (ns : List Nat) : LocksSafe (loseAll ns s) := by
  induction ns generalizing s with
  | nil => exact k
  | cons n rest ih => exact ih (k.lose n)

theorem LocksSafe.confirmExpired (k : LocksSafe s) (n : Nat) : LocksSafe (confirmExpired n s) := by
  unfold Machine.confirmExpired
  split
  · split
    · exact k.lose n
    · exact k
  · exact k

theorem LocksSafe.presenceExpired (k : LocksSafe s) (n : Nat) : LocksSafe (presenceExpired n s) := by
  unfold Machine.presenceExpired
  split
  · split
    · split
      · exact k.lose n
      · exact k
    · exact k
  · exact k

theorem LocksSafe.qualityMinute (k : LocksSafe s) : LocksSafe (qualityMinute s) := by
  unfold Machine.qualityMinute
  simp only
  (repeat' split)
  · refine LocksSafe.loseAll ?_ _; exact k
  · exact k
  · exact k

/-! ### The key switch (R150, R151) -/

/-- The KEYSWITCH lock (R144). -/
def keyLock : Lock := ⟨.keySwitch, scopesExam, none⟩

/-- The locks once the key switch has settled in a position it was not settled in (R151). -/
def locksAt (p : KeyPosition) (ls : List Lock) : List Lock :=
  match p with
  | .locked => withoutHolder .keySwitch ls ++ [keyLock]
  | .normal => withoutHolder .keySwitch ls
  | .service => withoutHolder .keySwitch ls

theorem withoutHolder_none (hn : lockOf ls h = none) : withoutHolder h ls = ls := by
  refine List.filter_eq_self.mpr fun m hm => ?_
  simpa using List.find?_eq_none.mp hn m hm

theorem LocksForm.at (k : LocksForm ls) (p : KeyPosition) : LocksForm (locksAt p ls) := by
  cases p with
  | normal | service => exact k.without _
  | locked => exact k.replace (l := keyLock) rfl fun _ _ _ => rfl

theorem lockOf_locksAt (p : KeyPosition) (ls : List Lock) :
    (lockOf (locksAt p ls) .keySwitch).isSome = true ↔ some p = some .locked := by
  have hnone := lockOf_withoutHolder .keySwitch ls
  cases p with
  | normal | service => simp [locksAt, hnone]
  | locked =>
    simp only [locksAt, iff_true]
    exact List.find?_isSome.mpr ⟨keyLock, by simp, rfl⟩

@[simp] theorem lockView_lampIntoService (s : State) : lockView (lampIntoService s) = lockView s := by
  unfold lampIntoService; simp only; split <;> simp

@[simp] theorem lockView_applyDecision (s : State) : lockView (applyDecision s) = lockView s := by
  unfold applyDecision; split <;> simp

/-- Leaving a position removes the KEYSWITCH lock, which stands at LOCKED alone (R151). -/
theorem leavePosition_view (k : LocksSafe s) (b : State) (p : KeyPosition) :
    lockView (leavePosition s.panel.switch.settled b (setPosition p s)) =
      (withoutHolder .keySwitch s.locks, some p) := by
  have hview : lockView (setPosition p s) = (s.locks, some p) := rfl
  have hother (hne : s.panel.switch.settled ≠ some .locked) : withoutHolder .keySwitch s.locks = s.locks := by
    refine withoutHolder_none ?_
    rw [← Option.not_isSome_iff_eq_none, k.keySwitch]
    exact hne
  unfold leavePosition
  split
  · rw [lockView_of_outside (outside_removeLock .keySwitch _), removeLock_locks]; rfl
  · next e => rw [hother (by rw [e]; nofun), lockView_applyDecision, lockView_electIfAvailable, hview]
  · next e => rw [hother (by rw [e]; nofun), hview]
  · next e => rw [hother (by rw [e]; nofun), hview]

theorem enterPosition_locks (p : KeyPosition) (hs : lockOf s.locks .keySwitch = none) :
    (enterPosition p s).locks = locksAt p s.locks := by
  have hnone := withoutHolder_none hs
  cases p with
  | normal => exact hnone.symm
  | service =>
    change (lampIntoService s).locks = withoutHolder .keySwitch s.locks
    rw [hnone]
    exact congrArg Prod.fst (lockView_lampIntoService s)
  | locked =>
    have hnew : ¬s.locks.contains keyLock = true := by
      intro hin
      have := List.find?_eq_none.mp hs keyLock (by simpa using hin)
      simp [keyLock] at this
    change (addLock keyLock s).locks = _
    rw [addLock_locks, if_neg hnew]
    rfl

theorem enterPosition_outside (p : KeyPosition) (s : State) : outside (enterPosition p s) = outside s := by
  cases p with
  | normal => rfl
  | locked => exact outside_addLock _ s
  | service =>
    change outside (lampIntoService s) = outside s
    unfold lampIntoService
    simp only
    split <;> simp

/-- The locks and the position when the key switch settles anew (R151). -/
theorem moved_view (k : LocksSafe s) (b : State) (p : KeyPosition) :
    lockView (enterPosition p (leavePosition s.panel.switch.settled b (setPosition p s))) =
      (locksAt p s.locks, some p) := by
  have hleft := leavePosition_view k b p
  obtain ⟨hlocks, hsettled⟩ := Prod.mk.inj hleft
  have hnone := lockOf_withoutHolder .keySwitch s.locks
  rw [lockView_of_outside (enterPosition_outside p _), enterPosition_locks p (by rw [hlocks]; exact hnone), hlocks,
    hsettled]
  have hidem : withoutHolder .keySwitch (withoutHolder .keySwitch s.locks) = withoutHolder .keySwitch s.locks :=
    withoutHolder_none hnone
  cases p <;> simp only [locksAt, hidem]

theorem LocksSafe.settlePosition (k : LocksSafe s) (p : KeyPosition) : LocksSafe (settlePosition p s) := by
  unfold Machine.settlePosition
  simp only
  split
  · exact k
  · refine LocksSafe.settle ?_ s
    obtain ⟨hlocks, hsettled⟩ := Prod.mk.inj (moved_view k s p)
    refine LocksForm.safe ?_ ?_
    · rw [hlocks]; exact k.form.at p
    · rw [hlocks, hsettled]; exact lockOf_locksAt p s.locks

theorem LocksSafe.sampleSwitch (samples : List KeyReading) (k : LocksSafe s) : LocksSafe (sampleSwitch samples s) := by
  induction samples generalizing s with
  | nil => exact k
  | cons r rest ih =>
    have hsettled : (switchSample s.panel.switch r).1.settled = s.panel.switch.settled := by
      unfold switchSample; split <;> rfl
    have hk : LocksSafe (s.setPanel { s.panel with switch := (switchSample s.panel.switch r).1 }) :=
      k.of_view (by simp only [lockView, State.setPanel_locks, State.setPanel_panel, hsettled])
    unfold Machine.sampleSwitch
    refine ih ?_
    split
    · exact hk.settlePosition _
    · exact hk

/-! ### The keypad (R142) -/

theorem LocksSafe.whenSettled (k : LocksSafe s) {press : State → State}
    (hp : ∀ s, LocksSafe s → LocksSafe (press s)) : LocksSafe (whenSettled press s) := by
  unfold Machine.whenSettled
  split
  · exact (hp s k).settle s
  · exact k

theorem LocksSafe.sampleKey {get : Panel → Key} {put : Panel → Key → Panel} {press : State → State}
    (hput : ∀ p k, (put p k).switch = p.switch) (hp : ∀ s, LocksSafe s → LocksSafe (press s)) (samples : List Bool)
    (k : LocksSafe s) : LocksSafe (sampleKey get put press samples s) := by
  induction samples generalizing s with
  | nil => exact k
  | cons x rest ih =>
    have hk : LocksSafe (s.setPanel (put s.panel (keySample (get s.panel) x).1)) :=
      k.of_view (by simp only [lockView, State.setPanel_locks, State.setPanel_panel, hput])
    unfold Machine.sampleKey
    refine ih ?_
    split
    · exact hk.whenSettled hp
    · exact hk

end Sys2Proof.Machine
end

section
/-! ## Every step keeps the form of the Lock Set (08, R140, R144 to R151) -/

namespace Sys2Proof.Machine

variable {s u : State}

/-! ### Clock and Room Schedule (09) -/

/-- The SCHEDULE lock of an EXAM or a CLOSED slot has its form (R144). -/
theorem lockFormed_wanted {x : Option Slot} {sc : Scopes} (h : lockWanted x = some sc) :
    lockFormed ⟨.schedule, sc, none⟩ = true := by
  unfold lockWanted at h
  split at h
  · cases h
  · split at h <;> cases h <;> rfl

theorem LocksSafe.scheduleLock (k : LocksSafe s) (x : Option Slot) : LocksSafe (scheduleLock x s) := by
  unfold Machine.scheduleLock
  split
  · next h => exact k.addLock nofun (lockFormed_wanted h) fun _ _ _ => rfl
  · exact k.removeLock nofun

theorem LocksSafe.lockAgain (k : LocksSafe s) (x : Option Slot) : LocksSafe (lockAgain x s) := by
  unfold Machine.lockAgain
  split
  · next h => exact k.addLock nofun (lockFormed_wanted h) fun _ _ _ => rfl
  · exact k

theorem LocksSafe.evaluate (k : LocksSafe s) : LocksSafe (evaluate s) := by
  refine (k.scheduleLock (effectiveSlot s.clock.minute s.schedule.slots)).of_view ?_
  unfold Machine.evaluate
  simp only
  (repeat' split) <;> simp

theorem LocksSafe.evaluateIfSure (k : LocksSafe s) : LocksSafe (evaluateIfSure s) := by
  unfold Machine.evaluateIfSure
  split
  · exact k.evaluate
  · exact k

theorem LocksSafe.setSlots (k : LocksSafe s) (xs : List Slot) : LocksSafe (setSlots xs s) := by
  unfold Machine.setSlots
  split
  · exact k
  · refine LocksSafe.evaluateIfSure ?_; exact k

theorem LocksSafe.advanceSecond (k : LocksSafe s) : LocksSafe (advanceSecond s) := by
  unfold Machine.advanceSecond
  split
  · refine LocksSafe.evaluateIfSure ?_; exact k
  · exact k

theorem LocksSafe.secondEnds (k : LocksSafe s) : LocksSafe (secondEnds s) := by
  unfold Machine.secondEnds
  split
  · exact k
  · exact k.advanceSecond

theorem LocksSafe.minuteEnds (k : LocksSafe s) : LocksSafe (minuteEnds s) := by
  unfold Machine.minuteEnds
  split
  · exact k.secondEnds
  · exact k

theorem LocksSafe.adopt (k : LocksSafe s) (minute seconds : Nat) : LocksSafe (adopt minute seconds s) := by
  have hstep : LocksSafe (stepClock minute seconds s) := by
    unfold stepClock
    refine LocksSafe.evaluate ?_; exact k
  unfold Machine.adopt
  simp only
  split
  · exact hstep
  · split
    · exact hstep
    · exact k

theorem LocksSafe.takeTime (k : LocksSafe s) (t : Telegram) : LocksSafe (takeTime t s) := by
  unfold Machine.takeTime
  split
  · simp only
    split
    · refine LocksSafe.adopt ?_ _ _; exact k
    · exact k
  · exact k

theorem LocksSafe.slewOnce (k : LocksSafe s) : LocksSafe (slewOnce s) := by
  unfold Machine.slewOnce
  split
  · split
    · refine LocksSafe.advanceSecond ?_; exact k
    · split <;> exact k
  · exact k

/-! ### The warm reset (R153, R167, R183) -/

/-- A warm reset leaves the KEYSWITCH lock alone, from the kept position (R153). -/
theorem locksSafe_resetLocks (s : State) : LocksSafe (resetLocks s) := by
  unfold resetLocks
  by_cases hk : s.panel.switch.settled = some .locked
  · rw [if_pos hk]
    refine LocksForm.safe ⟨List.nodup_singleton _, ?_, ?_⟩ (iff_of_true rfl hk)
    · exact List.forall_mem_singleton.mpr rfl
    · exact List.forall_mem_singleton.mpr (List.forall_mem_singleton.mpr rfl)
  · rw [if_neg hk]
    exact LocksForm.safe ⟨List.nodup_nil, nofun, nofun⟩ (iff_of_false nofun hk)

theorem LocksSafe.resetSchedule (k : LocksSafe s) : LocksSafe (resetSchedule s) := by
  cases hsure : s.clock.sure.isSome with
  | true =>
    unfold Machine.resetSchedule
    simp only [State.setClock_clock, hsure, if_true]
    refine LocksSafe.evaluate ?_; exact k
  | false =>
    rw [resetSchedule_unsure hsure]
    refine (LocksSafe.lockAgain (s := s.setClock { s.clock with source := none }) k s.schedule.heldEffective).of_view ?_
    simp

theorem locksSafe_warmReset (s : State) : LocksSafe (warmReset s) := by
  unfold warmReset
  simp only
  refine LocksSafe.resetSchedule (LocksSafe.of_view (locksSafe_resetLocks ?_) ?_)
  · exact resetLamp ((s.setLine (resetLine s.line)).setClaims [])
  · simp

/-! ### The Hall Line (10) -/

theorem LocksSafe.reserveForHead (k : LocksSafe s) : LocksSafe (reserveForHead s) :=
  k.of_view (lockView_reserveForHead s)

theorem LocksSafe.ownerDrop (k : LocksSafe s) (p : Payload) : LocksSafe (ownerDrop p s) := by
  unfold Machine.ownerDrop
  split
  · exact k.of_view (lockView_beaconEnded s)
  · exact k.reserveForHead
  · exact k.reserveForHead
  · exact k.reserveForHead
  · exact locksSafe_warmReset s
  · exact k.reserveForHead

theorem LocksSafe.ownerEcho (k : LocksSafe s) (p : Payload) : LocksSafe (ownerEcho p s) := by
  unfold Machine.ownerEcho
  split
  · exact k.of_view (lockView_beaconEnded s)
  · exact k.of_view (by simp)
  · exact k.reserveForHead
  · exact k.reserveForHead
  · exact locksSafe_warmReset s
  · exact k.reserveForHead

theorem LocksSafe.attemptFailed (k : LocksSafe s) : LocksSafe (attemptFailed s) := by
  unfold Machine.attemptFailed
  split
  · exact k
  · simp only
    split
    · refine LocksSafe.reserveForHead ?_; exact k
    · split
      · refine LocksSafe.ownerDrop ?_ _; exact k
      · exact k

theorem LocksSafe.lineLost (k : LocksSafe s) : LocksSafe (lineLost s) := by
  unfold Machine.lineLost
  split
  · simp only
    split
    · exact k
    · refine LocksSafe.attemptFailed ?_; exact k
  · exact k

theorem LocksSafe.lineFaulted (k : LocksSafe s) : LocksSafe (lineFaulted s) := by
  unfold Machine.lineFaulted
  split
  · simp only
    split
    · exact k
    · refine LocksSafe.attemptFailed ?_; exact k
  · exact k

theorem LocksSafe.sentComplete (k : LocksSafe s) : LocksSafe (sentComplete s) := by
  unfold Machine.sentComplete
  split
  · simp only
    split
    · exact k
    · split
      · refine LocksSafe.ownerEcho ?_ _; exact k
      · exact k
  · exact k

theorem LocksSafe.deliver (k : LocksSafe s) (t : Telegram) : LocksSafe (deliver t s) := by
  unfold Machine.deliver
  split
  · exact k
  · split
    · unfold handTo takeRequest
      (repeat' split)
      · exact k.of_view (lockView_takeBeacon t s)
      · exact k.of_view (lockView_takeClaim t s)
      · exact k.of_view (lockView_takeRelease t s)
      · exact k.takeTime t
      all_goals exact k
    · exact k

theorem LocksSafe.receiveAll (signals : List LineSignal) (k : LocksSafe s) : LocksSafe (receiveAll signals s) := by
  induction signals generalizing s with
  | nil => exact k
  | cons x rest ih =>
    have hk : LocksSafe (hear x s) := k
    unfold Machine.receiveAll receiveOne
    refine ih ?_
    split
    · exact (hk.deliver _).settle s
    · exact hk

theorem LocksSafe.receive (k : LocksSafe s) (signals : List LineSignal) : LocksSafe (receive signals s) := by
  unfold Machine.receive
  split
  · exact k.receiveAll signals
  · exact k

/-! ### Requests -/

/-- An owner keeps the form for the requests that wait, but one of origin 0, so the dispatch to it does (R175, R176). -/
theorem LocksSafe.dispatch (k : LocksSafe s) {accepts : Telegram → Bool} {owner : Owner}
    (ho : ∀ t ∈ s.line.requests, t.origin ≠ 0 → ∀ u, LocksSafe u → LocksSafe (owner t u).1) :
    LocksSafe (dispatch accepts owner s) := by
  unfold Machine.dispatch
  split
  · exact k
  · next t rest hrequests =>
    split
    · have hr : LocksSafe (if t.origin = 0 then (takeHead t rest s, none) else owner t (takeHead t rest s)).1 := by
        split
        · exact k
        · next horigin => exact ho t (by rw [hrequests]; exact List.mem_cons_self) horigin _ k
      simp only
      generalize (if t.origin = 0 then (takeHead t rest s, none) else owner t (takeHead t rest s)) = r at hr
      split
      · split
        · exact hr
        · refine LocksSafe.reserveForHead ?_; exact hr
      · exact hr
    · exact k

theorem lockView_ownGroupOn (t : Telegram) (s : State) : lockView (ownGroupOn t s).1 = lockView s := by
  unfold ownGroupOn refuse; (repeat' split) <;> simp
theorem lockView_ownGroupOff (t : Telegram) (s : State) : lockView (ownGroupOff t s).1 = lockView s := by
  unfold ownGroupOff refuse; (repeat' split) <;> simp
theorem lockView_ownLevel (t : Telegram) (s : State) : lockView (ownLevel t s).1 = lockView s := by
  unfold ownLevel refuse; (repeat' split) <;> rfl
theorem lockView_ownShow (t : Telegram) (s : State) : lockView (ownShow t s).1 = lockView s := by
  unfold ownShow refuse; (repeat' split) <;> simp
theorem lockView_ownCorners (t : Telegram) (s : State) : lockView (ownCorners t s).1 = lockView s := by
  unfold ownCorners refuse; (repeat' split) <;> rfl
theorem lockView_ownClearFault (t : Telegram) (s : State) : lockView (ownClearFault t s).1 = lockView s := by
  unfold ownClearFault refuse; split <;> simp

theorem scopesMeet_of_none {n : Nat} {x : Scopes} {ls : List Lock}
    (h : ¬(ls.any fun l => l.holder != .station n && scopesMeet l.scopes x) = true) :
    ∀ m ∈ ls, m.holder ≠ .station n → scopesMeet x m.scopes = false := by
  intro m hm hne
  rw [scopesMeet_comm, Bool.eq_false_iff]
  exact fun hmeet => h (List.any_eq_true.mpr ⟨m, hm, by simp [hne, hmeet]⟩)

/-- A LOCK adds a lock of its origin, of scopes without LAMP that no other holder covers, and of 720 minutes at most
(R145, R146). -/
theorem LocksSafe.takeLock (k : LocksSafe s) {n m : Nat} {x : Scopes} {c : Bool} (hn : 1 ≤ n) (hmax : n ≤ 31)
    (hx : x ≠ .empty) (hlamp : x.lamp = false) (hm : m ≤ 720) : LocksSafe (takeLock n x m c s).1 := by
  unfold Machine.takeLock
  split
  · exact k
  · next hfree =>
    refine k.addLock nofun ?_ fun l hl hne => ?_
    · have hscopes : (x != .empty) = true := by simpa using hx
      simp only [lockFormed, hn, hmax, hscopes, hlamp, decide_true, Bool.not_false, Bool.and_true, Bool.true_and]
      split
      · rfl
      · next r hr =>
        split at hr
        · cases hr
        · cases hr
          simp only [Bool.and_eq_true, decide_eq_true_eq]
          omega
    · have hmeet := scopesMeet_of_none hfree l hl hne
      unfold stationsApart
      split
      · simp only [hmeet, Bool.not_false, Bool.or_true]
      · rfl

theorem LocksSafe.ownLock (k : LocksSafe s) {t : Telegram} (hzero : t.origin ≠ 0) (hmax : t.origin.toNat ≤ 31) :
    LocksSafe (ownLock t s).1 := by
  have hone : 1 ≤ t.origin.toNat := Nat.one_le_iff_ne_zero.mpr fun h => hzero (BitVec.eq_of_toNat_eq h)
  unfold Machine.ownLock refuse
  simp only
  (repeat' split)
  · exact k
  · exact k
  · exact k
  · next hx => exact k.takeLock hone hmax hx rfl (Nat.min_le_right _ _)
  · exact k

theorem LocksSafe.ownUnlock (k : LocksSafe s) (t : Telegram) : LocksSafe (ownUnlock t s).1 := by
  unfold Machine.ownUnlock refuse
  (repeat' split)
  · exact k
  · exact k
  · exact k
  · exact k.removeLock nofun
  · exact k
  · exact k

theorem LocksSafe.ownSlotPut (k : LocksSafe s) (t : Telegram) : LocksSafe (ownSlotPut t s).1 := by
  unfold Machine.ownSlotPut refuse
  split
  · exact k.setSlots _
  · exact k

theorem LocksSafe.ownSlotDrop (k : LocksSafe s) (t : Telegram) : LocksSafe (ownSlotDrop t s).1 := by
  unfold Machine.ownSlotDrop refuse
  (repeat' split)
  · exact k
  · exact k.setSlots _
  · exact k
  · exact k

theorem LocksSafe.newLamp (k : LocksSafe s) : LocksSafe (newLamp s) := by
  unfold Machine.newLamp
  refine LocksSafe.of_view (LocksSafe.removeLock (h := .wear) ?_ nofun) (lockView_requestWrite _); exact k

theorem LocksSafe.ownLampNew (k : LocksSafe s) (t : Telegram) : LocksSafe (ownLampNew t s).1 := by
  unfold Machine.ownLampNew refuse
  (repeat' split)
  · exact k
  · exact k
  · exact k.newLamp
  · exact k

theorem LocksSafe.ownRestart (k : LocksSafe s) (t : Telegram) : LocksSafe (ownRestart t s).1 := by
  unfold Machine.ownRestart refuse
  (repeat' split)
  · exact k
  · exact k
  · exact locksSafe_warmReset _

/-! ### Every step -/

theorem locksSafe_poweredOn (p : PowerUp) (s : State) : LocksSafe (poweredOn p s) :=
  LocksForm.safe ⟨List.nodup_nil, nofun, nofun⟩ (iff_of_false nofun nofun)

theorem locksSafe_of_finish {op : State → State} {t : State} (hop : LocksSafe (op s)) (e : finish op s = .next t) :
    LocksSafe t := by
  obtain rfl := Host.Outcome.next.inj e
  exact hop.settle s

theorem locksSafe_of_view {op : State → State} {t : State} (k : LocksSafe s) (hop : lockView (op s) = lockView s)
    (e : finish op s = .next t) : LocksSafe t := locksSafe_of_finish (k.of_view hop) e

theorem locksSafe_of_owner {accepts : Telegram → Bool} {owner : Owner} {t : State} (k : LocksSafe s)
    (ho : ∀ t s, LocksSafe s → LocksSafe (owner t s).1) (e : finish (dispatch accepts owner) s = .next t) :
    LocksSafe t := locksSafe_of_finish (k.dispatch fun t _ _ => ho t) e

theorem locksSafe_of_query {accepts : Telegram → Bool} {read : Telegram → State → Option Result} {t : State}
    (k : LocksSafe s) (e : finish (dispatch accepts fun t s => queryForm t s (read t s)) s = .next t) : LocksSafe t :=
  locksSafe_of_owner k (fun t s k => by rw [queryForm_state]; exact k) e

theorem locksSafe_of_key {get : Panel → Key} {put : Panel → Key → Panel} {press : State → State} {samples : List Bool}
    {t : State} (k : LocksSafe s)
    (e : (Host.Outcome.next (sampleKey get put press samples s) : Host.Outcome State Fault Refusal) = .next t)
    (hput : ∀ p k, (put p k).switch = p.switch) (hp : ∀ s, lockView (press s) = lockView s) : LocksSafe t := by
  obtain rfl := Host.Outcome.next.inj e
  exact LocksSafe.sampleKey hput (fun s k => k.of_view (hp s)) samples k

/-- Every command keeps the form, the requests that wait being of stations (R173). -/
theorem exec_locksSafe {i : Instr} {t : State} (k : LocksSafe s) (horigin : ∀ t ∈ s.line.requests, t.origin.toNat ≤ 31)
    (e : exec i s = .next t) : LocksSafe t := by
  cases i with
  | powerOn p =>
    have e : execPowerOn p s = .next t := e
    unfold execPowerOn at e
    split at e
    · cases e
    · obtain rfl := Host.Outcome.next.inj e
      exact (locksSafe_poweredOn p s).settle _
  | loss => exact locksSafe_of_finish k.lineLost e
  | lineFault => exact locksSafe_of_finish k.lineFaulted e
  | ownEcho => exact locksSafe_of_finish k.sentComplete e
  | receiveError | requestArrival | answer | beacon | claim | release | time | telegramOfUnknownKind =>
    obtain rfl := Host.Outcome.next.inj e
    exact k.receive _
  | groupOn => exact locksSafe_of_owner k (fun t s k => k.of_view (lockView_ownGroupOn t s)) e
  | groupOff => exact locksSafe_of_owner k (fun t s k => k.of_view (lockView_ownGroupOff t s)) e
  | level => exact locksSafe_of_owner k (fun t s k => k.of_view (lockView_ownLevel t s)) e
  | showInput => exact locksSafe_of_owner k (fun t s k => k.of_view (lockView_ownShow t s)) e
  | corners => exact locksSafe_of_owner k (fun t s k => k.of_view (lockView_ownCorners t s)) e
  | lock => exact locksSafe_of_finish (k.dispatch fun t ht hzero _ k => k.ownLock hzero (horigin t ht)) e
  | unlock => exact locksSafe_of_owner k (fun t _ k => k.ownUnlock t) e
  | slotPut => exact locksSafe_of_owner k (fun t _ k => k.ownSlotPut t) e
  | slotDrop => exact locksSafe_of_owner k (fun t _ k => k.ownSlotDrop t) e
  | clearFault => exact locksSafe_of_owner k (fun t s k => k.of_view (lockView_ownClearFault t s)) e
  | lampNew => exact locksSafe_of_owner k (fun t _ k => k.ownLampNew t) e
  | restart => exact locksSafe_of_owner k (fun t _ k => k.ownRestart t) e
  | queryWear | queryLocks | querySlot | queryCorners => exact locksSafe_of_query k e
  | confirmWindowExpiry station => exact locksSafe_of_finish (k.confirmExpired station) e
  | presenceTimerExpiry station => exact locksSafe_of_finish (k.presenceExpired station) e
  | lineQualityMinute => exact locksSafe_of_finish k.qualityMinute e
  | keypadPower => exact locksSafe_of_key k e (fun _ _ => rfl) lockView_pressPower
  | keypadSource => exact locksSafe_of_key k e (fun _ _ => rfl) lockView_pressSource
  | keypadVPlus => exact locksSafe_of_key k e (fun _ _ => rfl) (lockView_pressKeystone 8)
  | keypadVMinus => exact locksSafe_of_key k e (fun _ _ => rfl) (lockView_pressKeystone (-8))
  | keypadClear => exact locksSafe_of_key k e (fun _ _ => rfl) lockView_pressClear
  | keySwitchSettle samples =>
    obtain rfl := Host.Outcome.next.inj e
    exact LocksSafe.sampleSwitch samples k
  | lockMinuteTimerExpiry station => exact locksSafe_of_finish (k.lockMinute station) e
  | clockSecond => exact locksSafe_of_finish k.secondEnds e
  | minuteChange => exact locksSafe_of_finish k.minuteEnds e
  | slewTimerExpiry => exact locksSafe_of_finish k.slewOnce e
  | retryGapExpiry | dropoutWindowExpiry | fanTestExpiry | tachometerRunning | supplyLowReleased
  | beaconSpacingExpiry =>
    exact locksSafe_of_view k rfl e
  | _ => exact locksSafe_of_view k (by simp) e

theorem Safe.locks (h : Safe s) : LocksSafe s := by
  obtain ⟨-, -, -, -, -, -, hlocks, -⟩ := h
  exact hlocks

theorem Safe.requestOrigins (h : Safe s) : ∀ t ∈ s.line.requests, t.origin.toNat ≤ 31 := by
  obtain ⟨-, -, -, -, -, -, -, -, -, -, ⟨-, -, -, hrequests, -⟩, -⟩ := h
  exact fun t ht => (hrequests t ht).2

/-- Settles O57: every operation that adds a lock adds one of its holder's form, a LOCK's none that meets another's, and
the KEYSWITCH lock comes and goes with the settled position. -/
theorem lockSetKeepsItsForm : Obligations.LockSetKeepsItsForm := by
  intro s t h e
  unfold step at e
  split at e
  · cases e; exact h.locks
  · next c rest _ => exact exec_locksSafe (s := s.setPending rest) h.locks h.requestOrigins e

end Sys2Proof.Machine
end

section
/-! ## LOCK, UNLOCK and the minutes of a timed lock (08, R143 to R149) -/

namespace Sys2Proof.Machine

variable {s u b : State} {ls ks : List Lock} {l : Lock} {h : Holder} {t : Telegram} {rest : List Telegram}

/-! ### The settling where locks that spare LAMP changed alone -/

theorem Quiet.refl (s : State) : Quiet s s :=
  ⟨rfl, rfl, rfl, rfl, rfl, rfl, rfl, rfl, rfl, rfl, rfl, rfl, rfl, rfl, rfl, rfl, rfl⟩

/-- The settling reads of the locks whether one covers LAMP, and whether the WEAR lock stands (R14, R39). -/
theorem Settled.setLocks (hs : Settled s) (hlamp : lampLocked ks = lampLocked s.locks)
    (hwear : lockOf ks .wear = lockOf s.locks .wear) : Settled (s.setLocks ks) := by
  obtain ⟨hlife, hstart, hstrike, hgroup, htarget, hfan, hidle⟩ := hs
  refine ⟨?_, ?_, (strikeTest_fixed.mpr (strikeTest_fixed.mp hstrike :)),
    judgeGroup_fixed_congr (s := s) ⟨rfl, rfl, rfl, rfl, rfl, rfl⟩ hgroup, retarget_congr htarget rfl rfl rfl rfl rfl,
    fanStallJudge_congr hfan rfl rfl rfl, idleJudge_fixed.mpr (idleJudge_fixed.mp hidle :)⟩
  · rw [lifeJudge_fixed] at hlife ⊢
    unfold LifeJudged
    rw [State.setLocks_locks, hwear]
    exact hlife
  · rw [startTest_fixed] at hstart ⊢
    have hconditions : startConditions (s.setLocks ks) = startConditions s := by
      unfold startConditions
      rw [State.setLocks_locks, hlamp]
      rfl
    rw [hconditions]
    exact hstart

/-- A settled state is left but for the beacon, unless the power's inputs changed. -/
theorem settle_of_settled (hs : Settled u) (hp : powerInputs b = powerInputs u) : settle b u = beaconJudge b u := by
  obtain ⟨hlife, hstart, hstrike, hgroup, htarget, hfan, hidle⟩ := hs
  exact settle_fixed hlife hstart hstrike hgroup (withdrawTest_same hp) htarget hfan hidle

/-- The settling after a step that changed, of what it reads, locks that spare LAMP and WEAR alone. -/
theorem settle_relocked (hs : Settled s) (q : Quiet s u) (hlamp : lampLocked ks = lampLocked s.locks)
    (hwear : lockOf ks .wear = lockOf s.locks .wear) : settle s (u.setLocks ks) = beaconJudge s (u.setLocks ks) := by
  obtain ⟨-, -, -, -, hlocks, -⟩ := id q
  obtain ⟨-, -, -, -, -, -, hinputs, -⟩ := members_quiet q
  refine settle_of_settled ((hs.quiet q).setLocks ?_ ?_) hinputs.symm
  · rw [hlamp, hlocks]
  · rw [hwear, hlocks]

/-! ### The locks of stations and of the key switch spare LAMP (R144, R145) -/

/-- The holder's lock never covers LAMP. -/
def sparesLamp : Holder → Bool
  | .keySwitch => true
  | .station _ => true
  | .wear => false
  | .schedule => false

theorem lamp_of_sparesLamp (hformed : lockFormed l = true) (hh : sparesLamp l.holder = true) :
    l.scopes.lamp = false := by
  unfold lockFormed at hformed
  cases e : l.holder with
  | keySwitch =>
    simp only [e, Bool.and_eq_true, beq_iff_eq] at hformed
    rw [hformed.1]
    rfl
  | station n =>
    simp only [e, Bool.and_eq_true, Bool.not_eq_true'] at hformed
    obtain ⟨⟨-, hlamp⟩, -⟩ := hformed
    exact hlamp
  | wear | schedule => rw [e] at hh; cases hh

theorem LocksForm.lampLocked_without (k : LocksForm ls) (hh : sparesLamp h = true) :
    lampLocked (withoutHolder h ls) = lampLocked ls := by
  refine Bool.eq_iff_iff.mpr ⟨lampLocked_withoutHolder, fun hl => ?_⟩
  obtain ⟨m, hm, hlamp⟩ := List.any_eq_true.mp hl
  refine List.any_eq_true.mpr ⟨m, mem_withoutHolder.mpr ⟨hm, fun e => ?_⟩, hlamp⟩
  rw [lamp_of_sparesLamp (k.formed m hm) (by rw [e]; exact hh)] at hlamp
  cases hlamp

theorem LocksForm.lampLocked_replaced (k : LocksForm ls) (hh : sparesLamp l.holder = true)
    (hl : l.scopes.lamp = false) : lampLocked (withoutHolder l.holder ls ++ [l]) = lampLocked ls := by
  have hrest := k.lampLocked_without hh
  unfold lampLocked at hrest ⊢
  rw [List.any_append, hrest]
  simp [hl]

theorem ne_wear_of_sparesLamp (hh : sparesLamp h = true) : h ≠ .wear := by
  rintro rfl
  cases hh

/-- Such a lock removed is taken out of the Lock Set and no more: LAMP is covered as before (R143). -/
theorem removeLock_spared (k : LocksForm s.locks) (hh : sparesLamp h = true) :
    removeLock h s = s.setLocks (withoutHolder h s.locks) := by
  unfold removeLock lampUncovered
  rw [State.setLocks_locks, k.lampLocked_without hh, Bool.and_not_self]
  rfl

/-- Such a lock added is put in its holder's place and no more (R143, R144). -/
theorem addLock_spared (k : LocksForm s.locks) (hh : sparesLamp l.holder = true) (hl : l.scopes.lamp = false)
    (hnew : l ∉ s.locks) : addLock l s = s.setLocks (withoutHolder l.holder s.locks ++ [l]) := by
  unfold addLock lampUncovered
  rw [if_neg (by simpa using hnew)]
  simp only [hl, State.setLocks_locks, k.lampLocked_replaced hh hl, Bool.and_not_self]
  rfl

theorem addLock_same (hin : l ∈ s.locks) : addLock l s = s := if_pos (by simpa using hin)

/-- The settling after such a lock was removed. -/
theorem settle_without (hs : Settled s) (k : LocksForm s.locks) (q : Quiet s u) (hh : sparesLamp h = true) :
    settle s (u.setLocks (withoutHolder h s.locks)) = beaconJudge s (u.setLocks (withoutHolder h s.locks)) :=
  settle_relocked hs q (k.lampLocked_without hh) (lockOf_without_other (ne_wear_of_sparesLamp hh) s.locks)

/-- The settling after such a lock was put in its holder's place. -/
theorem settle_replaced (hs : Settled s) (k : LocksForm s.locks) (q : Quiet s u) (hh : sparesLamp l.holder = true)
    (hl : l.scopes.lamp = false) : settle s (u.setLocks (withoutHolder l.holder s.locks ++ [l])) =
      beaconJudge s (u.setLocks (withoutHolder l.holder s.locks ++ [l])) :=
  settle_relocked hs q (k.lampLocked_replaced hh hl) (lockOf_replaced (ne_wear_of_sparesLamp hh).symm s.locks)

/-! ### LOCK (R145, R146) -/

theorem replied_setLocks (d : Bool) (t : Telegram) (r : Result) (s : State) :
    replied d t r (s.setLocks ks) = (replied d t r s).setLocks ks := by
  cases d <;> rfl

/-- The head carried out by an owner that changes the locks alone and answers. -/
theorem dispatch_relocked {kind : Byte} {owner : Owner} {r : Result} (hhead : AtHead kind t rest s)
    (ho : owner t (takeHead t rest s) = ((takeHead t rest s).setLocks ks, some r)) :
    dispatch (ofKind kind) owner s = (answered t rest r s).setLocks ks := by
  rw [dispatch_replied hhead (ofKind_atHead hhead) ho, replied_setLocks, answered_eq]

/-- A LOCK of scopes beyond LAMP comes to the check of other holders' locks (R145, R146). -/
theorem ownLock_takes {m0 m1 v : Byte} (hb : t.body = [v, m1, m0]) (hn : t.origin.toNat ≠ s.straps.number)
    (hx : { scopesOf v with lamp := false } ≠ Scopes.empty) :
    ownLock t s = takeLock t.origin.toNat { scopesOf v with lamp := false } (min (beNat [m1, m0]) 720)
      (v.getLsbD 0 || decide (720 < beNat [m1, m0])) s := by
  have hasked : scopesOf v ≠ .empty := fun e => hx (by rw [e]; rfl)
  have hother : ¬fromOwn t s = true := fun e => hn (beq_iff_eq.mp e)
  have hclamped : ({ scopesOf v with lamp := false } != scopesOf v) = v.getLsbD 0 := by
    simp only [scopesOf]
    cases v.getLsbD 0 <;> simp
  unfold ownLock
  rw [hb]
  refine (if_neg hasked).trans ((if_neg hother).trans ((if_neg hx).trans ?_))
  rw [hclamped]

/-- Settles O19: the lock of a station spares LAMP, so its addition leaves the settling the beacon alone. -/
theorem lockIsAdded : Obligations.LockIsAdded := by
  intro s t rest b m1 m0 hs hlocks hhead hb hn n m x l r hx
  have howner := ownLock_takes (s := takeHead t rest s) hb hn hx
  have hminutes : (if min m 720 = 0 then none else some (min m 720)) = l.minutes := by
    have : min m 720 = 0 ↔ m = 0 := by omega
    simp only [this]
    rfl
  refine ⟨fun hheld => ?_, fun hfree => ?_⟩
  · exact finish_refused hs hhead (howner.trans (if_pos hheld))
  · have htaken : ownLock t (takeHead t rest s) = (addLock l (takeHead t rest s), some r) := by
      refine howner.trans ((if_neg (Bool.eq_false_iff.mp hfree)).trans ?_)
      rw [hminutes]
      rfl
    refine ⟨fun hin => ?_, fun hnew => ?_⟩
    · rw [addLock_same (s := takeHead t rest s) hin] at htaken
      exact finish_answered hs hhead (ofKind_atHead hhead) htaken
    · rw [addLock_spared (s := takeHead t rest s) hlocks.form rfl rfl hnew] at htaken
      change finish (dispatch (ofKind kindLock) ownLock) s = _
      unfold finish
      rw [dispatch_relocked hhead htaken]
      exact congrArg Host.Outcome.next (settle_replaced (l := l) hs hlocks.form (answered_quiet t rest r s) rfl rfl)

/-! ### UNLOCK (R148) -/

/-- A request of origin 0 is disregarded (R176). -/
theorem dispatch_originZero {kind : Byte} {owner : Owner} (hreq : s.line.requests = t :: rest)
    (hmay : mayTake s t = true) (hk : t.kind = kind) (hzero : t.origin = 0) :
    dispatch (ofKind kind) owner s = disregarded t rest s := by
  have haccepts : ofKind kind t = true := by simp [ofKind, hk]
  have hdirected : directed (takeHead t rest s) t = directed s t := rfl
  unfold dispatch
  simp only [hreq, hmay, haccepts, Bool.and_self, if_true, hzero, hdirected]
  rfl

/-- UNLOCK of the lock of its origin (R148). -/
theorem ownUnlock_ofOrigin {v : Byte} (hb : t.body = [v]) (hlow : 1 ≤ v.toNat) (hhigh : v.toNat ≤ 31)
    (hv : v = t.origin) (hn : t.origin.toNat ≠ s.straps.number) : ownUnlock t s =
      if (lockOf s.locks (.station v.toNat)).isSome then (removeLock (.station v.toNat) s, some (.of .taken))
      else refuse .noEntry s := by
  have hrange : ¬(v.toNat = 0 ∨ 31 < v.toNat) := by omega
  have hforeign : ¬fromOwn t s = true := fun e => hn (beq_iff_eq.mp e)
  unfold ownUnlock
  rw [hb]
  exact (if_neg hrange).trans ((if_neg hforeign).trans (if_neg (not_not.mpr hv)))

theorem execUnlock_removes {v : Byte} (hs : Settled s) (k : LocksForm s.locks) (hhead : AtHead kindUnlock t rest s)
    (hb : t.body = [v]) (hlow : 1 ≤ v.toNat) (hhigh : v.toNat ≤ 31) (hv : v = t.origin)
    (hn : t.origin.toNat ≠ s.straps.number) (hheld : (lockOf s.locks (.station v.toNat)).isSome = true) :
    exec .unlock s = .next (beaconJudge s ((answered t rest (.of .taken) s).setLocks
      (withoutHolder (.station v.toNat) s.locks))) := by
  have howner := (ownUnlock_ofOrigin (s := takeHead t rest s) hb hlow hhigh hv hn).trans (if_pos hheld)
  rw [removeLock_spared (s := takeHead t rest s) k rfl] at howner
  change finish (dispatch (ofKind kindUnlock) ownUnlock) s = _
  unfold finish
  rw [dispatch_relocked hhead howner]
  exact congrArg Host.Outcome.next (settle_without hs k (answered_quiet t rest _ s) rfl)

/-! ### A minute of a timed lock (R147) -/

/-- With its last minute the lock leaves. -/
theorem exec_lastMinute {n : Nat} (hs : Settled s) (k : LocksForm s.locks) (hl : lockOf s.locks (.station n) = some l)
    (hm : l.minutes = some 1) : exec (.lockMinuteTimerExpiry n) s =
      .next (beaconJudge s (s.setLocks (withoutHolder (.station n) s.locks))) := by
  have hminute : lockMinute n s = removeLock (.station n) s := by
    unfold lockMinute
    rw [hl]
    simp only [hm]
    rfl
  change finish (lockMinute n) s = _
  unfold finish
  rw [hminute, removeLock_spared k rfl, settle_without hs k (u := s) (Quiet.refl s) rfl]

theorem lockSummary_lowerMinutes (n : Nat) (ls : List Lock) :
    lockSummary (ls.map (lowerMinutes n)) = lockSummary ls := by
  simp only [lockSummary, List.foldl_map, lowerMinutes_scopes]

/-- With more than one minute left the lock loses one, and no cause of a beacon changes (R80). -/
theorem exec_minute {n m : Nat} (hs : Settled s) (k : LocksForm s.locks) (hl : lockOf s.locks (.station n) = some l)
    (hm : l.minutes = some m) (htwo : 2 ≤ m) : exec (.lockMinuteTimerExpiry n) s = .next (s.setLocks
      (s.locks.map fun k => if k.holder = .station n then { k with minutes := some (m - 1) } else k)) := by
  have hminute : lockMinute n s = s.setLocks (s.locks.map (lowerMinutes n)) := by
    unfold lockMinute
    rw [hl]
    simp only [hm]
    exact if_neg (by omega)
  have hlowered : s.locks.map (lowerMinutes n) =
      s.locks.map fun k => if k.holder = .station n then { k with minutes := some (m - 1) } else k := by
    refine List.map_congr_left fun x hx => ?_
    unfold lowerMinutes
    split
    · next hholder =>
      obtain rfl : x = l := Option.some.inj ((hholder ▸ k.lockOf hx).symm.trans hl)
      rw [hm]
      rfl
    · rfl
  have hwear : lockOf (s.locks.map (lowerMinutes n)) .wear = lockOf s.locks .wear := by
    rw [lockOf_lowerMinutes]
    cases hfind : lockOf s.locks .wear with
    | none => rfl
    | some w =>
      obtain ⟨-, hholder⟩ := mem_of_lockOf hfind
      rw [Option.map_some, lowerMinutes, if_neg (by rw [hholder]; nofun)]
  have hcauses : beaconCauses s = beaconCauses (s.setLocks (s.locks.map (lowerMinutes n))) := by
    unfold beaconCauses
    simp only [State.setLocks_locks, lockSummary_lowerMinutes]
    rfl
  change finish (lockMinute n) s = _
  unfold finish
  rw [hminute, settle_relocked hs (Quiet.refl s) (lampLocked_lowerMinutes n s.locks) hwear, beaconJudge_same hcauses,
    hlowered]

/-- Settles O20: UNLOCK by what its owner answers, the minute by what is left of the lock. -/
theorem unlockAndMinutesRemoveALock : Obligations.UnlockAndMinutesRemoveALock := by
  intro s t rest v n m l hs hlocks
  have k := hlocks.form
  refine ⟨fun hreq hmay hk => ⟨fun hzero hn => ?_, fun hown hb hlow hhigh => ?_⟩, fun hl hm => ⟨?_, ?_⟩⟩
  · have hhead : AtHead kindUnlock t rest s := ⟨hreq, hmay, hk, hzero⟩
    refine ⟨fun hb => finish_refused hs hhead (ownUnlock_length hb),
      fun hb hrange => finish_refused hs hhead (ownUnlock_outOfRange hb hrange), fun hb hlow hhigh hv => ?_,
      fun hb hlow hhigh hv => ⟨execUnlock_removes hs k hhead hb hlow hhigh hv hn, fun hnone => ?_⟩⟩
    · refine finish_refused hs hhead (ownUnlock_locked (by rw [hb]; rfl) (fun w hw => ?_) hn)
      obtain rfl : w = v := List.mem_singleton.mp (hb ▸ hw)
      exact ⟨hlow, hhigh, hv⟩
    · exact finish_refused hs hhead ((ownUnlock_ofOrigin (s := takeHead t rest s) hb hlow hhigh hv hn).trans
        (if_neg (Bool.not_eq_true _ ▸ congrArg Option.isSome hnone)))
  · by_cases hzero : t.origin = 0
    · change finish (dispatch (ofKind kindUnlock) ownUnlock) s = _
      unfold finish
      rw [dispatch_originZero hreq hmay hk hzero, settle_quiet hs (disregarded_quiet t rest s)]
    · exact finish_passedOver hs ⟨hreq, hmay, hk, hzero⟩
        (ownUnlock_own (s := takeHead t rest s) hb hlow hhigh (hown.resolve_left hzero))
  · rintro rfl
    exact exec_lastMinute hs k hl hm
  · exact exec_minute hs k hl hm

end Sys2Proof.Machine
end

section
/-! ## The keypad (08, R23, R26, R48, R105, R126, R141, R142, R150) -/

namespace Sys2Proof.Machine

variable {s u : State} {get : Panel → Key} {put : Panel → Key → Panel} {press : State → State} {ls : List Lock}
  {x : Scopes}

/-! ### The samples of one key (R142) -/

/-- One key of the panel: read, and put in place of what stood, apart from the other keys and the key switch. -/
structure PanelKey (get : Panel → Key) (put : Panel → Key → Panel) : Prop where
  get_put : ∀ p k, get (put p k) = k
  put_put : ∀ p k k', put (put p k) k' = put p k'
  put_get : ∀ p, put p (get p) = p
  switch : ∀ p k, (put p k).switch = p.switch

theorem panelKey_power : PanelKey (·.power) fun p k => { p with power := k } :=
  ⟨fun _ _ => rfl, fun _ _ _ => rfl, fun _ => rfl, fun _ _ => rfl⟩

theorem panelKey_source : PanelKey (·.source) fun p k => { p with source := k } :=
  ⟨fun _ _ => rfl, fun _ _ _ => rfl, fun _ => rfl, fun _ _ => rfl⟩

theorem panelKey_vPlus : PanelKey (·.vPlus) fun p k => { p with vPlus := k } :=
  ⟨fun _ _ => rfl, fun _ _ _ => rfl, fun _ => rfl, fun _ _ => rfl⟩

theorem panelKey_vMinus : PanelKey (·.vMinus) fun p k => { p with vMinus := k } :=
  ⟨fun _ _ => rfl, fun _ _ _ => rfl, fun _ => rfl, fun _ _ => rfl⟩

theorem panelKey_clear : PanelKey (·.clear) fun p k => { p with clear := k } :=
  ⟨fun _ _ => rfl, fun _ _ _ => rfl, fun _ => rfl, fun _ _ => rfl⟩

/-- The state with one key's sampling put. -/
def withKey (put : Panel → Key → Panel) (k : Key) (s : State) : State := s.setPanel (put s.panel k)

/-- A key taken as pressed. -/
def keyDown : Key := ⟨true, false, 0⟩

theorem withKey_withKey (hk : PanelKey get put) (k k' : Key) (s : State) :
    withKey put k' (withKey put k s) = withKey put k' s := by
  unfold withKey
  rw [State.setPanel_panel, hk.put_put, State.setPanel_setPanel]

/-- A closed sample of a key found open counts, and the third is the press (R142). -/
theorem sampleKey_closed {n : Nat} (hn : n < 2) (hopen : get s.panel = ⟨false, true, n⟩)
    (rest : List Bool) :
    sampleKey get put press (true :: rest) s = sampleKey get put press rest (withKey put ⟨false, true, n + 1⟩ s) := by
  have hshort : ¬3 ≤ n + 1 := by omega
  rw [sampleKey, hopen]
  simp [keySample, hshort, withKey]

/-- Three closed samples of a key found open press it once (R142). -/
theorem sampleKey_pressed (hk : PanelKey get put) (hopen : get s.panel = ⟨false, true, 0⟩) :
    sampleKey get put press [true, true, true] s = whenSettled press (withKey put keyDown s) := by
  have hget (k : Key) : get (withKey put k s).panel = k := hk.get_put s.panel k
  rw [sampleKey_closed (by decide) hopen, sampleKey_closed (by decide) (hget _), withKey_withKey hk, sampleKey,
    hget, ← withKey_withKey hk ⟨false, true, 2⟩ keyDown s]
  rfl

/-- Two closed samples are no press (R142). -/
theorem sampleKey_two (hk : PanelKey get put) (hopen : get s.panel = ⟨false, true, 0⟩) :
    sampleKey get put press [true, true] s = withKey put ⟨false, true, 2⟩ s := by
  have hget (k : Key) : get (withKey put k s).panel = k := hk.get_put s.panel k
  rw [sampleKey_closed (by decide) hopen, sampleKey_closed (by decide) (hget _), withKey_withKey hk]
  rfl

/-- An open sample starts the count again (R142). -/
theorem sampleKey_reopened (hk : PanelKey get put) (hopen : get s.panel = ⟨false, true, 0⟩) :
    sampleKey get put press [true, true, false] s = withKey put ⟨false, true, 0⟩ s := by
  have hget (k : Key) : get (withKey put k s).panel = k := hk.get_put s.panel k
  rw [sampleKey_closed (by decide) hopen, sampleKey_closed (by decide) (hget _), withKey_withKey hk, sampleKey,
    hget, ← withKey_withKey hk ⟨false, true, 2⟩ ⟨false, true, 0⟩ s]
  rfl

/-- A key not found open since it was pressed, or since power-on, is not pressed (R142). -/
theorem sampleKey_unopened (hk : PanelKey get put) (hget : get s.panel = ⟨false, false, 0⟩) (n : Nat) :
    sampleKey get put press (List.replicate n true) s = s := by
  have hput : s.setPanel (put s.panel ⟨false, false, 0⟩) = s := by
    rw [← hget, hk.put_get]
    rfl
  induction n with
  | zero => rfl
  | succ n ih =>
    rw [List.replicate_succ, sampleKey, hget]
    simp only [keySample, Bool.false_eq_true, if_false, if_true, hput]
    exact ih

/-! ### A press that acts, and one that does not -/

/-- Of the panel the settling reads whether the key switch is in SERVICE (R26). -/
theorem Quiet.setPanel {p : Panel} (hp : inService (s.setPanel p) = inService s) : Quiet s (s.setPanel p) :=
  ⟨rfl, rfl, rfl, rfl, rfl, rfl, rfl, rfl, rfl, rfl, rfl, rfl, rfl, hp, rfl, rfl, rfl⟩

theorem Settled.withKey (h : Settled s) (hk : PanelKey get put) (k : Key) : Settled (withKey put k s) :=
  h.quiet (Quiet.setPanel (congrArg (fun w : KeySwitch => w.settled == some .service) (hk.switch s.panel k)))

/-- A press before the key switch has settled is disregarded (R150). -/
theorem whenSettled_unsettled (hs : s.panel.switch.settled = none) : whenSettled press s = s := by
  unfold whenSettled
  rw [hs]
  rfl

/-- A press that does nothing leaves a settled state. -/
theorem whenSettled_refused (hs : Settled s) (hpress : press s = s) : whenSettled press s = s := by
  unfold whenSettled
  rw [hpress, settle_quiet hs (Quiet.refl s), beaconJudge_same rfl]
  exact ite_self s

theorem whenSettled_acts (hs : s.panel.switch.settled.isSome = true) :
    whenSettled press s = settle s (press s) := if_pos hs

/-- Three closed samples whose press does nothing change the key's sampling alone. -/
theorem sampleKey_refused (hk : PanelKey get put) (hs : Settled s) (hopen : get s.panel = ⟨false, true, 0⟩)
    (hpress : press (withKey put keyDown s) = withKey put keyDown s) :
    sampleKey get put press [true, true, true] s = withKey put keyDown s := by
  rw [sampleKey_pressed hk hopen, whenSettled_refused (hs.withKey hk keyDown) hpress]

theorem sampleKey_unsettled (hk : PanelKey get put) (hs : s.panel.switch.settled = none)
    (hopen : get s.panel = ⟨false, true, 0⟩) :
    sampleKey get put press [true, true, true] s = withKey put keyDown s := by
  rw [sampleKey_pressed hk hopen]
  exact whenSettled_unsettled ((congrArg KeySwitch.settled (hk.switch s.panel keyDown)).trans hs)

/-- Three closed samples whose press acts: the press, then the settling. -/
theorem sampleKey_acts (hk : PanelKey get put) (hs : s.panel.switch.settled.isSome = true)
    (hopen : get s.panel = ⟨false, true, 0⟩) : sampleKey get put press [true, true, true] s =
      settle (withKey put keyDown s) (press (withKey put keyDown s)) := by
  rw [sampleKey_pressed hk hopen]
  exact whenSettled_acts ((congrArg (fun w : KeySwitch => w.settled.isSome) (hk.switch s.panel keyDown)).trans hs)

/-! ### The lock check of a key (R141) -/

/-- No lock is the keypad's own: one that meets the scopes refuses it (R141). -/
theorem keypad_refused {p : Lock → Bool} (h : ls.any p = true) (hp : ∀ l, p l = true → scopesMeet l.scopes x = true) :
    passesCheck ls .keypad x = false := by
  obtain ⟨l, hl, hpl⟩ := List.any_eq_true.mp h
  refine List.all_eq_false.mpr ⟨l, hl, ?_⟩
  rw [hp l hpl]
  exact Bool.false_ne_true

theorem keypad_keysLocked (h : (ls.any fun l => l.scopes.keys) = true) (hx : x.keys = true) :
    passesCheck ls .keypad x = false :=
  keypad_refused h fun l hl => by simp [scopesMeet, show l.scopes.keys = true from hl, hx]

theorem keypad_powerLocked (h : (ls.any fun l => l.scopes.power) = true) (hx : x.power = true) :
    passesCheck ls .keypad x = false :=
  keypad_refused h fun l hl => by simp [scopesMeet, show l.scopes.power = true from hl, hx]

/-! ### POWER (R26, R105) -/

theorem pressPower_inService (h : inService s = true) : pressPower s = powerInService s := if_pos h

theorem pressPower_group (h : inService s = false) : pressPower s = powerForGroup s :=
  if_neg (Bool.eq_false_iff.mp h)

theorem powerForGroup_off (h : s.group.mode = none) : powerForGroup s =
    if passesCheck s.locks .keypad ⟨true, true, false, false, true⟩ then
      send (modeTelegram kindGroupOn) (groupOn .keypad s) else s := by
  unfold powerForGroup
  rw [h]

theorem powerForGroup_on (h : s.group.mode.isSome = true) : powerForGroup s =
    if passesCheck s.locks .keypad ⟨false, true, false, false, true⟩ then
      send (modeTelegram kindGroupOff) (groupOff s) else s := by
  obtain ⟨c, hc⟩ := Option.isSome_iff_exists.mp h
  unfold powerForGroup
  rw [hc]

/-- Refused in every scope POWER can ask for, it does nothing (R26, R105, R141). -/
theorem pressPower_refused (hon : passesCheck s.locks .keypad ⟨true, true, false, false, true⟩ = false)
    (hoff : passesCheck s.locks .keypad ⟨false, true, false, false, true⟩ = false) : pressPower s = s := by
  cases hs : inService s with
  | true =>
    rw [pressPower_inService hs]
    exact if_neg (Bool.eq_false_iff.mp hoff)
  | false =>
    rw [pressPower_group hs]
    cases hm : s.group.mode with
    | none => rw [powerForGroup_off hm, hon]; rfl
    | some c => rw [powerForGroup_on (by rw [hm]; rfl), hoff]; rfl

/-- In SERVICE a lamp in DARK, WAITING, STRIKING or FAULT is left to itself (R26). -/
theorem powerInService_idle (h : s.lamp.state = .dark ∨ claiming s.lamp.state = true ∨ s.lamp.state = .fault) :
    powerInService s = s := by
  unfold powerInService
  split
  · cases hs : s.lamp.state with
    | dark | waiting | striking | fault => rfl
    | warming | lit | cooling => simp [hs, claiming] at h
  · rfl

/-- In SERVICE a burning lamp is put out (R26). -/
theorem powerInService_burning (hb : burning s.lamp.state = true)
    (hp : passesCheck s.locks .keypad ⟨false, true, false, false, true⟩ = true) :
    powerInService s = setRelight false (extinguish .cooling s) := by
  unfold powerInService
  rw [if_pos hp]
  cases hs : s.lamp.state with
  | warming | lit => rfl
  | dark | waiting | striking | cooling | fault => rw [hs] at hb; cases hb

/-! ### V+ and V− (R48) -/

theorem pressKeystone_outside {n : Int} (h : inService s = false) : pressKeystone n s = s := by
  unfold pressKeystone
  rw [h]
  rfl

theorem pressKeystone_refused {n : Int}
    (h : passesCheck s.locks .keypad ⟨false, false, false, true, true⟩ = false) : pressKeystone n s = s := by
  unfold pressKeystone
  rw [h, Bool.and_false]
  rfl

theorem pressKeystone_acts {n : Int} (hs : inService s = true)
    (h : passesCheck s.locks .keypad ⟨false, false, false, true, true⟩ = true) :
    pressKeystone n s = stepKeystone n s := by
  unfold pressKeystone
  rw [hs, h]
  rfl

/-- Settles O48: a refused press does nothing, so the settled state with the key's sampling stands. -/
theorem refusedKeysDoNothing : Obligations.RefusedKeysDoNothing := by
  intro s hs open_ down
  have vRefused (n : Int) (v : State) (hservice : inService v = inService s) (hlocks : v.locks = s.locks)
      (h : inService s = false ∨ (s.locks.any fun l => l.scopes.keys || l.scopes.geometry) = true) :
      pressKeystone n v = v := by
    rcases h with h | h
    · exact pressKeystone_outside (hservice.trans h)
    · refine pressKeystone_refused (hlocks ▸ keypad_refused h fun l hl => ?_)
      rcases Bool.or_eq_true_iff.mp hl with e | e <;> simp [scopesMeet, e]
  let v := s.setPanel { s.panel with power := down }
  refine ⟨fun ho h => ?_, fun ho h => ?_, fun ho hout hm h => ?_, fun ho hin h => ?_, fun ho h => ?_, fun ho h => ?_,
    fun ho h => ?_, fun ho h => ?_, fun hn => ⟨fun ho => ?_, fun ho => ?_, fun ho => ?_⟩, fun ho => ⟨?_, ?_⟩,
    fun ho => ?_⟩
  · exact congrArg Host.Outcome.next (sampleKey_refused panelKey_power hs ho
      (pressPower_refused (keypad_keysLocked h rfl) (keypad_keysLocked h rfl)))
  · exact congrArg Host.Outcome.next (sampleKey_refused panelKey_power hs ho
      (pressPower_refused (keypad_powerLocked h rfl) (keypad_powerLocked h rfl)))
  · refine congrArg Host.Outcome.next (sampleKey_refused panelKey_power hs ho ?_)
    have hcheck : passesCheck s.locks .keypad ⟨true, true, false, false, true⟩ = false :=
      keypad_refused h fun l hl => by simp [scopesMeet, show l.scopes.lamp = true from hl]
    exact (pressPower_group (s := v) hout).trans
      ((powerForGroup_off (s := v) hm).trans (if_neg (Bool.eq_false_iff.mp hcheck)))
  · exact congrArg Host.Outcome.next (sampleKey_refused panelKey_power hs ho
      ((pressPower_inService (s := v) hin).trans (powerInService_idle (s := v) h)))
  · refine congrArg Host.Outcome.next (sampleKey_refused panelKey_source hs ho (if_neg (Bool.eq_false_iff.mp ?_)))
    refine keypad_refused h fun l hl => ?_
    rcases Bool.or_eq_true_iff.mp hl with e | e <;> simp [scopesMeet, e]
  · exact congrArg Host.Outcome.next (sampleKey_refused panelKey_vPlus hs ho (vRefused 8 _ rfl rfl h))
  · exact congrArg Host.Outcome.next (sampleKey_refused panelKey_vMinus hs ho (vRefused (-8) _ rfl rfl h))
  · exact congrArg Host.Outcome.next (sampleKey_refused panelKey_clear hs ho
      (if_neg (Bool.eq_false_iff.mp (keypad_keysLocked h rfl))))
  · exact congrArg Host.Outcome.next (sampleKey_unsettled panelKey_power hn ho)
  · exact congrArg Host.Outcome.next (sampleKey_unsettled panelKey_source hn ho)
  · exact congrArg Host.Outcome.next (sampleKey_unsettled panelKey_clear hn ho)
  · exact congrArg Host.Outcome.next (sampleKey_two panelKey_power ho)
  · exact congrArg Host.Outcome.next (sampleKey_reopened panelKey_power ho)
  · exact congrArg Host.Outcome.next (sampleKey_unopened panelKey_power ho 3)

end Sys2Proof.Machine
end

section
/-! ## Keys that act (08, R23, R26, R48, R105, R124, R126, R142) -/

namespace Sys2Proof.Machine

variable {s u : State} {e : QueueEntry}

/-! ### The send queue over an election and a push (R171) -/

theorem startTest_others (s : State) : othersFilled (startTest s).line.queue ≤ othersFilled s.line.queue + 1 := by
  unfold startTest
  split
  · exact handOver_others
  · exact Nat.le_succ _

/-- A lamp become wanted sends a CLAIM at most (R5). -/
theorem nowWanted_others (s : State) : othersFilled (nowWanted s).line.queue ≤ othersFilled s.line.queue + 1 := by
  unfold nowWanted
  cases s.lamp.state with
  | dark => exact startTest_others s
  | cooling =>
    simp only
    (repeat' split)
    · exact Nat.le_succ _
    · exact handOver_others
    · exact Nat.le_succ _
  | waiting | striking | warming | lit | fault => exact Nat.le_succ _

/-- With six entries in use at most there is one for a telegram after the group's turning ON (R171). -/
theorem hasFree_groupOn {c : OnCause} (hm : s.group.mode = none)
    (h : othersFilled s.line.queue + s.line.reserved < 6) : hasFree (groupOn c s).line = true := by
  have hline : (outside (groupOn c s)).line = (outside s).line := congrArg State.line (outside_groupOn c s)
  have hreserved : (groupOn c s).line.reserved = s.line.reserved := (congrArg HallLine.reserved hline :)
  have hothers : othersFilled (groupOn c s).line.queue ≤ othersFilled s.line.queue + 1 := by
    rcases groupOn_elects (c := c) hm with e | e | e <;> rw [e]
    · exact Nat.le_succ _
    · exact Nat.le_succ _
    · exact nowWanted_others (elected (turnedOn c s))
  unfold hasFree
  rw [hreserved]
  exact decide_eq_true (by omega)

theorem beginSwitch_line (x : Option Input) (s : State) : (beginSwitch x s).line = s.line := by
  unfold beginSwitch sendSelect tellScaler linkProgress sendRecords
  simp only
  split <;> rfl

theorem judgeWith_line (x : Option Input) (s : State) : (judgeWith x s).line = s.line := by
  unfold judgeWith
  split
  · exact beginSwitch_line x s
  · (repeat' split) <;> rfl

/-- A push sends nothing on the hall line (R124). -/
theorem push_line (i : Input) (o : Origin) (s : State) : (push i o s).line = s.line := by
  obtain ⟨v, rfl, hjudge, hswitch⟩ := push_eq i o s
  by_cases hs : s.source.state = .switching
  · obtain ⟨hnone, hsome⟩ := hswitch hs
    cases hx : s.source.shown with
    | none => rw [hnone hx]; rfl
    | some x =>
      rw [hsome x hx]
      split
      · rfl
      · exact beginSwitch_line _ _
  · rw [hjudge hs]
    exact judgeWith_line _ _

/-- A request sent while an entry is free stands in the queue at the end of the step. -/
theorem sent_settle (kind : Byte) (body : List Byte) (hfree : hasFree s.line = true) (b : State) :
    newEntry (.request kind body) ∈ (settle b (send (.request kind body) s)).line.queue :=
  (settle_keeps b _).queue _ (mem_handOver hfree) nofun

/-! ### POWER (R26, R105) -/

/-- POWER with the group OFF turns it ON and sends GROUP_ON (R105). -/
theorem settle_keyOn (b : State) (hm : s.group.mode = none) :
    let u := settle b (send (modeTelegram kindGroupOn) (groupOn .keypad s))
    u.panel = s.panel ∧ u.group.mode = some .keypad ∧
    (othersFilled s.line.queue + s.line.reserved < 6 → newEntry (.request kindGroupOn []) ∈ u.line.queue) := by
  intro u
  refine ⟨?_, ?_, fun hfree => sent_settle kindGroupOn [] (hasFree_groupOn hm hfree) b⟩
  · rw [settle_panel]
    exact (congrArg State.panel (outside_groupOn .keypad s) :)
  · rw [settle_mode]
    exact (groupOn_mode .keypad s).trans (if_pos (.inl hm))

/-- POWER with the group ON turns it OFF and sends GROUP_OFF (R105). -/
theorem settle_keyOff (b : State) (hm : s.group.mode.isSome = true) :
    let u := settle b (send (modeTelegram kindGroupOff) (groupOff s))
    u.panel = s.panel ∧ u.group.mode = none ∧ u.group.levelOverride = none ∧
    (othersFilled s.line.queue + s.line.reserved < 6 → newEntry (.request kindGroupOff []) ∈ u.line.queue) := by
  intro u
  obtain ⟨hmode, hlevel, -⟩ := settle_groupOff b (handOver (modeTelegram kindGroupOff) (groupOff s).line) hm
  refine ⟨?_, hmode, hlevel, fun hfree => sent_settle kindGroupOff [] (hasFree_groupOff hfree) b⟩
  rw [settle_panel]
  exact (congrArg State.panel (outside_groupOff s) :)

/-- A lamp put out in SERVICE is in COOLING at the end of the step, and the mode stands (R26). -/
theorem settle_keyOut (b s : State) :
    let u := settle b (setRelight false (extinguish .cooling s))
    u.lamp.state = .cooling ∧ u.group.mode = s.group.mode ∧ u.panel = s.panel := by
  intro u
  have hcooling : (setRelight false (extinguish .cooling s)).lamp.state = .cooling := extinguish_state .cooling s
  refine ⟨?_, ?_, ?_⟩
  · rw [(settle_keeps b _).stillLamp (.inl hcooling)]
    exact hcooling
  · rw [settle_mode, setRelight_group, extinguish_group]
  · rw [settle_panel]
    exact (congrArg State.panel (outside_extinguish .cooling s) :)

/-! ### SOURCE (R124, R126) -/

/-- The input that SOURCE puts on top (R126). -/
def nextShown (s : State) : Input :=
  match s.source.shown with
  | some i => nextInput i
  | none => .in1

theorem pressSource_passes (h : passesCheck s.locks .keypad ⟨false, false, true, false, true⟩ = true) :
    pressSource s =
      send (.request kindShow [byteOf (inputCode (nextShown s))]) (push (nextShown s) .keypad s) := if_pos h

/-- SOURCE pushes the input and sends SHOW (R124, R126). -/
theorem settle_keySource (hs : Settled s) {i : Input} :
    let u := settle s (send (.request kindShow [byteOf (inputCode i)]) (push i .keypad s))
    u.panel = s.panel ∧ PushedOnTop i .keypad s u ∧
    (hasFree s.line = true → newEntry (.request kindShow [byteOf (inputCode i)]) ∈ u.line.queue) ∧
    u.lamp = s.lamp ∧ u.group = s.group ∧ u.locks = s.locks := by
  intro u
  have hpushed : besides (send (.request kindShow [byteOf (inputCode i)]) (push i .keypad s)) = besides s :=
    besides_push i .keypad s
  have hrest := besides_settle hs hpushed
  have hsame : SameSelector (push i .keypad s) u := settle_sameSelector s ((push i .keypad s).setLine _)
  exact ⟨(congrArg State.panel hrest :), (push_pushed i .keypad s).same hsame,
    fun hfree => sent_settle kindShow _ ((congrArg hasFree (push_line i .keypad s)).trans hfree) s,
    (congrArg State.lamp hrest :), (congrArg State.group hrest :), (congrArg State.locks hrest :)⟩

/-! ### V+ and V− (R48) -/

theorem offerEdit_failure (c : CornerSet) (g : Geometry) : (offerEdit c g).failure = g.failure := by
  unfold offerEdit
  split
  · rfl
  · cases g.state <;> rfl

/-- A keystone step leaves the settling nothing: F and geometry failure stand (R48, R80). -/
theorem settle_stepKeystone (hs : Settled s) (n : Int) : settle s (stepKeystone n s) = stepKeystone n s := by
  refine Host.Outcome.next.inj (finish_setGeometry_unreported (op := stepKeystone n) hs rfl ?_ ?_)
  · exact offerEdit_f _ _
  · exact offerEdit_failure _ _

/-! ### CLEAR (R23) -/

theorem pressClear_clears (hp : passesCheck s.locks .keypad ⟨false, false, false, false, true⟩ = true)
    (hf : anyFault s.lamp.faults = true) (hg : conditionsGone s = true) : pressClear s = clearFaults s := by
  unfold pressClear
  rw [if_pos hp, tryClear_cleared hf hg]

/-- Settles O47: each press by what it does from the state with the key taken as pressed, and the settling after it. -/
theorem keysAct : Obligations.KeysAct := by
  intro s hs hsettled open_ down
  refine ⟨fun ho hout hm hp => ?_, fun ho hout hm hp => ?_, fun ho hin hb hp => ?_, fun ho hp => ?_,
    fun ho hin hp => ?_, fun ho hin hp => ?_, fun ho hp hfault hf hg => ?_⟩
  · let v := s.setPanel { s.panel with power := down }
    have hpress : pressPower v = send (modeTelegram kindGroupOn) (groupOn .keypad v) :=
      (pressPower_group (s := v) hout).trans ((powerForGroup_off (s := v) hm).trans (if_pos hp))
    have hsampled := (sampleKey_acts panelKey_power hsettled ho).trans (congrArg (settle v) hpress)
    exact ⟨_, congrArg Host.Outcome.next hsampled, settle_keyOn (s := v) v hm⟩
  · let v := s.setPanel { s.panel with power := down }
    have hpress : pressPower v = send (modeTelegram kindGroupOff) (groupOff v) :=
      (pressPower_group (s := v) hout).trans ((powerForGroup_on (s := v) hm).trans (if_pos hp))
    have hsampled := (sampleKey_acts panelKey_power hsettled ho).trans (congrArg (settle v) hpress)
    exact ⟨_, congrArg Host.Outcome.next hsampled, settle_keyOff (s := v) v hm⟩
  · let v := s.setPanel { s.panel with power := down }
    have hpress : pressPower v = setRelight false (extinguish .cooling v) :=
      (pressPower_inService (s := v) hin).trans (powerInService_burning (s := v) hb hp)
    have hsampled := (sampleKey_acts panelKey_power hsettled ho).trans (congrArg (settle v) hpress)
    exact ⟨_, congrArg Host.Outcome.next hsampled, settle_keyOut v v⟩
  · let v := s.setPanel { s.panel with source := down }
    have hv : Settled v := hs.withKey panelKey_source down
    have hsampled := (sampleKey_acts panelKey_source hsettled ho).trans
      (congrArg (settle v) (pressSource_passes (s := v) hp))
    exact ⟨_, congrArg Host.Outcome.next hsampled, settle_keySource hv⟩
  · let v := s.setPanel { s.panel with vPlus := down }
    have hv : Settled v := hs.withKey panelKey_vPlus down
    have hpress : pressKeystone 8 v = stepKeystone 8 v := pressKeystone_acts (s := v) hin hp
    have hsampled := (sampleKey_acts panelKey_vPlus hsettled ho).trans (congrArg (settle v) hpress)
    exact congrArg Host.Outcome.next (hsampled.trans (settle_stepKeystone hv 8))
  · let v := s.setPanel { s.panel with vMinus := down }
    have hv : Settled v := hs.withKey panelKey_vMinus down
    have hpress : pressKeystone (-8) v = stepKeystone (-8) v := pressKeystone_acts (s := v) hin hp
    have hsampled := (sampleKey_acts panelKey_vMinus hsettled ho).trans (congrArg (settle v) hpress)
    exact congrArg Host.Outcome.next (hsampled.trans (settle_stepKeystone hv (-8)))
  · let v := s.setPanel { s.panel with clear := down }
    have hpress : pressClear v = clearFaults v := pressClear_clears (s := v) hp hf hg
    have hsampled := (sampleKey_acts panelKey_clear hsettled ho).trans (congrArg (settle v) hpress)
    obtain ⟨hclear, -, hcool, -⟩ := clearFaults_settles (s := v) (v := clearFaults v) v hfault rfl
    refine ⟨_, congrArg Host.Outcome.next hsampled, hclear, ?_, hcool⟩
    rw [settle_panel]
    exact (congrArg State.panel (outside_clearFaults v) :)

end Sys2Proof.Machine
end

section
/-! ## The key switch settles (08, R26, R114, R143, R150, R151) -/

namespace Sys2Proof.Machine

variable {s u v w b : State} {r : KeyReading} {p : KeyPosition} {old : Option KeyPosition} {rest : List KeyReading}

/-! ### The samples of the key switch (R150) -/

/-- The state with the key switch's sampling put. -/
def withSwitch (k : KeySwitch) (s : State) : State := s.setPanel { s.panel with switch := k }

theorem withSwitch_self {k : KeySwitch} (h : s.panel.switch = k) : withSwitch k s = s := by
  rw [← h]
  rfl

/-- The run of equal readings that a sample makes. -/
def runAfter (k : KeySwitch) (r : KeyReading) : Nat := if k.reading = r then min 3 (k.run + 1) else 1

/-- A sample of a named position counts, and settles the switch as the third equal one (R150). -/
theorem switchSample_named (k : KeySwitch) (hr : positionOf r = some p) : switchSample k r =
    ({ k with reading := r, run := runAfter k r }, if runAfter k r = 3 then some p else none) := by
  unfold switchSample
  rw [hr]
  rfl

/-- A sample short of the third equal one counts alone (R150). -/
theorem sampleSwitch_counts (hr : positionOf r = some p) {n : Nat} (hn : runAfter s.panel.switch r = n)
    (hshort : n ≠ 3) :
    sampleSwitch (r :: rest) s = sampleSwitch rest (withSwitch ⟨s.panel.switch.settled, r, n⟩ s) := by
  rw [sampleSwitch, switchSample_named _ hr, hn, if_neg hshort]
  rfl

/-- The third equal sample settles the switch (R150). -/
theorem sampleSwitch_third (hr : positionOf r = some p) (hn : runAfter s.panel.switch r = 3) :
    sampleSwitch (r :: rest) s =
      sampleSwitch rest (settlePosition p (withSwitch ⟨s.panel.switch.settled, r, 3⟩ s)) := by
  rw [sampleSwitch, switchSample_named _ hr, hn, if_pos rfl]
  rfl

theorem settlePosition_same (h : s.panel.switch.settled = some p) : settlePosition p s = s := if_pos h

theorem settlePosition_moves (h : s.panel.switch.settled ≠ some p) : settlePosition p s =
    settle s (enterPosition p (leavePosition s.panel.switch.settled s (setPosition p s))) := if_neg h

theorem leavePosition_outside (old : Option KeyPosition) (b s : State) :
    outside (leavePosition old b s) = outside s := by
  unfold leavePosition applyDecision
  (repeat' split) <;> simp

/-- The sampling at a settling stands, in the position settled in. -/
theorem settlePosition_switch (p : KeyPosition) (s : State) :
    (settlePosition p s).panel.switch = { s.panel.switch with settled := some p } := by
  by_cases h : s.panel.switch.settled = some p
  · rw [settlePosition_same h, ← h]
  · have hout := (enterPosition_outside p _).trans (leavePosition_outside s.panel.switch.settled s (setPosition p s))
    rw [settlePosition_moves h, settle_panel]
    exact (congrArg (fun x => x.panel.switch) hout :)

/-- Further equal samples change nothing (R150). -/
theorem sampleSwitch_again (hr : positionOf r = some p) (h : s.panel.switch = ⟨some p, r, 3⟩) :
    sampleSwitch (r :: rest) s = sampleSwitch rest s := by
  have hrun : runAfter s.panel.switch r = 3 := by rw [h]; exact if_pos rfl
  rw [sampleSwitch_third hr hrun, h, withSwitch_self h, settlePosition_same (by rw [h])]

theorem runAfter_range (k : KeySwitch) (r : KeyReading) : runAfter k r = 1 ∨ runAfter k r = 2 ∨ runAfter k r = 3 := by
  unfold runAfter
  split <;> omega

theorem runAfter_withSwitch (old : Option KeyPosition) (n : Nat) (s : State) :
    runAfter (withSwitch ⟨old, r, n⟩ s).panel.switch r = min 3 (n + 1) := if_pos rfl

/-- Three equal samples settle the switch once, at the third equal one in a row (R150). -/
theorem sampleSwitch_settles (hr : positionOf r = some p) : sampleSwitch [r, r, r] s =
    settlePosition p (withSwitch ⟨s.panel.switch.settled, r, 3⟩ s) := by
  have hthird (n : Nat) (hn : min 3 (n + 1) = 3) (rest : List KeyReading) :
      sampleSwitch (r :: rest) (withSwitch ⟨s.panel.switch.settled, r, n⟩ s) =
        sampleSwitch rest (settlePosition p (withSwitch ⟨s.panel.switch.settled, r, 3⟩ s)) :=
    sampleSwitch_third hr ((runAfter_withSwitch _ n s).trans hn)
  have hstands := settlePosition_switch p (withSwitch ⟨s.panel.switch.settled, r, 3⟩ s)
  rcases runAfter_range s.panel.switch r with h | h | h
  · rw [sampleSwitch_counts hr h (by decide), sampleSwitch_counts hr (runAfter_withSwitch _ 1 s) (by decide)]
    exact hthird 2 rfl []
  · rw [sampleSwitch_counts hr h (by decide), hthird 2 rfl, sampleSwitch_again hr hstands]
    rfl
  · rw [sampleSwitch_third hr h, sampleSwitch_again hr hstands, sampleSwitch_again hr hstands]
    rfl

/-- Three equal samples of another position: leaving, entering, and the settling (R151). -/
theorem exec_switchMoves (hr : positionOf r = some p) (ho : s.panel.switch.settled = old) (hne : old ≠ some p) :
    exec (.keySwitchSettle [r, r, r]) s = .next (settle (withSwitch ⟨old, r, 3⟩ s)
      (enterPosition p (leavePosition old (withSwitch ⟨old, r, 3⟩ s) (withSwitch ⟨some p, r, 3⟩ s)))) := by
  subst ho
  exact congrArg Host.Outcome.next ((sampleSwitch_settles hr).trans (settlePosition_moves hne))

/-- The sampling and the position at the end of that step. -/
theorem moved_switch (old : Option KeyPosition) (b s : State) :
    (settle b (enterPosition p (leavePosition old b (withSwitch ⟨some p, r, 3⟩ s)))).panel.switch =
      ⟨some p, r, 3⟩ := by
  have hout := (enterPosition_outside p _).trans (leavePosition_outside old b (withSwitch ⟨some p, r, 3⟩ s))
  rw [settle_panel]
  exact (congrArg (fun x => x.panel.switch) hout :)

/-! ### Into and out of LOCKED (R143, R144, R151) -/

/-- Out of SERVICE and not into it, the settling reads the panel as before. -/
theorem withSwitch_quiet {k k' : KeySwitch} (hk : (k.settled == some .service) = (k'.settled == some .service))
    (s : State) : Quiet (withSwitch k s) (withSwitch k' s) :=
  Quiet.setPanel (s := withSwitch k s) hk.symm

theorem Settled.withSwitch (h : Settled s) (r : KeyReading) (n : Nat) :
    Settled (withSwitch ⟨s.panel.switch.settled, r, n⟩ s) := h.quiet (Quiet.setPanel rfl)

/-- What the settling leaves where locks that spare LAMP changed alone. -/
theorem beaconJudge_rest (b s : State) : (beaconJudge b s).locks = s.locks ∧ (beaconJudge b s).lamp = s.lamp ∧
    (beaconJudge b s).group = s.group ∧ (beaconJudge b s).claims = s.claims := by
  rw [beaconJudge_eq]
  exact ⟨rfl, rfl, rfl, rfl⟩

/-- Entering LOCKED from a position that no lock leaves with adds the KEYSWITCH lock (R144, R151). -/
theorem settle_intoLocked (hs : Settled s) (k : LocksForm s.locks) (hnone : lockOf s.locks .keySwitch = none)
    (ho : s.panel.switch.settled = old) (hservice : (old == some .service) = false) :
    let u := settle (withSwitch ⟨old, r, 3⟩ s) (enterPosition .locked (withSwitch ⟨some .locked, r, 3⟩ s))
    u.locks = s.locks ++ [keyLock] ∧ u.lamp = s.lamp ∧ u.group = s.group ∧ u.claims = s.claims := by
  subst ho
  intro u
  set v := withSwitch ⟨s.panel.switch.settled, r, 3⟩ s
  set w := withSwitch ⟨some .locked, r, 3⟩ s
  have hnew : keyLock ∉ w.locks := fun hin => by
    have := List.find?_eq_none.mp hnone keyLock hin
    simp [keyLock] at this
  have hadd : enterPosition .locked w = w.setLocks (withoutHolder .keySwitch s.locks ++ [keyLock]) :=
    addLock_spared (s := w) (l := keyLock) k rfl rfl hnew
  have hsettle := settle_replaced (l := keyLock) (s := v) (u := w) (hs.withSwitch r 3) k (withSwitch_quiet hservice s)
    rfl rfl
  obtain ⟨hlocks, hlamp, hgroup, hclaims⟩ :=
    beaconJudge_rest v (w.setLocks (withoutHolder .keySwitch s.locks ++ [keyLock]))
  have hu : u = beaconJudge v (w.setLocks (withoutHolder .keySwitch s.locks ++ [keyLock])) :=
    (congrArg (settle v) hadd).trans hsettle
  rw [hu]
  refine ⟨hlocks.trans ?_, hlamp, hgroup, hclaims⟩
  rw [State.setLocks_locks, withoutHolder_none hnone]

/-- Leaving LOCKED for NORMAL removes the KEYSWITCH lock (R151). -/
theorem settle_outOfLocked (hs : Settled s) (k : LocksForm s.locks) (ho : s.panel.switch.settled = some .locked) :
    let b := withSwitch ⟨some .locked, r, 3⟩ s
    let u := settle b (leavePosition (some .locked) b (withSwitch ⟨some .normal, r, 3⟩ s))
    u.locks = withoutHolder .keySwitch s.locks ∧ u.lamp = s.lamp ∧ u.group = s.group ∧ u.claims = s.claims := by
  intro b u
  set w := withSwitch ⟨some .normal, r, 3⟩ s
  have hremove : leavePosition (some .locked) b w = w.setLocks (withoutHolder .keySwitch s.locks) :=
    removeLock_spared (s := w) k rfl
  have hb : Settled b := by
    have := hs.withSwitch r 3
    rwa [ho] at this
  have hsettle := settle_without (s := b) (u := w) (h := .keySwitch) hb k (withSwitch_quiet rfl s) rfl
  have hu : u = beaconJudge b (w.setLocks (withoutHolder .keySwitch s.locks)) :=
    (congrArg (settle b) hremove).trans hsettle
  rw [hu]
  exact beaconJudge_rest b _

/-! ### Into SERVICE (R26) -/

/-- A claiming lamp goes into SERVICE as one no longer wanted (R26). -/
theorem lampIntoService_claiming (h : claiming s.lamp.state = true) :
    lampIntoService s = setRelight false (unwanted s) := by
  unfold lampIntoService unwanted
  cases hs : s.lamp.state with
  | waiting | striking => rfl
  | dark | warming | lit | cooling | fault => simp [hs, claiming] at h

/-- Any other loses its wish alone (R26). -/
theorem lampIntoService_rest (h : claiming s.lamp.state = false) : lampIntoService s = setRelight false s := by
  unfold lampIntoService
  cases hs : s.lamp.state with
  | waiting | striking => rw [hs] at h; cases h
  | dark | warming | lit | cooling | fault => rfl

theorem unwanted_unclaimed_striking (h : inStrike s.lamp.state = true) : ownClaimed (unwanted s) = false := by
  unfold unwanted
  cases hs : s.lamp.state with
  | striking ph => exact ownClaimed_extinguish .cooling hs
  | dark | waiting | warming | lit | cooling | fault => rw [hs] at h; cases h

/-- What the settling leaves of a lamp that stays where it is: its state, and the own claim. -/
theorem settle_still (h : Still v) : (settle b v).lamp.state = v.lamp.state ∧
    ownClaimed (settle b v) = ownClaimed v := by
  refine ⟨(congrArg Lamp.state ((settle_keeps b v).stillLamp h) :), ?_⟩
  unfold ownClaimed
  rw [(settle_keeps b v).stillClaims h, settle_straps]

/-- A lamp that was claiming is out once SERVICE is entered, its claim released (R26). -/
theorem settle_claimingIntoService (b : State) (hc : claiming w.lamp.state = true) :
    let u := settle b (clearSelection (lampIntoService w))
    committedState u.lamp.state = false ∧ (w.lamp.state = .waiting → u.lamp.state = .dark ∧ ownClaimed u = false) ∧
    (inStrike w.lamp.state = true → u.lamp.state = .cooling ∧ ownClaimed u = false) := by
  rw [lampIntoService_claiming hc]
  have hout : committedState (unwanted w).lamp.state = false := unwanted_not_committed w
  have hstill : Still (clearSelection (setRelight false (unwanted w))) :=
    still_of_unwanted hout (by simp [wanted, clearSelection])
  obtain ⟨hstate, hclaimed⟩ := settle_still (b := b) hstill
  intro u
  refine ⟨hstate ▸ hout, fun hw => ⟨hstate.trans ?_, hclaimed.trans (unwanted_unclaimed hw)⟩,
    fun hw => ⟨hstate.trans ?_, hclaimed.trans (unwanted_unclaimed_striking hw)⟩⟩
  · exact (unwanted_state w).trans (by rw [hw])
  · refine (unwanted_state w).trans ?_
    cases hs : w.lamp.state with
    | striking ph => rfl
    | dark | waiting | warming | lit | cooling | fault => simp [hs, inStrike] at hw

/-- A burning lamp with the life limit judged burns on, whatever of group and locks the step changed. -/
theorem settle_burning (hlife : LifeJudged v) (hb : burning v.lamp.state = true) :
    (settle b v).lamp.state = v.lamp.state := by
  refine settle_steady_state (lifeJudge_fixed.mpr hlife) (startTest_fixed.mpr fun ⟨hd, _⟩ => ?_)
    (strikeTest_idle ⟨fun hw => ?_, fun hg => ?_⟩) hb
  · rw [hd] at hb; cases hb
  · rw [hw] at hb; cases hb
  · rw [hg] at hb; cases hb

/-- A lamp that was not claiming stays where it is (R26). -/
theorem settle_restIntoService (b : State) (hlife : LifeJudged w) (hc : claiming w.lamp.state = false) :
    (settle b (clearSelection (lampIntoService w))).lamp.state = w.lamp.state := by
  rw [lampIntoService_rest hc]
  set x := clearSelection (setRelight false w) with hx
  have hstill (hout : committedState w.lamp.state = false) : (settle b x).lamp.state = w.lamp.state := by
    have hwanted : wanted x = false := by simp [hx, wanted, clearSelection]
    obtain ⟨hstate, -⟩ := settle_still (b := b) (still_of_unwanted (s := x) hout hwanted)
    exact hstate
  cases hs : w.lamp.state with
  | warming | lit =>
    have hb : burning x.lamp.state = true := by
      change burning w.lamp.state = true
      rw [hs]
      rfl
    rw [settle_burning (v := x) (hlife.congr rfl rfl rfl rfl) hb, ← hs]
    rfl
  | dark | cooling | fault => rw [← hs]; exact hstill (by rw [hs]; rfl)
  | waiting | striking => rw [hs] at hc; cases hc

/-- SERVICE entered: the selection is cleared, the lamp neither claims nor waits to relight (R26). -/
theorem settle_intoService (b : State) (hlife : LifeJudged w) :
    let u := settle b (clearSelection (lampIntoService w))
    u.group.selection = .unselected ∧ u.group.mode = w.group.mode ∧ u.lamp.relight = false ∧
    claiming u.lamp.state = false := by
  intro u
  have k : SettleKeeps (clearSelection (lampIntoService w)) u := settle_keeps b _
  refine ⟨k.selection rfl, ?_, ?_, ?_⟩
  · have hgroup : (lampIntoService w).group = w.group := by
      unfold lampIntoService
      simp only
      split <;> simp
    rw [settle_mode]
    exact (congrArg Group.mode hgroup :)
  · exact Bool.eq_false_iff.mpr fun h => Bool.false_ne_true (k.relight h)
  · cases hc : claiming w.lamp.state with
    | true =>
      obtain ⟨hout, -⟩ := settle_claimingIntoService b hc
      exact claiming_of_not_committed hout
    | false =>
      rw [settle_restIntoService b hlife hc]
      exact hc

/-! ### The locks that stay over a settling -/

theorem mem_lifeJudge_locks {l : Lock} (hl : l ∈ s.locks) : l ∈ (lifeJudge s).locks := by
  rcases lifeJudge_cases s with ⟨x, h, -⟩ | ⟨-, hnone, h⟩
  · rw [h]; exact hl
  · rw [h, clearSelection_locks, unwanted_locks, State.setLocks_locks, withoutHolder_none hnone]
    exact List.mem_append_left _ hl

/-- The settling takes no lock away. -/
theorem mem_settle_locks {l : Lock} (hl : l ∈ s.locks) (b : State) : l ∈ (settle b s).locks := by
  have hfirst : l ∈ (firstJudgements s).locks := by
    refine mem_lifeJudge_locks ?_
    rw [strikeTest_locks, startTest_locks]
    exact mem_lifeJudge_locks hl
  obtain ⟨hjudged, -⟩ := judgeGroup_rest (firstJudgements s)
  obtain ⟨hwithdrawn, -⟩ := withdrawTest_locks b (judgeGroup (firstJudgements s))
  obtain ⟨hagain, -⟩ := judgeGroup_rest (withdrawTest b (judgeGroup (firstJudgements s)))
  obtain ⟨hlast, -⟩ := lastJudgements_rest b (judgeGroup (withdrawTest b (judgeGroup (firstJudgements s))))
  rw [settle_eq, hlast, hagain, hwithdrawn, hjudged]
  exact hfirst

theorem lampIntoService_locks (s : State) : (lampIntoService s).locks = s.locks :=
  congrArg Prod.fst (lockView_lampIntoService s)

/-! ### Out of SERVICE (R26, R114) -/

theorem ownAvailable_inService (h : inService b = true) : ownAvailable b = false := by
  simp [ownAvailable, h]

/-- Without the election's choice of the own lamp, an unselected station's lamp is put out (R26, R114). -/
theorem leaveService_unelected (hsel : w.group.selection = .unselected)
    (hn : w.group.mode = none ∨ ownAvailable w = false ∨ electionTakesOwn w = false) :
    leavePosition (some .service) b w = unwanted w := by
  have helect : electIfAvailable b w = w := by
    unfold electIfAvailable elect
    rcases hn with h | h | h <;> simp [h]
  have hwanted : wanted w = false := by simp [wanted, hsel]
  change applyDecision (electIfAvailable b w) = _
  rw [helect, applyDecision, hwanted]
  rfl

/-- Elected, the lamp is told that it is wanted, by the election and by the decision applied (R26, R114). -/
theorem leaveService_elected (hb : inService b = true) (hout : inService w = false)
    (hsel : w.group.selection = .unselected) (hm : w.group.mode.isSome = true) (ha : ownAvailable w = true)
    (ht : electionTakesOwn w = true) :
    leavePosition (some .service) b w = nowWanted (nowWanted (elected w)) := by
  have hbefore : wanted w = false := by simp [wanted, hsel]
  have hafter : wanted (elected w) = true := by simp [wanted, elected, hm]
  have helect : electIfAvailable b w = nowWanted (elected w) := by
    have hstays : inService (elected w) = false := hout
    unfold electIfAvailable elect
    rw [hm, ownAvailable_inService hb, ha, ht]
    change onDecision (wanted w) (elected w) = _
    unfold onDecision
    rw [hstays, hbefore, hafter]
    rfl
  have hwanted : wanted (nowWanted (elected w)) = true := by
    unfold wanted at hafter ⊢
    rwa [nowWanted_group]
  change applyDecision (electIfAvailable b w) = _
  rw [helect, applyDecision, hwanted]
  rfl

theorem nowWanted_burning (h : burning s.lamp.state = true) : nowWanted s = s := by
  unfold nowWanted
  cases hs : s.lamp.state with
  | warming | lit => rfl
  | dark | waiting | striking | cooling | fault => simp [hs, burning] at h

theorem nowWanted_waiting (h : s.lamp.state = .waiting) : nowWanted s = s := by
  unfold nowWanted
  rw [h]

theorem nowWanted_cooling (h : s.lamp.state = .cooling) (hr : s.lamp.restrike.isSome = true) :
    nowWanted s = setRelight true s := by
  unfold nowWanted
  rw [h]
  exact if_pos hr

/-- Alone, a station elected at leaving SERVICE stays elected (R119), and its lamp is settled as the first judgements
leave it. -/
theorem settle_leaveService {x : State} (hlife : LifeJudged w) (halone : Alone w) (q : Risen w x)
    (hgroup : x.group = (elected w).group) :
    (settle b x).group.selection = .elected ∧
    (settle b x).lamp.state = (firstJudgements x).lamp.state ∧
    (settle b x).lamp.relight = (firstJudgements x).lamp.relight ∧
    (settle b x).lamp.renewal = (firstJudgements x).lamp.renewal := by
  obtain ⟨hpeers, -⟩ := halone
  have hu : settle b x = lastJudged b (firstJudgements x) :=
    settle_memberless ((committedPeers_outside q.outside).trans hpeers)
  obtain ⟨-, hfirst⟩ := firstJudgements_keep (LifeJudged.risen hlife q x.line)
  have hfirst : (firstJudgements x).group = x.group := hfirst
  rw [hu, lastJudged_group, lastJudged_lamp]
  refine ⟨?_, rfl, rfl, rfl⟩
  change (firstJudgements x).group.selection = _
  rw [hfirst, hgroup]
  rfl

/-- A lamp in neither DARK, WAITING nor STRIKING has nothing ahead of the group's judgement. -/
theorem firstJudgements_idle (hlife : LifeJudged s)
    (hs : burning s.lamp.state = true ∨ s.lamp.state = .cooling) : firstJudgements s = s := by
  have hidle : s.lamp.state ≠ .dark ∧ s.lamp.state ≠ .waiting ∧ s.lamp.state ≠ .striking .gap := by
    refine ⟨?_, ?_, ?_⟩ <;> intro e <;> simp [e, burning] at hs
  obtain ⟨hdark, hstrike⟩ := hidle
  exact firstJudgements_steady ⟨hlife, fun ⟨hd, _⟩ => hdark hd, strikeTest_idle hstrike⟩

/-- The station elected at leaving SERVICE, alone in its group (R26, R114). -/
theorem settle_electedOut (hlife : LifeJudged w) (halone : Alone w) (hb : inService b = true)
    (hout : inService w = false) (hsel : w.group.selection = .unselected) (hm : w.group.mode.isSome = true)
    (ha : ownAvailable w = true) (ht : electionTakesOwn w = true) :
    let u := settle b (leavePosition (some .service) b w)
    u.group.selection = .elected ∧
    (burning w.lamp.state = true → u.lamp.state = w.lamp.state) ∧
    (w.lamp.state = .dark → anyFault w.lamp.faults = false → w.pins.supplyLow = false →
      u.lamp.state = .waiting ∧ u.lamp.renewal = some 4000) ∧
    (w.lamp.state = .cooling → w.lamp.restrike.isSome = true → u.lamp.state = .cooling ∧ u.lamp.relight = true) := by
  rw [leaveService_elected hb hout hsel hm ha ht]
  set x := nowWanted (nowWanted (elected w)) with hx
  have q : Risen w x := ((elected_risen w).trans (.nowWanted _)).trans (.nowWanted _)
  have hgroup : x.group = (elected w).group := by rw [hx, nowWanted_group, nowWanted_group]
  have hxlife : LifeJudged x := LifeJudged.risen hlife q x.line
  obtain ⟨hselection, hstate, hrelight, hrenewal⟩ := settle_leaveService (b := b) hlife halone q hgroup
  intro u
  refine ⟨hselection, fun hburn => ?_, fun hd hf hp => ?_, fun hc hr => ?_⟩
  · have hself : x = elected w := by
      rw [hx, nowWanted_burning (s := elected w) hburn, nowWanted_burning (s := elected w) hburn]
    have hxburn : burning x.lamp.state = true := by rw [hself]; exact hburn
    rw [hstate, firstJudgements_idle hxlife (.inl hxburn), hself]
    rfl
  · obtain ⟨c, hc⟩ := Option.isSome_iff_exists.mp hm
    have hon : turnedOn c w = w := by
      unfold turnedOn
      rw [← hc]
      rfl
    have hstart : startConditions (elected w) = true := by
      have := startConditions_elected (c := c) ha hf hp
      rwa [hon] at this
    have hwaits : x = enterWaiting (elected w) := by
      rw [hx, nowWanted_dark (s := elected w) hd hstart, nowWanted_waiting rfl]
    have hxwaiting : x.lamp.state = .waiting := by rw [hwaits]; rfl
    have htested : startTest x = x := startTest_fixed.mpr fun ⟨hdark, _⟩ => by rw [hxwaiting] at hdark; cases hdark
    have hunclaimed : ownClaimed x = false := by
      obtain ⟨-, hclaim⟩ := halone
      rw [hwaits]
      exact hclaim
    have hfirst : firstJudgements x = x :=
      (firstJudgements_waiting hxlife (by rw [htested]; exact hxwaiting) hunclaimed).trans htested
    rw [hstate, hrenewal, hfirst, hwaits]
    exact ⟨rfl, rfl⟩
  · have hrelit : x = setRelight true (setRelight true (elected w)) := by
      rw [hx, nowWanted_cooling (s := elected w) hc hr, nowWanted_cooling (s := setRelight true (elected w)) hc hr]
    have hxcooling : x.lamp.state = .cooling := by rw [hrelit]; exact hc
    have hfirst : firstJudgements x = x := firstJudgements_idle hxlife (.inr hxcooling)
    rw [hstate, hrelight, hfirst]
    exact ⟨hxcooling, by rw [hrelit]; rfl⟩

/-- The lamp not wanted at leaving SERVICE is out at the end of the step (R13, R26). -/
theorem settle_unelectedOut (b : State) (hsel : w.group.selection = .unselected)
    (hn : w.group.mode = none ∨ ownAvailable w = false ∨ electionTakesOwn w = false) :
    let u := settle b (leavePosition (some .service) b w)
    u.group.selection = .unselected ∧ committedState u.lamp.state = false ∧
    (burning w.lamp.state = true → u.lamp.state = .cooling ∧ u.lamp.relight = false ∧ u.lamp.actual = 0) := by
  rw [leaveService_unelected hsel hn]
  intro u
  obtain ⟨hout, -, hlit⟩ := settle_unwanted b (unwanted w).line (show wanted w = false by simp [wanted, hsel])
  refine ⟨(settle_keeps b _).selection (by rw [unwanted_group]; exact hsel), hout, fun hburn => ?_⟩
  obtain ⟨hcooling, hrelight, hactual, -⟩ := hlit (litSide_of_burning hburn)
  exact ⟨hcooling, hrelight, hactual⟩

/-- Leaving SERVICE keeps the mode (R114). -/
theorem leaveService_mode (b w : State) : (leavePosition (some .service) b w).group.mode = w.group.mode := by
  have hdecided (x : State) : (applyDecision x).group = x.group := by
    unfold applyDecision
    split <;> simp
  change (applyDecision (electIfAvailable b w)).group.mode = _
  rw [hdecided]
  rcases electIfAvailable_elects b w with h | h | h <;> rw [h]
  · rfl
  · exact (congrArg Group.mode (nowWanted_group (elected w)) :)

end Sys2Proof.Machine
end

section
/-! ## KEY_SWITCH_SETTLE (08, R26, R114, R150, R151) -/

namespace Sys2Proof.Machine

variable {s : State} {old : Option KeyPosition}

theorem LocksSafe.unlocked (k : LocksSafe s) (h : s.panel.switch.settled ≠ some .locked) :
    lockOf s.locks .keySwitch = none := by
  rw [← Option.not_isSome_iff_eq_none, k.keySwitch]
  exact h

theorem inService_of_switch {k : KeySwitch} (h : s.panel.switch = k) : inService s = (k.settled == some .service) := by
  unfold inService
  rw [h]

/-- Into SERVICE from a position that is left without further effect (R26). -/
theorem exec_intoService (hs : Settled s) (ho : s.panel.switch.settled = old)
    (hold : old = none ∨ old = some .normal) :
    ∃ u, exec (.keySwitchSettle [.service, .service, .service]) s = .next u ∧
      u.panel.switch = ⟨some .service, .service, 3⟩ ∧ inService u = true ∧ u.group.selection = .unselected ∧
      u.group.mode = s.group.mode ∧ u.lamp.relight = false ∧ claiming u.lamp.state = false ∧
      (s.lamp.state = .waiting → u.lamp.state = .dark ∧ ownClaimed u = false) ∧
      (inStrike s.lamp.state = true → u.lamp.state = .cooling ∧ ownClaimed u = false) ∧
      (claiming s.lamp.state = false → u.lamp.state = s.lamp.state) := by
  set b := withSwitch ⟨old, .service, 3⟩ s
  set w := withSwitch ⟨some .service, .service, 3⟩ s
  have hleft : leavePosition old b w = w := by
    rcases hold with rfl | rfl <;> rfl
  have hexec := exec_switchMoves (r := .service) (p := .service) rfl ho (by rcases hold with rfl | rfl <;> nofun)
  have hswitch := moved_switch (p := .service) (r := .service) old b s
  change (settle b (enterPosition .service (leavePosition old b w))).panel.switch = _ at hswitch
  rw [hleft] at hswitch
  have hlife : LifeJudged w := hs.lifeJudged
  obtain ⟨hselection, hmode, hrelight, hclaiming⟩ := settle_intoService b hlife
  refine ⟨_, hexec.trans (congrArg (fun x => Host.Outcome.next (settle b (enterPosition .service x))) hleft), hswitch,
    inService_of_switch hswitch, hselection, hmode, hrelight, hclaiming, fun hw => ?_, fun hw => ?_,
    settle_restIntoService b hlife⟩
  · have hc : claiming w.lamp.state = true := by
      change claiming s.lamp.state = true
      rw [hw]
      rfl
    obtain ⟨-, hwaiting, -⟩ := settle_claimingIntoService b hc
    exact hwaiting hw
  · have hc : claiming w.lamp.state = true := by
      change claiming s.lamp.state = true
      cases hst : s.lamp.state with
      | striking ph => rfl
      | dark | waiting | warming | lit | cooling | fault => simp [hst, inStrike] at hw
    obtain ⟨-, -, hstriking⟩ := settle_claimingIntoService b hc
    exact hstriking hw

/-- Out of LOCKED into SERVICE: the KEYSWITCH lock leaves, every other stays (R26, R151). -/
theorem exec_lockedIntoService (hs : Settled s) (k : LocksForm s.locks)
    (ho : s.panel.switch.settled = some .locked) :
    ∃ u, exec (.keySwitchSettle [.service, .service, .service]) s = .next u ∧
      u.panel.switch = ⟨some .service, .service, 3⟩ ∧ lockOf u.locks .keySwitch = none ∧
      (∀ l ∈ s.locks, l.holder ≠ .keySwitch → l ∈ u.locks) ∧
      u.group.selection = .unselected ∧ claiming u.lamp.state = false ∧ u.lamp.relight = false := by
  set b := withSwitch ⟨some .locked, .service, 3⟩ s
  set w := (withSwitch ⟨some .service, .service, 3⟩ s).setLocks (withoutHolder .keySwitch s.locks) with hw
  have hleft : leavePosition (some .locked) b (withSwitch ⟨some .service, .service, 3⟩ s) = w :=
    removeLock_spared (s := withSwitch ⟨some .service, .service, 3⟩ s) k rfl
  have hexec := exec_switchMoves (r := .service) (p := .service) rfl ho nofun
  have hswitch := moved_switch (p := .service) (r := .service) (some .locked) b s
  rw [hleft] at hswitch
  have hlife : LifeJudged w := (hs.setLocks (k.lampLocked_without (h := .keySwitch) rfl)
    (lockOf_without_other (h := .keySwitch) (g := .wear) nofun s.locks)).lifeJudged
  have hlocks : (clearSelection (lampIntoService w)).locks = withoutHolder .keySwitch s.locks :=
    lampIntoService_locks w
  obtain ⟨hselection, -, hrelight, hclaiming⟩ := settle_intoService b hlife
  refine ⟨_, hexec.trans (congrArg (fun x => Host.Outcome.next (settle b (enterPosition .service x))) hleft), hswitch,
    ?_, fun l hl hother => ?_, hselection, hclaiming, hrelight⟩
  · refine (settle_lockOf (h := .keySwitch) nofun b _).trans ?_
    change lockOf (clearSelection (lampIntoService w)).locks .keySwitch = none
    rw [hlocks, lockOf_withoutHolder]
  · refine mem_settle_locks ?_ b
    change l ∈ (clearSelection (lampIntoService w)).locks
    rw [hlocks]
    exact mem_withoutHolder.mpr ⟨hl, hother⟩

/-- The first settling, in NORMAL, is the sampling alone (R150). -/
theorem exec_firstNormal (hs : Settled s) (ho : s.panel.switch.settled = none) :
    exec (.keySwitchSettle [.normal, .normal, .normal]) s = .next (withSwitch ⟨some .normal, .normal, 3⟩ s) := by
  have hexec := exec_switchMoves (r := .normal) (p := .normal) rfl ho nofun
  have hb : Settled (withSwitch ⟨none, .normal, 3⟩ s) := by
    have := hs.withSwitch .normal 3
    rwa [ho] at this
  refine hexec.trans (congrArg Host.Outcome.next ?_)
  exact (settle_quiet (u := withSwitch ⟨some .normal, .normal, 3⟩ s) hb (withSwitch_quiet rfl s)).trans
    (beaconJudge_same rfl)

/-- Settles O49, position by position: the locks and the lamp over leaving, entering and the settling. -/
theorem keySwitchSettles : Obligations.KeySwitchSettles := by
  intro s hs hlocks
  have k := hlocks.form
  refine ⟨fun ho => ?_, fun ho _ => ?_, fun ho _ => exec_intoService hs ho (.inr rfl), fun ho _ => ?_,
    fun ho _ hsel => ?_, fun ho _ => ⟨exec_firstNormal hs ho, ?_, ?_⟩, fun ho hreading => ⟨?_, ?_⟩⟩
  · have hnone := hlocks.unlocked (by rw [ho]; nofun)
    exact ⟨_, exec_switchMoves (p := .locked) rfl ho nofun, moved_switch _ _ s, settle_intoLocked hs k hnone ho rfl⟩
  · exact ⟨_, exec_switchMoves (p := .normal) rfl ho nofun, moved_switch _ _ s, settle_outOfLocked hs k ho⟩
  · exact exec_lockedIntoService hs k ho
  · intro w
    set b := withSwitch ⟨some .service, .normal, 3⟩ s
    have hswitch := moved_switch (p := .normal) (r := .normal) (some .service) b s
    refine ⟨_, exec_switchMoves (p := .normal) rfl ho nofun, hswitch, inService_of_switch hswitch, ?_,
      settle_unelectedOut (w := w) b hsel,
      fun hm ha ht halone => settle_electedOut (w := w) hs.lifeJudged halone rfl rfl hsel hm ha ht⟩
    exact (settle_mode b _).trans (leaveService_mode b w)
  · have hnone := hlocks.unlocked (by rw [ho]; nofun)
    obtain ⟨hadded, -⟩ := settle_intoLocked (r := .locked) hs k hnone ho rfl
    exact ⟨_, exec_switchMoves (p := .locked) rfl ho nofun, moved_switch _ _ s, hadded⟩
  · obtain ⟨u, hexec, hswitch, hservice, hselection, -, -, hclaiming, -⟩ := exec_intoService hs ho (.inl rfl)
    exact ⟨u, hexec, hswitch, hservice, hselection, hclaiming⟩
  · have hfirst : runAfter s.panel.switch .locked = 1 := if_neg (by rw [hreading]; nofun)
    rw [← ho]
    exact congrArg Host.Outcome.next ((sampleSwitch_counts (p := .locked) rfl hfirst (by decide)).trans
      (sampleSwitch_counts (p := .locked) rfl (runAfter_withSwitch _ 1 s) (by decide)))
  · rw [← ho]
    rfl

end Sys2Proof.Machine
end

section
/-! ## The slot table: its order, its form and the slots that are chosen of it (09, R160, R161, R163) -/

namespace Sys2Proof.Machine

variable {x y z : Slot} {xs : List Slot} {group : Nat}

/-! ### The order of slots (R160) -/

/-- The order is by first weekday, then start, then id. -/
theorem slotBefore_iff : slotBefore x y = true ↔ firstDay x.weekdays < firstDay y.weekdays ∨
    firstDay x.weekdays = firstDay y.weekdays ∧ (x.start < y.start ∨ x.start = y.start ∧ x.id < y.id) := by
  unfold slotBefore
  split
  · simp only [decide_eq_true_eq]; omega
  · split <;> simp only [decide_eq_true_eq] <;> omega

theorem slotBefore_trans (hxy : slotBefore x y = true) (hyz : slotBefore y z = true) : slotBefore x z = true := by
  rw [slotBefore_iff] at *
  omega

/-- Of two slots of different ids one stands before the other. -/
theorem slotBefore_total (hid : x.id ≠ y.id) (h : ¬slotBefore x y = true) : slotBefore y x = true := by
  rw [slotBefore_iff] at *
  omega

theorem insertSlot_perm (x : Slot) (xs : List Slot) : (insertSlot x xs).Perm (x :: xs) := by
  induction xs with
  | nil => exact List.Perm.refl _
  | cons y rest ih =>
    unfold insertSlot
    split
    · exact List.Perm.refl _
    · exact (ih.cons y).trans (List.Perm.swap x y rest)

theorem mem_insertSlot : z ∈ insertSlot x xs ↔ z = x ∨ z ∈ xs :=
  (insertSlot_perm x xs).mem_iff.trans List.mem_cons

/-- A slot of a new id put in its place keeps the order. -/
theorem insertSlot_ordered (hid : ∀ y ∈ xs, y.id ≠ x.id) (h : xs.Pairwise fun x y => slotBefore x y = true) :
    (insertSlot x xs).Pairwise fun x y => slotBefore x y = true := by
  induction xs with
  | nil => exact List.pairwise_singleton _ _
  | cons y rest ih =>
    obtain ⟨hy, hrest⟩ := List.pairwise_cons.mp h
    unfold insertSlot
    split
    · next hxy =>
      refine List.pairwise_cons.mpr ⟨fun z hz => ?_, h⟩
      rcases List.mem_cons.mp hz with rfl | hz
      · exact hxy
      · exact slotBefore_trans hxy (hy z hz)
    · next hxy =>
      refine List.pairwise_cons.mpr ⟨fun z hz => ?_, ih (fun z hz => hid z (List.mem_cons_of_mem y hz)) hrest⟩
      rcases mem_insertSlot.mp hz with rfl | hz
      · exact slotBefore_total (hid y List.mem_cons_self).symm hxy
      · exact hy z hz

/-! ### The form of a table (R160) -/

/-- At most 64 slots of a group, each formed, no id twice, in their order. -/
structure SlotTable (group : Nat) (xs : List Slot) : Prop where
  length : xs.length ≤ 64
  ids : (xs.map fun x => x.id).Nodup
  formed : ∀ x ∈ xs, slotFormed group x = true
  ordered : xs.Pairwise fun x y => slotBefore x y = true

theorem slotTable_nil : SlotTable group [] := ⟨Nat.zero_le _, List.nodup_nil, nofun, List.Pairwise.nil⟩

theorem mem_withoutSlot {id : Nat} : z ∈ withoutSlot id xs ↔ z ∈ xs ∧ z.id ≠ id := by
  unfold withoutSlot
  rw [List.mem_filter, bne_iff_ne]

theorem SlotTable.without (h : SlotTable group xs) (id : Nat) : SlotTable group (withoutSlot id xs) where
  length := (List.length_filter_le _ _).trans h.length
  ids := h.ids.sublist (List.filter_sublist.map _)
  formed z hz := h.formed z (mem_withoutSlot.mp hz).1
  ordered := h.ordered.filter _

/-- A slot of a new id joins a table that is not full. -/
theorem SlotTable.insert (h : SlotTable group xs) (hx : slotFormed group x = true) (hid : ∀ y ∈ xs, y.id ≠ x.id)
    (hfree : xs.length < 64) : SlotTable group (insertSlot x xs) where
  length := by
    rw [(insertSlot_perm x xs).length_eq, List.length_cons]
    exact hfree
  ids := by
    rw [((insertSlot_perm x xs).map fun x => x.id).nodup_iff, List.map_cons, List.nodup_cons]
    refine ⟨fun hmem => ?_, h.ids⟩
    obtain ⟨y, hy, e⟩ := List.mem_map.mp hmem
    exact hid y hy e
  formed z hz := by
    rcases mem_insertSlot.mp hz with rfl | hz
    · exact hx
    · exact h.formed z hz
  ordered := insertSlot_ordered hid h.ordered

/-- A stored id leaves a place when its slot is taken away. -/
theorem withoutSlot_length {id : Nat} (h : (xs.any fun y => y.id == id) = true) :
    (withoutSlot id xs).length < xs.length := by
  obtain ⟨y, hy, e⟩ := List.any_eq_true.mp h
  refine List.length_filter_lt_length_iff_exists.mpr ⟨y, hy, ?_⟩
  simpa using e

theorem withoutSlot_absent {id : Nat} (h : ¬(xs.any fun y => y.id == id) = true) : withoutSlot id xs = xs := by
  refine List.filter_eq_self.mpr fun y hy => bne_iff_ne.mpr fun e => h ?_
  exact List.any_eq_true.mpr ⟨y, hy, beq_iff_eq.mpr e⟩

/-- What a slot is whatever groups it names: as it is stored, for the groups it names (R160, R161). -/
def SlotStorable (x : Slot) : Prop := ∀ group, x.groups.getLsbD group = true → slotFormed group x = true

/-- A put slot leaves a table in form (R161, steps 3 to 6). -/
theorem SlotTable.put (h : SlotTable group xs) (hx : SlotStorable x) : SlotTable group (putSlot group x xs).1 := by
  unfold putSlot
  split
  · exact h.without _
  · next hgroup =>
    have hformed : slotFormed group x = true := hx group (by simpa using hgroup)
    split
    · next hstored =>
      exact (h.without _).insert hformed (fun y hy => (mem_withoutSlot.mp hy).2)
        (lt_of_lt_of_le (withoutSlot_length hstored) h.length)
    · next hnew =>
      split
      · exact h
      · next hfree =>
        refine h.insert hformed (fun y hy e => hnew ?_) (Nat.lt_of_not_le hfree)
        exact List.any_eq_true.mpr ⟨y, hy, beq_iff_eq.mpr e⟩

/-- A slot record of the right form (R161, step 1). -/
theorem slotOf_form {body : List Byte} (h : slotOf body = some x) :
    (1 ≤ x.id ∧ x.id ≤ 255) ∧ x.weekdays ≠ 0 ∧ x.start < x.stop ∧ x.stop ≤ 1440 := by
  unfold slotOf at h
  split at h
  · next id wd s1 s0 e1 e0 k g1 g0 src lvl lead =>
    simp only at h
    split at h
    · split at h
      · next hform =>
        obtain ⟨hid, hweekdays, -, -, hstart, hstop, -⟩ := hform
        obtain rfl := Option.some.inj h
        have hone : 1 ≤ id.toNat := Nat.one_le_iff_ne_zero.mpr fun e => hid (BitVec.eq_of_toNat_eq e)
        exact ⟨⟨hone, Nat.le_of_lt_succ id.isLt⟩, hweekdays, hstart, hstop⟩
      · cases h
    · cases h
  · cases h

/-- The values of a slot in range: a lead of 30 minutes at most, a level of 10 to 200, neither in a CLOSED slot. -/
theorem slotInRange_values (x : Slot) : (slotInRange x).lead ≤ 30 ∧
    (∀ v ∈ (slotInRange x).level, 10 ≤ v ∧ v ≤ 200) ∧
    ((slotInRange x).kind = .closed →
      (slotInRange x).source = none ∧ (slotInRange x).level = none ∧ (slotInRange x).lead = 0) := by
  have hlevel : ∀ v ∈ x.level.map (clamp 10 200), 10 ≤ v ∧ v ≤ 200 := by
    intro v hv
    obtain ⟨w, -, rfl⟩ := Option.mem_map.mp hv
    exact clamp_bounds (by decide) w
  unfold slotInRange
  split
  · exact ⟨Nat.zero_le _, nofun, fun _ => ⟨rfl, rfl, rfl⟩⟩
  · next hkind => exact ⟨Nat.min_le_right _ _, hlevel, fun e => absurd e hkind⟩

theorem slotInRange_rest (x : Slot) : (slotInRange x).id = x.id ∧ (slotInRange x).weekdays = x.weekdays ∧
    (slotInRange x).start = x.start ∧ (slotInRange x).stop = x.stop ∧ (slotInRange x).groups = x.groups := by
  unfold slotInRange
  split <;> exact ⟨rfl, rfl, rfl, rfl, rfl⟩

/-- A slot record of the right form, brought into range, may be stored (R161, steps 1 and 2). -/
theorem slotInRange_storable {body : List Byte} (h : slotOf body = some x) : SlotStorable (slotInRange x) := by
  intro group hgroup
  obtain ⟨⟨hone, hmax⟩, hweekdays, hstart, hstop⟩ := slotOf_form h
  obtain ⟨hid, hdays, hbegin, hend, -⟩ := slotInRange_rest x
  obtain ⟨hlead, hlevel, hclosed⟩ := slotInRange_values x
  rw [← hid] at hone hmax
  rw [← hdays] at hweekdays
  rw [← hbegin, ← hend] at hstart
  rw [← hend] at hstop
  generalize slotInRange x = y at *
  unfold slotFormed
  simp only [Bool.and_eq_true, decide_eq_true_eq, bne_iff_ne]
  refine ⟨⟨⟨⟨⟨⟨⟨⟨hone, hmax⟩, hweekdays⟩, hstart⟩, hstop⟩, hgroup⟩, hlead⟩, ?_⟩, ?_⟩
  · split
    · rfl
    · next v hv => simpa using hlevel v hv
  · split
    · next hkind =>
      obtain ⟨hsource, hnone, hzero⟩ := hclosed hkind
      rw [hsource, hnone, hzero]
      rfl
    · rfl
    · rfl

/-! ### The slots chosen of a table (R163) -/

theorem mem_of_lowestId (h : lowestId xs = some x) : x ∈ xs := by
  induction xs generalizing x with
  | nil => cases h
  | cons y rest ih =>
    unfold lowestId at h
    split at h
    · obtain rfl := Option.some.inj h; exact List.mem_cons_self
    · next z hz =>
      split at h <;> obtain rfl := Option.some.inj h
      · exact List.mem_cons_self
      · exact List.mem_cons_of_mem y (ih hz)

/-- The slot chosen by an order of kinds is one of the slots, of one of the kinds. -/
theorem mem_of_firstOfKinds {ks : List SlotKind} (h : firstOfKinds ks xs = some x) : x ∈ xs ∧ x.kind ∈ ks := by
  induction ks with
  | nil => cases h
  | cons k rest ih =>
    unfold firstOfKinds at h
    split at h
    · next y hy =>
      obtain rfl := Option.some.inj h
      obtain ⟨hmem, hkind⟩ := List.mem_filter.mp (mem_of_lowestId hy)
      rw [beq_iff_eq.mp hkind]
      exact ⟨hmem, List.mem_cons_self⟩
    · exact ⟨(ih h).1, List.mem_cons_of_mem k (ih h).2⟩

theorem mem_of_effectiveSlot {m : Nat} (h : effectiveSlot m xs = some x) : x ∈ xs :=
  List.mem_of_mem_filter (mem_of_firstOfKinds h).1

theorem mem_of_onSlot {m : Nat} (h : onSlot m xs = some x) : x ∈ xs := by
  unfold onSlot at h
  split at h
  · next y hy =>
    split at h
    · cases h
    all_goals
      obtain rfl := Option.some.inj h
      exact mem_of_effectiveSlot hy
  · exact List.mem_of_mem_filter (mem_of_firstOfKinds h).1

/-- With a CLOSED slot effective there is no ON slot (R163). -/
theorem onSlot_closed {m : Nat} (h : isClosed (effectiveSlot m xs) = true) : onSlot m xs = none := by
  unfold onSlot
  unfold isClosed at h
  split at h
  · cases h
  · next y hy =>
    rw [hy]
    simp only [beq_iff_eq.mp h]

/-- The level that a formed slot sets is in range (R109, R160). -/
theorem slotLevelOf_range (h : slotFormed group x = true) : ∀ v ∈ slotLevelOf (some x), 10 ≤ v ∧ v ≤ 200 := by
  intro v hv
  have hlevel : x.level = some v := by
    unfold slotLevelOf at hv
    simp only at hv
    split at hv
    · cases hv
    all_goals exact hv
  unfold slotFormed at h
  rw [hlevel] at h
  simp only [Bool.and_eq_true, decide_eq_true_eq] at h
  tauto

end Sys2Proof.Machine
end

section
/-! ## What every operation keeps of tables, clock, memory, settings and orders (R64, R101, R154, R160, R181) -/

namespace Sys2Proof.Machine

variable {s u : State} {lim : Bool → Nat}

/-! ### The parts of the invariant -/

/-- The schedule of a group: its table and its held copies (R160, R163, R164). -/
structure ScheduleForm (group : Nat) (x : Schedule) : Prop where
  table : SlotTable group x.slots
  effective : ∀ y ∈ x.heldEffective, slotFormed group y = true
  on : ∀ y ∈ x.heldOn, slotFormed group y = true
  closed : isClosed x.heldEffective = true → x.heldOn = none

theorem slotsSafe_iff : SlotsSafe s ↔ ScheduleForm s.settings.group s.schedule :=
  ⟨fun ⟨h1, h2, h3, h4, h5, h6, h7⟩ => ⟨⟨h1, h2, h3, h4⟩, h5, h6, h7⟩,
    fun ⟨⟨h1, h2, h3, h4⟩, h5, h6, h7⟩ => ⟨h1, h2, h3, h4, h5, h6, h7⟩⟩

/-- What the start's order asks of the start itself, the clock and the schedule (R180, R182, R185). -/
def StartForm (s : State) : Prop :=
  (s.start.receiver = true → s.start.passTwo = true) ∧
    (s.start.passTwo = false →
      s.clock.sure = none ∧ s.schedule.heldEffective = none ∧ s.schedule.heldOn = none) ∧
    (∀ a ∈ s.start.wearPlace, a + 10 ≤ Config.memorySize) ∧ 1 ≤ s.straps.number ∧ s.straps.number ≤ 31

/-- Everything of the invariant that stands outside what the settling touches, but for the Peer Table. -/
def TablesForm (s : State) : Prop :=
  ScheduleForm s.settings.group s.schedule ∧ ClockSafe s ∧ Memory.wf s.serial = true ∧ SettingsSafe s.settings ∧
    StartForm s

theorem TablesForm.schedule (k : TablesForm s) : ScheduleForm s.settings.group s.schedule := k.1

theorem TablesForm.clock (k : TablesForm s) : ClockSafe s := k.2.1

theorem TablesForm.memory (k : TablesForm s) : Memory.wf s.serial = true := k.2.2.1

theorem TablesForm.settings (k : TablesForm s) : SettingsSafe s.settings := k.2.2.2.1

theorem TablesForm.start (k : TablesForm s) : StartForm s := k.2.2.2.2

/-- The orders of the group in their ranges, and no selection while it is OFF (R101, R109, R118). -/
structure GroupForm (g : Group) : Prop where
  levelOverride : ∀ v ∈ g.levelOverride, 10 ≤ v ∧ v ≤ 200
  slotLevel : ∀ v ∈ g.slotLevel, 10 ≤ v ∧ v ≤ 200
  growth : g.growth ≤ 30
  off : g.mode = none → g.selection = .unselected

/-- Before pass two the receiver is not enabled and no lamp is committed (R182). -/
def LampWaits (s : State) : Prop :=
  s.start.passTwo = false → s.start.receiver = false ∧ committedState s.lamp.state = false

/-- The miss limit by LINE_POOR (R70). -/
def limitBy (poor : Bool) : Nat := if poor then 6 else 3

/-- The Peer Table under a miss limit that LINE_POOR gives. -/
def PeersUnder (lim : Bool → Nat) (s : State) : Prop :=
  (s.peers.map fun p => p.station).Nodup ∧ ∀ p ∈ s.peers, peerFormed s.straps.number (lim s.line.poor) p = true

theorem peersUnder_limitBy : PeersUnder limitBy s ↔ PeersSafe s := Iff.rfl

/-- What every operation of a step keeps: all of the invariant but the range of P, which the settling gives. The miss
limit is a parameter, as LINE_POOR may fall before the stations over the lower limit have gone (R70, R178). -/
def Sound (lim : Bool → Nat) (s : State) : Prop := TablesForm s ∧ PeersUnder lim s ∧ GroupForm s.group ∧ LampWaits s

theorem Sound.tables (k : Sound lim s) : TablesForm s := k.1

theorem Sound.peers (k : Sound lim s) : PeersUnder lim s := k.2.1

theorem Sound.group (k : Sound lim s) : GroupForm s.group := k.2.2.1

theorem Sound.lamp (k : Sound lim s) : LampWaits s := k.2.2.2

theorem Safe.sound (h : Safe s) : Sound limitBy s := by
  obtain ⟨⟨hreceiver, hearly, hplace, hnumber⟩, hsettings, -, -, -, -, -, -, hslots, hclock, -, -, hpeers, -,
    ⟨hoverride, hslot, -, -, hgrowth, hoff⟩, hmemory⟩ := h
  refine ⟨⟨slotsSafe_iff.mp hslots, hclock, hmemory, hsettings, ⟨hreceiver, fun hp => ?_, hplace, hnumber⟩⟩, hpeers,
    ⟨hoverride, hslot, hgrowth, hoff⟩, fun hp => ⟨?_, (hearly hp).1⟩⟩
  · exact (hearly hp).2
  · exact Bool.eq_false_iff.mpr fun hr => absurd ((hreceiver hr).symm.trans hp) nofun

/-! ### What the invariant reads -/

/-- What `TablesForm` reads of a state. -/
def tablesView (s : State) : Schedule × Clock × List Host.Cell × Settings × StartUp × Nat :=
  (s.schedule, s.clock, s.serial, s.settings, s.start, s.straps.number)

/-- What `GroupForm` and `LampWaits` read of a state besides its start. -/
def ordersView (s : State) : Option OnCause × Option Nat × Option Nat × Selection × Nat × Bool :=
  (s.group.mode, s.group.levelOverride, s.group.slotLevel, s.group.selection, s.group.growth,
    committedState s.lamp.state)

/-- What the invariant reads of a state. -/
def soundView (s : State) := (tablesView s, (s.peers, s.line.poor), ordersView s)

theorem TablesForm.of_view (k : TablesForm s) (h : tablesView u = tablesView s) : TablesForm u := by
  simp only [tablesView, Prod.mk.injEq] at h
  obtain ⟨hschedule, hclock, hserial, hsettings, hstart, hnumber⟩ := h
  obtain ⟨kschedule, kclock, kmemory, ksettings, ⟨kreceiver, kearly, kplace, knumber⟩⟩ := k
  unfold ClockSafe at kclock
  rw [← hsettings, ← hschedule] at kschedule
  rw [← hclock, ← hnumber] at kclock
  rw [← hserial] at kmemory
  rw [← hsettings] at ksettings
  rw [← hstart] at kreceiver kearly kplace
  rw [← hclock, ← hschedule] at kearly
  rw [← hnumber] at knumber
  exact ⟨kschedule, kclock, kmemory, ksettings, kreceiver, kearly, kplace, knumber⟩

theorem PeersUnder.of_same (k : PeersUnder lim s) (hp : u.peers = s.peers) (hn : u.straps.number = s.straps.number)
    (hl : u.line.poor = s.line.poor) : PeersUnder lim u := by
  unfold PeersUnder at *
  rwa [hp, hn, hl]

theorem Sound.of_view (k : Sound lim s) (h : soundView u = soundView s) : Sound lim u := by
  simp only [soundView, ordersView, Prod.mk.injEq] at h
  obtain ⟨htables, ⟨hpeers, hpoor⟩, hmode, hoverride, hslot, hselection, hgrowth, hlamp⟩ := h
  have hstart : u.start = s.start := (congrArg (fun x => x.2.2.2.2.1) htables :)
  have hnumber : u.straps.number = s.straps.number := (congrArg (fun x => x.2.2.2.2.2) htables :)
  obtain ⟨ktables, kpeers, ⟨koverride, kslot, kgrowth, koff⟩, klamp⟩ := k
  refine ⟨ktables.of_view htables, kpeers.of_same hpeers hnumber hpoor, ⟨?_, ?_, ?_, ?_⟩, ?_⟩
  · rwa [hoverride]
  · rwa [hslot]
  · rwa [hgrowth]
  · rwa [hmode, hselection]
  · unfold LampWaits at klamp ⊢
    rwa [hstart, hlamp]

/-! ### Operations of the lamp, the group and the locks: nothing outside them changes -/

theorem tablesView_of_outside (h : outside u = outside s) : tablesView u = tablesView s := (congrArg tablesView h :)

theorem PeersUnder.of_outside (k : PeersUnder lim s) (h : outside u = outside s) : PeersUnder lim u :=
  have hline : (outside u).line = (outside s).line := congrArg State.line h
  k.of_same (congrArg State.peers h :) (congrArg (fun x => x.straps.number) h :) (congrArg HallLine.poor hline :)

/-- Between `s` and `u` a lamp is committed only under the start conditions, which FRESH keeps from holding (R3, R4). -/
def CommitsAwake (s u : State) : Prop :=
  committedState u.lamp.state = true → committedState s.lamp.state = true ∨ isFresh s = false

theorem LampWaits.commits (k : LampWaits s) (hstart : u.start = s.start) (h : CommitsAwake s u) : LampWaits u := by
  intro hp
  rw [hstart] at hp ⊢
  obtain ⟨hreceiver, hout⟩ := k hp
  refine ⟨hreceiver, Bool.eq_false_iff.mpr fun hc => ?_⟩
  rcases h hc with hc | hf
  · exact absurd (hc.symm.trans hout) nofun
  · simp [isFresh, hreceiver] at hf

theorem Sound.of_outside (k : Sound lim s) (h : outside u = outside s) (hg : GroupForm u.group)
    (hl : CommitsAwake s u) : Sound lim u :=
  ⟨k.tables.of_view (tablesView_of_outside h), k.peers.of_outside h, hg,
    k.lamp.commits (congrArg State.start h :) hl⟩

/-- A lamp of which an operation touches the lamp state alone. -/
theorem Sound.relamp (k : Sound lim s) (h : outside u = outside s) (hg : u.group = s.group) (hl : CommitsAwake s u) :
    Sound lim u := k.of_outside h (by rw [hg]; exact k.group) hl

theorem Sound.setLamp (k : Sound lim s) {x : Lamp}
    (hx : committedState x.state = true → committedState s.lamp.state = true) : Sound lim (s.setLamp x) :=
  k.relamp rfl rfl fun hc => .inl (hx hc)

theorem Sound.setGroup (k : Sound lim s) {g : Group} (hg : GroupForm g) : Sound lim (s.setGroup g) :=
  k.of_outside rfl hg .inl

theorem Sound.setLocks (k : Sound lim s) (ls : List Lock) : Sound lim (s.setLocks ls) := k

/-- The selection cleared leaves the orders in form. -/
theorem GroupForm.unselected {g : Group} (h : GroupForm g) : GroupForm { g with selection := .unselected } :=
  ⟨h.levelOverride, h.slotLevel, h.growth, fun _ => rfl⟩

theorem Sound.clearSelection (k : Sound lim s) : Sound lim (clearSelection s) := k.setGroup k.group.unselected

theorem Sound.releaseClaim (k : Sound lim s) : Sound lim (releaseClaim s) :=
  k.relamp (outside_releaseClaim s) (releaseClaim_group s) .inl

theorem Sound.extinguish (k : Sound lim s) {n : LampState} (hn : committedState n = false) :
    Sound lim (extinguish n s) :=
  k.relamp (outside_extinguish n s) (extinguish_group n s) fun hc => by
    rw [extinguish_state, hn] at hc; cases hc

theorem Sound.unwanted (k : Sound lim s) : Sound lim (unwanted s) :=
  k.relamp (outside_unwanted s) (unwanted_group s) fun hc => by rw [unwanted_not_committed] at hc; cases hc

theorem Sound.enterWaiting (k : Sound lim s) (h : startConditions s = true) : Sound lim (enterWaiting s) :=
  k.relamp (outside_enterWaiting s) (enterWaiting_group s) fun _ => .inr (startConditions_free h).2.1

theorem Sound.startTest (k : Sound lim s) : Sound lim (startTest s) := by
  unfold Machine.startTest
  split
  · next h => exact k.enterWaiting h.2
  · exact k

theorem Sound.nowWanted (k : Sound lim s) : Sound lim (nowWanted s) := by
  have hrelight : Sound lim (setRelight true s) := k.setLamp id
  unfold Machine.nowWanted
  cases s.lamp.state with
  | dark => exact k.startTest
  | cooling =>
    simp only
    split
    · exact hrelight
    · split
      · next h => exact k.enterWaiting h
      · exact hrelight
  | waiting | striking | warming | lit | fault => exact k

theorem Sound.onDecision (k : Sound lim s) (b : Bool) : Sound lim (onDecision b s) := by
  unfold Machine.onDecision
  split
  · exact k
  · split
    · exact k.unwanted
    · split
      · exact k.nowWanted
      · exact k

/-- An election is made while the mode is ON (R113). -/
theorem Sound.elect (k : Sound lim s) (hm : s.group.mode.isSome = true) : Sound lim (elect s) := by
  unfold Machine.elect
  split
  · refine Sound.onDecision (k.setGroup (g := { s.group with selection := .elected })
      ⟨k.group.levelOverride, k.group.slotLevel, k.group.growth, fun hn => ?_⟩) _
    rw [show s.group.mode = none from hn] at hm
    cases hm
  · exact k

theorem Sound.electIfAvailable (k : Sound lim s) (b : State) : Sound lim (electIfAvailable b s) := by
  unfold Machine.electIfAvailable
  split
  · next h =>
    simp only [Bool.and_eq_true] at h
    exact k.elect h.1.1
  · exact k

theorem Sound.groupOn (k : Sound lim s) (c : OnCause) : Sound lim (groupOn c s) := by
  have hmode (c : OnCause) : Sound lim (s.setGroup { s.group with mode := some c }) :=
    k.setGroup (g := { s.group with mode := some c }) ⟨k.group.levelOverride, k.group.slotLevel, k.group.growth, nofun⟩
  unfold Machine.groupOn
  split
  · simp only
    split
    · exact (hmode c).elect rfl
    · exact hmode c
  · split
    · exact hmode .schedule
    all_goals exact k

theorem Sound.groupOff (k : Sound lim s) : Sound lim (groupOff s) := by
  cases hm : s.group.mode with
  | none => rw [groupOff_off hm]; exact k
  | some c =>
    rw [groupOff_on (by rw [hm]; rfl)]
    exact Sound.onDecision (k.setGroup (g := (turnedOff s).group)
      ⟨nofun, k.group.slotLevel, Nat.zero_le _, fun _ => rfl⟩) _

theorem Sound.lampUncovered (k : Sound lim s) (b : State) : Sound lim (lampUncovered b s) := by
  unfold Machine.lampUncovered
  split
  · exact k.electIfAvailable b
  · exact k

theorem Sound.addLock (k : Sound lim s) (l : Lock) : Sound lim (addLock l s) := by
  unfold Machine.addLock
  split
  · exact k
  · simp only
    split
    · exact (k.setLocks _).unwanted.clearSelection
    · exact (k.setLocks _).lampUncovered s

theorem Sound.removeLock (k : Sound lim s) (h : Holder) : Sound lim (removeLock h s) := (k.setLocks _).lampUncovered s

/-! ### Faults and strikes -/

theorem Sound.intoFault (k : Sound lim s) : Sound lim (intoFault s) :=
  Sound.clearSelection (k.setLamp (x := { s.lamp with
    state := .fault, coolDown := some (s.settings.coolDown * 1000), relight := false, attempts := 0 }) nofun)

theorem Sound.outForFault (k : Sound lim s) : Sound lim (outForFault s) := by
  unfold Machine.outForFault
  split
  · exact k.releaseClaim
  · exact k.extinguish rfl
  · exact k.extinguish rfl
  · exact k.extinguish rfl
  all_goals exact k

theorem Sound.latchFault (k : Sound lim s) (f : LampFault) : Sound lim (latchFault f s) := by
  have hfault : Sound lim (withFault f s) := k.setLamp id
  by_cases hs : s.lamp.state = .fault
  · rw [latchFault_again f hs]
    exact hfault.setLamp id
  · rw [latchFault_entered f hs]
    exact hfault.outForFault.intoFault

theorem Sound.failAttempt (k : Sound lim s) (hs : s.lamp.state = .striking .attempt) : Sound lim (failAttempt s) := by
  unfold Machine.failAttempt
  simp only
  split
  · exact Sound.setLamp (s := s.setLamp { s.lamp with litWait := none }) k fun _ => by
      rw [State.setLamp_lamp, hs]; rfl
  · exact Sound.latchFault (s := s.setLamp { s.lamp with litWait := none }) k _

theorem clearedLamp_committed (l : Lamp) (h : committedState (clearedLamp l).state = true) :
    committedState l.state = true := by
  unfold clearedLamp at h
  simp only at h
  split at h
  · split at h <;> cases h
  · exact h

theorem Sound.tryClear (k : Sound lim s) : Sound lim (tryClear s).1 := by
  unfold Machine.tryClear
  split
  · exact k
  · split
    · rw [clearFaults_eq]
      exact Sound.electIfAvailable (k.setLamp (clearedLamp_committed s.lamp)) s
    · split
      · exact k.setLamp id
      · exact k

/-- A strike is made by a lamp that is committed (R6, R8). -/
theorem Sound.strikeTest (k : Sound lim s) : Sound lim (strikeTest s) := by
  refine k.relamp (outside_strikeTest s) (strikeTest_group s) fun hc => .inl ?_
  unfold Machine.strikeTest at hc
  cases hs : s.lamp.state with
  | waiting | striking => rfl
  | dark | warming | lit | cooling | fault =>
    rw [hs] at hc
    simp only at hc
    rw [← hs]
    exact hc

/-! ### The settling -/

theorem Sound.lifeJudge (k : Sound lim s) : Sound lim (lifeJudge s) := by
  rcases lifeJudge_cases s with ⟨b, h, -⟩ | ⟨-, -, h⟩
  · rw [h]; exact k
  · rw [h]
    exact Sound.clearSelection (Sound.unwanted (s := (s.setWear _).setLocks _) k)

theorem Sound.judgeGroup (k : Sound lim s) : Sound lim (judgeGroup s) := by
  have hgrowth : (judgedGroup s).growth ≤ 30 := by
    have h : s.group.growth ≤ 30 := k.group.growth
    unfold judgedGroup
    simp only
    split
    · exact h
    · exact Nat.zero_le _
  rw [judgeGroup_spec]
  exact Sound.setLamp (k.setGroup (g := judgedGroup s)
    ⟨k.group.levelOverride, k.group.slotLevel, hgrowth, k.group.off⟩) id

theorem Sound.withdrawTest (k : Sound lim s) (b : State) : Sound lim (withdrawTest b s) := by
  unfold Machine.withdrawTest
  split
  · exact k.clearSelection.onDecision _
  · exact k

/-- The timers, the target and the beacon are none of the invariant. -/
theorem soundView_lastJudgements (b s : State) :
    soundView (beaconJudge b (idleJudge (fanStallJudge (retarget s)))) = soundView s := by
  have hout : outside (beaconJudge b (idleJudge (fanStallJudge (retarget s)))) = outside s := by simp
  have hpoor := (line_of_outside (congrArg State.line hout)).1
  have horders : ordersView (beaconJudge b (idleJudge (fanStallJudge (retarget s)))) = ordersView s := by
    rw [beaconJudge_eq, retarget_eq]; rfl
  have hpeers : (beaconJudge b (idleJudge (fanStallJudge (retarget s)))).peers = s.peers :=
    (congrArg State.peers hout :)
  unfold soundView
  rw [tablesView_of_outside hout, hpeers, hpoor, horders]

theorem Sound.settle (k : Sound lim s) (b : State) : Sound lim (settle b s) :=
  Sound.of_view ((k.lifeJudge.startTest.strikeTest.lifeJudge.judgeGroup).withdrawTest b).judgeGroup
    (soundView_lastJudgements b _)

end Sys2Proof.Machine
end

section
/-! ## What touches nothing the invariant reads: selector, engine, line, claims and wear (02 to 05, 07, 10) -/

namespace Sys2Proof.Machine

variable {s u : State} {lim : Bool → Nat}

/-! ### The line: all but LINE_POOR -/

theorem soundView_setLine {l : HallLine} (h : l.poor = s.line.poor) : soundView (s.setLine l) = soundView s := by
  unfold soundView
  rw [State.setLine_line, h]
  rfl

theorem handOver_poor (p : Payload) (l : HallLine) : (handOver p l).poor = l.poor := by rw [handOver_eq]

theorem beaconDue_poor (l : HallLine) : (beaconDue l).poor = l.poor := by rw [beaconDue_eq]

@[simp] theorem soundView_send (p : Payload) (s : State) : soundView (send p s) = soundView s :=
  soundView_setLine (handOver_poor p s.line)

@[simp] theorem soundView_reserveForHead (s : State) : soundView (reserveForHead s) = soundView s := by
  unfold reserveForHead; (repeat' split) <;> rfl

@[simp] theorem soundView_beginSending (n : Nat) (s : State) : soundView (beginSending n s) = soundView s := by
  unfold beginSending; simp only; (repeat' split) <;> rfl

@[simp] theorem soundView_beginFresh (s : State) : soundView (beginFresh s) = soundView s :=
  soundView_setLine (s := s.setListen { s.listen with fresh := some (3 * s.settings.interval * 1000) })
    (beaconDue_poor s.line)

@[simp] theorem soundView_beaconEnded (s : State) : soundView (beaconEnded s) = soundView s := by
  unfold beaconEnded
  simp only
  split
  · exact soundView_setLine (s := startBeaconTimer s) (beaconDue_poor { s.line with dueAgain := false })
  · rfl

@[simp] theorem soundView_periodicBeacon (s : State) : soundView (periodicBeacon s) = soundView s := by
  unfold periodicBeacon
  split
  · exact soundView_setLine (s := s.setListen _) (beaconDue_poor s.line)
  · rfl

/-! ### Claims (05) and wear (02) -/

@[simp] theorem soundView_claimAged (n : Nat) (s : State) : soundView (claimAged n s) = soundView s := by
  unfold claimAged; split <;> rfl

@[simp] theorem soundView_takeClaim (t : Telegram) (s : State) : soundView (takeClaim t s) = soundView s := by
  unfold takeClaim; split <;> rfl

@[simp] theorem soundView_takeRelease (t : Telegram) (s : State) : soundView (takeRelease t s) = soundView s := by
  unfold takeRelease; split <;> rfl

@[simp] theorem soundView_ownClaimEcho (s : State) : soundView (ownClaimEcho s) = soundView s := by
  unfold ownClaimEcho; (repeat' split) <;> rfl

@[simp] theorem soundView_renewClaim (s : State) : soundView (renewClaim s) = soundView s := by
  unfold renewClaim
  simp only
  (repeat' split)
  all_goals first | rfl | exact soundView_send .claim _

@[simp] theorem soundView_startWrite (s : State) : soundView (startWrite s) = soundView s := by
  unfold startWrite; split <;> rfl

@[simp] theorem soundView_requestWrite (s : State) : soundView (requestWrite s) = soundView s := by
  unfold requestWrite; (repeat' split) <;> first | rfl | exact soundView_startWrite s

@[simp] theorem soundView_reportLitSecond (s : State) : soundView (reportLitSecond s) = soundView s := by
  unfold reportLitSecond
  simp only
  (repeat' split) <;> first | rfl | exact soundView_requestWrite _

@[simp] theorem soundView_writeEnds (o : WriteOutcome) (s : State) : soundView (writeEnds o s) = soundView s := by
  unfold writeEnds
  simp only
  split <;> first | rfl | exact soundView_startWrite _

@[simp] theorem soundView_writeFails (w : RecordWrite) (s : State) : soundView (writeFails w s) = soundView s := by
  unfold writeFails; split <;> first | rfl | exact soundView_writeEnds _ _

/-! ### Geometry Engine (03) -/

@[simp] theorem soundView_linkProgress (s : State) : soundView (linkProgress s) = soundView s := by
  unfold linkProgress; split <;> rfl

@[simp] theorem soundView_sendSwapRequest (s : State) : soundView (sendSwapRequest s) = soundView s := by
  unfold sendSwapRequest; split <;> rfl

@[simp] theorem soundView_computationEnds (s : State) : soundView (computationEnds s) = soundView s := by
  unfold computationEnds; split <;> rfl

@[simp] theorem soundView_lastRecordSent (s : State) : soundView (lastRecordSent s) = soundView s := by
  unfold lastRecordSent; split <;> rfl

@[simp] theorem soundView_takeAcknowledgement (i n : Nat) (s : State) :
    soundView (takeAcknowledgement i n s) = soundView s := by
  unfold takeAcknowledgement
  split
  · exact (soundView_sendSwapRequest _).trans (soundView_linkProgress s)
  · rfl

@[simp] theorem soundView_attemptFails (s : State) : soundView (attemptFails s) = soundView s := by
  unfold attemptFails; simp only; split <;> exact soundView_linkProgress s

@[simp] theorem soundView_takeRefusal (i n : Nat) (s : State) : soundView (takeRefusal i n s) = soundView s := by
  unfold takeRefusal; split <;> simp

@[simp] theorem soundView_loadWaitExpired (s : State) : soundView (loadWaitExpired s) = soundView s := by
  unfold loadWaitExpired; split <;> simp

@[simp] theorem soundView_takeSwapReport (i : Nat) (s : State) : soundView (takeSwapReport i s) = soundView s := by
  unfold takeSwapReport; simp only; (repeat' split) <;> rfl

@[simp] theorem soundView_repeatSwapRequest (s : State) : soundView (repeatSwapRequest s) = soundView s := by
  unfold repeatSwapRequest
  split
  · exact soundView_sendSwapRequest _
  · rfl

@[simp] theorem soundView_swapWaitEnds (s : State) : soundView (swapWaitEnds s) = soundView s := by
  unfold swapWaitEnds; split <;> rfl

@[simp] theorem soundView_pressKeystone (n : Int) (s : State) : soundView (pressKeystone n s) = soundView s := by
  unfold pressKeystone; split <;> rfl

theorem soundView_ownCorners (t : Telegram) (s : State) : soundView (ownCorners t s).1 = soundView s := by
  unfold ownCorners refuse; (repeat' split) <;> rfl

/-! ### Source Selection (07) -/

@[simp] theorem soundView_setSource (s : State) (x : Source) : soundView (s.setSource x) = soundView s := rfl

@[simp] theorem soundView_sendSelect (i : Option Input) (o : Option Origin) (s : State) :
    soundView (sendSelect i o s) = soundView s := soundView_linkProgress s

@[simp] theorem soundView_beginSwitch (i : Option Input) (s : State) : soundView (beginSwitch i s) = soundView s := by
  unfold beginSwitch; simp

@[simp] theorem soundView_judgeWith (i : Option Input) (s : State) : soundView (judgeWith i s) = soundView s := by
  unfold judgeWith; (repeat' split) <;> simp

@[simp] theorem soundView_judgeSource (s : State) : soundView (judgeSource s) = soundView s := by
  unfold judgeSource; split <;> simp

@[simp] theorem soundView_push (i : Input) (o : Origin) (s : State) : soundView (push i o s) = soundView s := by
  unfold push; simp only; (repeat' split) <;> simp

@[simp] theorem soundView_startSelector (s : State) : soundView (startSelector s) = soundView s := by
  unfold startSelector; split <;> simp

@[simp] theorem soundView_resetSelector (s : State) : soundView (resetSelector s) = soundView s := by
  unfold resetSelector; simp

@[simp] theorem soundView_judgedSample (lines : Six Bool) (s : State) :
    soundView (judgedSample lines s) = soundView s := by
  unfold judgedSample presenceSampled; split <;> simp

@[simp] theorem soundView_takeLockReport (i : Input) (s : State) : soundView (takeLockReport i s) = soundView s := by
  unfold takeLockReport endSwitch; split <;> simp

@[simp] theorem soundView_switchExpired (s : State) : soundView (switchExpired s) = soundView s := by
  unfold switchExpired endSwitch; split <;> simp

@[simp] theorem soundView_holdExpired (s : State) : soundView (holdExpired s) = soundView s := by
  unfold holdExpired; split <;> simp

@[simp] theorem soundView_pressSource (s : State) : soundView (pressSource s) = soundView s := by
  unfold pressSource; split <;> simp

theorem soundView_ownShow (t : Telegram) (s : State) : soundView (ownShow t s).1 = soundView s := by
  unfold ownShow refuse; (repeat' split) <;> simp

end Sys2Proof.Machine
end

section
/-! ## The commands of lamp, group, locks and keys keep the invariant (01, 06, 07, 08) -/

namespace Sys2Proof.Machine

variable {s u : State} {lim : Bool → Nat}

/-! ### Lamp Control (01) -/

/-- A lamp leaves STRIKING, WARMING or LIT, or keeps its state, but does not commit anew (R7 to R10). -/
theorem Sound.litSenseArrives (k : Sound lim s) : Sound lim (litSenseArrives s) := by
  have hpins : Sound lim (s.setPins { s.pins with litSense := true }) := k
  unfold Machine.litSenseArrives
  simp only
  split
  · next p hs =>
    refine hpins.of_outside ?_ ?_ fun _ => .inl ?_
    · simp [enterWarming]
    · simp only [enterWarming, State.setLamp_group, releaseClaim_group]; exact hpins.group
    · rw [hs]; rfl
  all_goals exact hpins

theorem Sound.dropsOut (k : Sound lim s) : Sound lim (dropsOut s) := by
  unfold Machine.dropsOut
  split
  · exact k.latchFault _
  · exact (k.extinguish rfl).setLamp (x := { (Machine.extinguish .cooling s).lamp with
      relight := true, dropoutWindow := some 600000 }) id

theorem Sound.litSenseLost (k : Sound lim s) : Sound lim (litSenseLost s) := by
  unfold Machine.litSenseLost
  simp only
  split
  · refine Sound.dropsOut ?_; exact k
  · exact k

theorem Sound.litWaitExpired (k : Sound lim s) : Sound lim (litWaitExpired s) := by
  unfold Machine.litWaitExpired
  split
  · next h => exact k.failAttempt h.1
  · exact k

theorem Sound.warmUpExpired (k : Sound lim s) : Sound lim (warmUpExpired s) := by
  unfold Machine.warmUpExpired
  split
  · next h => exact k.setLamp fun _ => by rw [h.1]; rfl
  · exact k

theorem Sound.rampOnce (k : Sound lim s) : Sound lim (rampOnce s) := by
  unfold Machine.rampOnce
  split
  · exact k.setLamp id
  · exact k

theorem Sound.coolDownExpired (k : Sound lim s) : Sound lim (coolDownExpired s) := by
  have hstopped : Sound lim (s.setLamp { s.lamp with coolDown := none }) := k.setLamp id
  unfold Machine.coolDownExpired
  split
  · simp only
    split
    · exact hstopped.setLamp nofun
    · exact hstopped
  · exact k

theorem Sound.guardEndsCooling (k : Sound lim s) : Sound lim (guardEndsCooling s) := by
  unfold Machine.guardEndsCooling
  split
  · next h => exact k.enterWaiting (Bool.and_eq_true_iff.mp h).2
  · refine k.setLamp ?_
    simp only
    split <;> nofun

theorem Sound.restrikeExpired (k : Sound lim s) : Sound lim (restrikeExpired s) := by
  have hstopped : Sound lim (s.setLamp { s.lamp with restrike := none }) := k.setLamp id
  unfold Machine.restrikeExpired
  split
  · simp only
    split
    · exact hstopped.guardEndsCooling
    · exact hstopped
  · exact k

theorem Sound.fanStalls (k : Sound lim s) : Sound lim (fanStalls s) := by
  have hstopped : Sound lim (s.setLamp { s.lamp with fanStall := none }) := k.setLamp id
  unfold Machine.fanStalls
  split
  · simp only
    split
    · exact hstopped
    · exact hstopped.latchFault _
  · exact k

theorem Sound.tachoStalls (k : Sound lim s) : Sound lim (tachoStalls s) := by
  unfold Machine.tachoStalls
  simp only
  split
  · next hs => exact Sound.failAttempt (s := s.setPins { s.pins with tacho := .stalled }) k hs
  · exact k

theorem Sound.supplyFails (k : Sound lim s) : Sound lim (supplyFails s) := by
  unfold Machine.supplyFails
  simp only
  split
  · refine Sound.latchFault ?_ _; exact k
  · exact k

theorem Sound.takeSample (k : Sound lim s) (r : Sensor) : Sound lim (takeSample r s) := by
  have hsampled : Sound lim (sampled r s) := by
    refine k.setLamp ?_
    split
    · exact id
    · rw [putCap_eq]; exact id
  rw [takeSample_eq]
  split
  · exact hsampled.latchFault _
  · exact hsampled

/-! ### FRESH and DUPLICATE (04), growth (06), wakes and idle off (07) -/

theorem Sound.freshEnds (k : Sound lim s) : Sound lim (freshEnds s) := by
  unfold Machine.freshEnds
  split
  · exact (Sound.startTest (s := s.setListen { s.listen with fresh := none }) k).electIfAvailable s
  · exact k

theorem Sound.duplicateEnds (k : Sound lim s) : Sound lim (duplicateEnds s) := by
  unfold Machine.duplicateEnds
  split
  · exact (Sound.startTest (s := s.setListen { s.listen with duplicate := none }) k).electIfAvailable s
  · exact k

theorem Sound.foreignBeacon (k : Sound lim s) : Sound lim (foreignBeacon s) := by
  unfold Machine.foreignBeacon
  simp only
  split
  · exact k
  · refine Sound.clearSelection (Sound.unwanted ?_); exact k

/-- The shortfall timer runs with the mode ON alone, so a growth step selects with the mode ON (R117, R118). -/
theorem Sound.growthStep (k : Sound lim s) (h : Settled s) : Sound lim (growthStep s) := by
  by_cases ht : s.group.shortTimer.isSome = true
  · have hon := h.shortTimer_mode ht
    have hgrown : Sound lim (grownBy (min 30 (s.group.growth + 1)) s) :=
      k.setGroup (g := { s.group with growth := min 30 (s.group.growth + 1), shortTimer := none })
        ⟨k.group.levelOverride, k.group.slotLevel, Nat.min_le_left _ _, k.group.off⟩
    rw [growthStep_running ht]
    split
    · refine Sound.onDecision (hgrown.setGroup (g := (selectGrown (grownBy _ s)).group)
        ⟨hgrown.group.levelOverride, hgrown.group.slotLevel, hgrown.group.growth, fun hn => ?_⟩) _
      rw [show s.group.mode = none from hn] at hon
      cases hon
    · exact hgrown
  · unfold Machine.growthStep
    rw [if_neg ht]
    exact k

theorem Sound.signalWake (k : Sound lim s) : Sound lim (signalWake s) := by
  unfold Machine.signalWake
  split
  · exact k
  · split
    · exact (k.groupOn _).of_view (soundView_send _ _)
    · exact k

theorem Sound.idleOff (k : Sound lim s) : Sound lim (idleOff s) := by
  unfold Machine.idleOff
  split
  · exact k
  · exact k
  · split
    · exact k.groupOff.of_view (soundView_send _ _)
    · exact k

theorem Sound.idleExpired (k : Sound lim s) : Sound lim (idleExpired s) := by
  unfold Machine.idleExpired
  split
  · refine Sound.idleOff ?_; exact k
  · exact k

theorem Sound.samplePresence (k : Sound lim s) (lines : Six Bool) : Sound lim (samplePresence lines s) := by
  have hjudged : Sound lim (judgedSample lines s) := k.of_view (soundView_judgedSample lines s)
  rw [samplePresence_eq]
  split
  · exact hjudged.signalWake
  · exact hjudged

/-! ### Keys, key switch and timed locks (08) -/

theorem Sound.lockMinute (k : Sound lim s) (n : Nat) : Sound lim (lockMinute n s) := by
  unfold Machine.lockMinute
  split
  · split
    · split
      · exact k.removeLock _
      · exact k
    · exact k
  · exact k

theorem Sound.setRelight (k : Sound lim s) (b : Bool) : Sound lim (setRelight b s) := k.setLamp id

theorem Sound.powerInService (k : Sound lim s) : Sound lim (powerInService s) := by
  unfold Machine.powerInService
  split
  · split
    · exact (k.extinguish rfl).setRelight _
    · exact (k.extinguish rfl).setRelight _
    · exact k.setRelight _
    all_goals exact k
  · exact k

theorem Sound.powerForGroup (k : Sound lim s) : Sound lim (powerForGroup s) := by
  unfold Machine.powerForGroup
  split <;> split
  · exact (k.groupOn _).of_view (soundView_send _ _)
  · exact k
  · exact k.groupOff.of_view (soundView_send _ _)
  · exact k

theorem Sound.pressPower (k : Sound lim s) : Sound lim (pressPower s) := by
  unfold Machine.pressPower
  split
  · exact k.powerInService
  · exact k.powerForGroup

theorem Sound.pressClear (k : Sound lim s) : Sound lim (pressClear s) := by
  unfold Machine.pressClear
  split
  · exact k.tryClear
  · exact k

theorem Sound.whenSettled (k : Sound lim s) {press : State → State} (hp : ∀ s, Sound lim s → Sound lim (press s)) :
    Sound lim (whenSettled press s) := by
  unfold Machine.whenSettled
  split
  · exact (hp s k).settle s
  · exact k

theorem Sound.sampleKey {get : Panel → Key} {put : Panel → Key → Panel} {press : State → State}
    (hp : ∀ s, Sound lim s → Sound lim (press s)) (samples : List Bool) (k : Sound lim s) :
    Sound lim (sampleKey get put press samples s) := by
  induction samples generalizing s with
  | nil => exact k
  | cons x rest ih =>
    have hk : Sound lim (s.setPanel (put s.panel (keySample (get s.panel) x).1)) := k
    unfold Machine.sampleKey
    refine ih ?_
    split
    · exact hk.whenSettled hp
    · exact hk

/-- The lamp darkened before it strikes (R5, R26). -/
theorem Sound.darkenWaiting (k : Sound lim s) :
    Sound lim ((Machine.releaseClaim s).setLamp { (Machine.releaseClaim s).lamp with state := .dark }) :=
  k.releaseClaim.setLamp nofun

theorem Sound.lampIntoService (k : Sound lim s) : Sound lim (lampIntoService s) := by
  unfold Machine.lampIntoService
  refine Sound.setRelight ?_ _
  split
  · exact k.darkenWaiting
  · exact k.extinguish rfl
  all_goals exact k

theorem Sound.applyDecision (k : Sound lim s) : Sound lim (applyDecision s) := by
  unfold Machine.applyDecision
  split
  · exact k.nowWanted
  · exact k.unwanted

theorem Sound.leavePosition (k : Sound lim s) (old : Option KeyPosition) (b : State) :
    Sound lim (leavePosition old b s) := by
  unfold Machine.leavePosition
  split
  · exact k.removeLock _
  · exact (k.electIfAvailable b).applyDecision
  all_goals exact k

theorem Sound.enterPosition (k : Sound lim s) (p : KeyPosition) : Sound lim (enterPosition p s) := by
  unfold Machine.enterPosition
  split
  · exact k.addLock _
  · exact k.lampIntoService.clearSelection
  · exact k

theorem Sound.settlePosition (k : Sound lim s) (p : KeyPosition) : Sound lim (settlePosition p s) := by
  have hset : Sound lim (setPosition p s) := k
  unfold Machine.settlePosition
  simp only
  split
  · exact k
  · exact ((hset.leavePosition _ s).enterPosition p).settle s

theorem Sound.sampleSwitch (samples : List KeyReading) (k : Sound lim s) : Sound lim (sampleSwitch samples s) := by
  induction samples generalizing s with
  | nil => exact k
  | cons r rest ih =>
    unfold Machine.sampleSwitch
    refine ih ?_
    split
    · refine Sound.settlePosition ?_ _; exact k
    · exact k

end Sys2Proof.Machine
end

section
/-! ## The Peer Table and the serial memory keep their form (02, 04, R37, R64 to R71, 12.6) -/

namespace Sys2Proof.Machine

variable {s u : State} {lim : Bool → Nat} {p : Peer} {own limit n : Nat} {info : PeerInfo} {ps : List Peer}

/-! ### The serial memory (12.6) -/

theorem Sound.setSerial (k : Sound lim s) {m : List Host.Cell} (hm : Memory.wf m = true) : Sound lim (s.setSerial m) :=
  ⟨⟨k.tables.schedule, k.tables.clock, hm, k.tables.settings, k.tables.start⟩, k.peers, k.group, k.lamp⟩

/-- Ten bytes written at the place of zone 6 stay within the memory (R185). -/
theorem Sound.zoneHolds (k : Sound lim s) (bytes : List Byte) : Sound lim (zoneHolds bytes s) := by
  obtain ⟨-, -, hplace, -⟩ := k.tables.start
  unfold Machine.zoneHolds
  split
  · next a ha =>
    refine k.setSerial (Memory.wf_writeBytes _ _ _ ?_ k.tables.memory)
    have hfits := hplace a ha
    have hten : (bytes.take 10).length ≤ 10 := List.length_take_le _ _
    omega
  · exact k

theorem Sound.readBackTaken (k : Sound lim s) (bytes : List Byte) : Sound lim (readBackTaken bytes s) := by
  unfold Machine.readBackTaken
  split
  · simp only
    split
    · exact (k.zoneHolds bytes).of_view (soundView_writeEnds _ _)
    · exact (k.zoneHolds bytes).of_view (soundView_writeFails _ _)
  · exact k

theorem Sound.writeTimesOut (k : Sound lim s) (bytes : List Byte) : Sound lim (writeTimesOut bytes s) := by
  unfold Machine.writeTimesOut
  split
  · exact (k.zoneHolds bytes).of_view (soundView_writeFails _ _)
  · exact k

/-! ### The form of an entry (R64 to R70) -/

theorem peerFormed_iff : peerFormed own limit p = true ↔
    (1 ≤ p.station ∧ p.station ≤ 31 ∧ p.station ≠ own) ∧ p.timer.isSome = true ∧ p.misses < limit ∧
    (isInterval p.info.interval = true ∧ 256 ≤ p.info.f ∧ p.info.f ≤ 1024) ∧
    (match p.presence with
      | .heard => p.misses = 0
      | .present => p.misses = 0
      | .stale => 1 ≤ p.misses) := by
  unfold peerFormed
  cases p.presence <;> simp only [Bool.and_eq_true, decide_eq_true_eq, bne_iff_ne, beq_iff_eq] <;> tauto

theorem peerFormed_mono {limit' : Nat} (h : peerFormed own limit p = true) (hm : p.misses < limit') :
    peerFormed own limit' p = true := by
  obtain ⟨hstation, htimer, -, hrest⟩ := peerFormed_iff.mp h
  exact peerFormed_iff.mpr ⟨hstation, htimer, hm, hrest⟩

theorem peerFormed_misses (h : peerFormed own limit p = true) : p.misses < limit := by
  obtain ⟨-, -, hmisses, -⟩ := peerFormed_iff.mp h
  exact hmisses

theorem limitBy_bounds (poor : Bool) : 3 ≤ limitBy poor ∧ limitBy poor ≤ 6 := by cases poor <;> decide

/-- The limit of a poor line holds for every table (R70). -/
theorem Sound.widen (k : Sound limitBy s) : Sound (fun _ => 6) s :=
  ⟨k.tables, ⟨k.peers.1, fun p hp => peerFormed_mono (k.peers.2 p hp)
    ((peerFormed_misses (k.peers.2 p hp)).trans_le (limitBy_bounds _).2)⟩, k.group, k.lamp⟩

/-- A table whose misses lie below the limits that LINE_POOR gives. -/
theorem Sound.narrow (k : Sound (fun _ => 6) s) (h : ∀ p ∈ s.peers, p.misses < limitBy s.line.poor) :
    Sound limitBy s :=
  ⟨k.tables, ⟨k.peers.1, fun p hp => peerFormed_mono (k.peers.2 p hp) (h p hp)⟩, k.group, k.lamp⟩

/-! ### A station goes LOST (R71, R159) -/

theorem Sound.setPeers (k : Sound lim s) (h : PeersUnder lim (s.setPeers ps)) : Sound lim (s.setPeers ps) :=
  ⟨k.tables, h, k.group, k.lamp⟩

theorem Sound.setClock (k : Sound lim s) {c : Clock} (hc : ClockSafe (s.setClock c))
    (hearly : s.start.passTwo = false → c.sure = none) : Sound lim (s.setClock c) := by
  obtain ⟨kreceiver, kearly, krest⟩ := k.tables.start
  exact ⟨⟨k.tables.schedule, hc, k.tables.memory, k.tables.settings,
    ⟨kreceiver, fun hp => ⟨hearly hp, (kearly hp).2⟩, krest⟩⟩, k.peers, k.group, k.lamp⟩

/-- Before pass two the clock is UNSURE (R182). -/
theorem Sound.unsure (k : Sound lim s) (hp : s.start.passTwo = false) : s.clock.sure = none := by
  obtain ⟨-, kearly, -⟩ := k.tables.start
  exact (kearly hp).1

/-- The clock source cleared leaves the clock in form. -/
theorem Sound.clearSource (k : Sound lim s) : Sound lim (s.setClock { s.clock with source := none }) := by
  obtain ⟨hminute, hseconds, hlow, hhigh, hslew, hunsure, -⟩ := k.tables.clock
  exact k.setClock ⟨hminute, hseconds, hlow, hhigh, hslew, hunsure, nofun⟩ k.unsure

theorem Sound.lose (k : Sound lim s) (n : Nat) : Sound lim (lose n s) := by
  have hleft : PeersUnder lim (s.setPeers (s.peers.filter fun p => p.station != n)) :=
    ⟨k.peers.1.sublist (List.filter_sublist.map _), fun p hp => k.peers.2 p (List.mem_filter.mp hp).1⟩
  have hlocks := (k.setPeers hleft).removeLock (.station n)
  unfold Machine.lose
  simp only
  split
  · refine Sound.clearSource ?_; exact hlocks
  · exact hlocks

theorem Sound.loseAll (k : Sound lim s) (ns : List Nat) : Sound lim (loseAll ns s) := by
  induction ns generalizing s with
  | nil => exact k
  | cons n rest ih => exact ih (k.lose n)

theorem Sound.confirmExpired (k : Sound lim s) (n : Nat) : Sound lim (confirmExpired n s) := by
  unfold Machine.confirmExpired
  split
  · split
    · exact k.lose n
    · exact k
  · exact k

/-- A miss below the limit is counted of a station that is not HEARD (R69). -/
theorem Sound.presenceExpired (k : Sound limitBy s) (n : Nat) : Sound limitBy (presenceExpired n s) := by
  unfold Machine.presenceExpired
  split
  · next p hp =>
    have hmem : p ∈ s.peers := List.mem_of_find?_eq_some hp
    have hstation : p.station = n := by simpa using List.find?_some hp
    split
    · split
      · exact k.lose n
      · next hbelow =>
        have hkeep (q : Peer) : (if q.station = n then missed q else q).station = q.station := by split <;> rfl
        refine k.setPeers ⟨?_, List.forall_mem_map.mpr fun q hq => ?_⟩
        · rw [State.setPeers_peers, List.map_map]
          simp only [Function.comp_def, hkeep]
          exact k.peers.1
        · split
          · next hq' =>
            obtain rfl : q = p := List.inj_on_of_nodup_map k.peers.1 hq hmem (hq'.trans hstation.symm)
            obtain ⟨hown, -, -, hinfo, -⟩ := peerFormed_iff.mp (k.peers.2 q hq)
            exact peerFormed_iff.mpr ⟨hown, rfl, Nat.lt_of_not_le hbelow, hinfo, Nat.le_add_left _ _⟩
          · exact k.peers.2 q hq
    · exact k
  · exact k

/-- LINE_POOR judged; where it clears, the stations over the lower limit go (R70, R179). -/
theorem Sound.qualityMinute (k : Sound limitBy s) : Sound limitBy (qualityMinute s) := by
  by_cases hm : s.line.minute.isSome = true
  · have hline : Sound (fun _ => 6) (s.setLine (judgedLine s.line)) := k.widen
    have hsafe : PeersSafe s := peersUnder_limitBy.mp k.peers
    by_cases hk : s.line.poor = false ∨ judgedPoor s.line.count s.line.poor = true
    · rw [qualityMinute_quiet hm hk]
      refine hline.narrow fun p hp => ?_
      have hmisses := peerFormed_misses (k.peers.2 p hp)
      rcases hk with hpoor | hjudged
      · rw [hpoor] at hmisses
        exact hmisses.trans_le (limitBy_bounds _).1
      · rw [show (s.setLine (judgedLine s.line)).line.poor = true from hjudged]
        exact hmisses.trans_le (limitBy_bounds _).2
    · obtain ⟨hpoor, hclears⟩ := not_or.mp hk
      rw [Bool.not_eq_false] at hpoor
      rw [Bool.not_eq_true] at hclears
      rw [qualityMinute_clears hm hpoor hclears]
      refine (hline.loseAll _).narrow fun p hp => ?_
      rw [loseAll_peers] at hp
      obtain ⟨hmem, hleft⟩ := (mem_peers_kept hsafe).mp hp
      have hthree : p.misses < 3 := by
        rcases hleft with hheard | hmisses
        · obtain ⟨-, -, -, -, hzero⟩ := peerFormed_iff.mp (k.peers.2 p hmem)
          rw [hheard] at hzero
          rw [show p.misses = 0 from hzero]
          decide
        · exact hmisses
      exact hthree.trans_le (limitBy_bounds _).1
  · unfold Machine.qualityMinute
    rw [if_neg hm]
    exact k

/-! ### Beacons (R65 to R68, R76) -/

/-- A beacon's interval and light fraction are in range, or the beacon is not read (R65). -/
theorem beaconOf_form {body : List Byte} (h : beaconOf body = some info) :
    isInterval info.interval = true ∧ 256 ≤ info.f ∧ info.f ≤ 1024 := by
  unfold beaconOf at h
  split at h
  · split at h
    · simp only at h
      split at h
      · next hform =>
        obtain ⟨-, -, hinterval, -, hlow, hhigh, -⟩ := hform
        obtain rfl := Option.some.inj h
        exact ⟨hinterval, hlow, hhigh⟩
      · cases h
    · cases h
  · cases h

theorem heardFrom_station (n : Nat) (info : PeerInfo) (old : Option Peer) : (heardFrom n info old).station = n := by
  cases old <;> rfl

/-- The entry that a beacon leaves has its form, without a miss (R66 to R68). -/
theorem peerFormed_heardFrom (hone : 1 ≤ n) (hmax : n ≤ 31) (hown : n ≠ own)
    (hinfo : isInterval info.interval = true ∧ 256 ≤ info.f ∧ info.f ≤ 1024) (hlimit : 0 < limit) (old : Option Peer) :
    peerFormed own limit (heardFrom n info old) = true := by
  cases old <;> exact peerFormed_iff.mpr ⟨⟨hone, hmax, hown⟩, rfl, hlimit, hinfo, rfl⟩

/-- A beacon keeps each station once in the table (R66 to R68). -/
theorem readBeacon_nodup (n : Nat) (info : PeerInfo) (h : (ps.map fun p => p.station).Nodup) :
    ((readBeacon n info ps).map fun p => p.station).Nodup := by
  unfold readBeacon
  split
  · have hkeep (p : Peer) : (if p.station = n then heardFrom n info (some p) else p).station = p.station := by
      split
      · next hp => rw [hp]; rfl
      · rfl
    rw [List.map_map]
    simp only [Function.comp_def, hkeep]
    exact h
  · next hnew =>
    rw [List.map_append, List.map_singleton, heardFrom_station]
    refine List.Nodup.append h (List.nodup_singleton _) (List.disjoint_singleton.mpr fun hmem => hnew ?_)
    obtain ⟨p, hp, e⟩ := List.mem_map.mp hmem
    exact List.any_eq_true.mpr ⟨p, hp, beq_iff_eq.mpr e⟩

/-- An entry of the table after a beacon stood in it, or is one that the beacon leaves. -/
theorem mem_readBeacon (h : p ∈ readBeacon n info ps) : p ∈ ps ∨ ∃ old, p = heardFrom n info old := by
  unfold readBeacon at h
  split at h
  · obtain ⟨q, hq, rfl⟩ := List.mem_map.mp h
    split
    · exact .inr ⟨_, rfl⟩
    · exact .inl hq
  · rcases List.mem_append.mp h with h | h
    · exact .inl h
    · exact .inr ⟨none, List.mem_singleton.mp h⟩

theorem Sound.takeBeacon (k : Sound limitBy s) {t : Telegram} (hmax : t.origin.toNat ≤ 31) :
    Sound limitBy (takeBeacon t s) := by
  unfold Machine.takeBeacon
  split
  · exact k
  · next hzero =>
    have hone : 1 ≤ t.origin.toNat := Nat.one_le_iff_ne_zero.mpr fun h => hzero (BitVec.eq_of_toNat_eq h)
    split
    · exact k.foreignBeacon
    · next hown =>
      split
      · next info hb =>
        refine k.setPeers ⟨readBeacon_nodup _ _ k.peers.1, fun p hp => ?_⟩
        rcases mem_readBeacon hp with hp | ⟨old, rfl⟩
        · exact k.peers.2 p hp
        · exact peerFormed_heardFrom hone hmax hown (beaconOf_form hb)
            (Nat.lt_of_lt_of_le (by decide) (limitBy_bounds _).1) old
      · exact k

end Sys2Proof.Machine
end

section
/-! ## Clock, schedule and warm reset keep the invariant (09, 10, R154 to R167, R178, R183) -/

namespace Sys2Proof.Machine

variable {s u : State} {lim : Bool → Nat} {x : Option Slot}

/-! ### The parts of an evaluation (R164, R165) -/

/-- The state of an evaluation once the effective slot is entered (R165, steps 1 and 2). -/
def effectiveEntered (eff : Option Slot) (s : State) : State :=
  if eff ≠ s.schedule.heldEffective then enterEffective eff (scheduleLock eff s) else scheduleLock eff s

/-- The state of an evaluation before the slots are held (R165, steps 1 to 3). -/
def onEntered (eff on : Option Slot) (s : State) : State :=
  if on ≠ s.schedule.heldOn then enterOn eff on (effectiveEntered eff s) else effectiveEntered eff s

/-- The schedule with the slots of a minute held (R164). -/
def heldAt (minute : Nat) (x : Schedule) : Schedule :=
  { x with heldEffective := effectiveSlot minute x.slots, heldOn := onSlot minute x.slots }

/-- An evaluation is its three steps, then the slots are held (R164, R165). -/
theorem evaluate_eq (s : State) : evaluate s =
    (onEntered (effectiveSlot s.clock.minute s.schedule.slots) (onSlot s.clock.minute s.schedule.slots) s).setSchedule
      (heldAt s.clock.minute s.schedule) := rfl

theorem tablesView_scheduleLock (x : Option Slot) (s : State) : tablesView (scheduleLock x s) = tablesView s := by
  unfold scheduleLock
  split
  · exact tablesView_of_outside (outside_addLock _ s)
  · exact tablesView_of_outside (outside_removeLock _ s)

theorem tablesView_push (i : Input) (o : Origin) (s : State) : tablesView (push i o s) = tablesView s :=
  congrArg Prod.fst (soundView_push i o s)

theorem tablesView_enterEffective (x : Option Slot) (s : State) : tablesView (enterEffective x s) = tablesView s := by
  have hoff (u : State) : tablesView (groupOff u) = tablesView u := tablesView_of_outside (outside_groupOff u)
  unfold enterEffective
  simp only
  split <;> split
  · exact (hoff _).trans (tablesView_push _ _ _)
  · exact hoff _
  · exact tablesView_push _ _ _
  · rfl

theorem tablesView_enterOn (eff on : Option Slot) (s : State) : tablesView (enterOn eff on s) = tablesView s := by
  unfold enterOn
  split
  · exact tablesView_of_outside (outside_groupOn _ s)
  · split
    · rfl
    · unfold leaveSlot
      simp only
      split
      · exact tablesView_of_outside (outside_groupOff _)
      · rfl

/-- The steps of an evaluation leave clock, schedule, settings and start (R165). -/
theorem tablesView_onEntered (eff on : Option Slot) (s : State) : tablesView (onEntered eff on s) = tablesView s := by
  have heff : tablesView (effectiveEntered eff s) = tablesView s := by
    unfold effectiveEntered
    split
    · exact (tablesView_enterEffective _ _).trans (tablesView_scheduleLock _ _)
    · exact tablesView_scheduleLock _ _
  unfold onEntered
  split
  · exact (tablesView_enterOn _ _ _).trans heff
  · exact heff

/-- Of a table in form, the slots of a minute are held in form (R163, R164). -/
theorem ScheduleForm.heldAt {group : Nat} {x : Schedule} (h : ScheduleForm group x) (minute : Nat) :
    ScheduleForm group (heldAt minute x) where
  table := h.table
  effective y hy := h.table.formed y (mem_of_effectiveSlot hy)
  on y hy := h.table.formed y (mem_of_onSlot hy)
  closed hc := onSlot_closed hc

/-! ### Evaluations (R164, R165) -/

theorem Sound.scheduleLock (k : Sound lim s) (x : Option Slot) : Sound lim (scheduleLock x s) := by
  unfold Machine.scheduleLock
  split
  · exact k.addLock _
  · exact k.removeLock _

/-- The level that a formed slot sets is in range; without a slot there is none (R109). -/
theorem Sound.enterEffective (k : Sound lim s) (hx : ∀ y ∈ x, slotFormed s.settings.group y = true) :
    Sound lim (enterEffective x s) := by
  have hrange : ∀ v ∈ slotLevelOf x, 10 ≤ v ∧ v ≤ 200 := by
    cases x with
    | none => nofun
    | some y => exact slotLevelOf_range (hx y rfl)
  have hlevel : Sound lim (s.setGroup { s.group with slotLevel := slotLevelOf x }) :=
    k.setGroup ⟨k.group.levelOverride, hrange, k.group.growth, k.group.off⟩
  have hpush (i : Input) : Sound lim (push i .schedule (s.setGroup { s.group with slotLevel := slotLevelOf x })) :=
    hlevel.of_view (soundView_push i .schedule _)
  unfold Machine.enterEffective
  simp only
  split <;> split
  · exact (hpush _).groupOff
  · exact hlevel.groupOff
  · exact hpush _
  · exact hlevel

theorem Sound.leaveSlot (k : Sound lim s) : Sound lim (leaveSlot s) := by
  have hlevel : Sound lim (s.setGroup { s.group with slotLevel := none }) :=
    k.setGroup ⟨k.group.levelOverride, nofun, k.group.growth, k.group.off⟩
  unfold Machine.leaveSlot
  simp only
  split
  · exact hlevel.groupOff
  · exact hlevel

theorem Sound.enterOn (k : Sound lim s) (eff on : Option Slot) : Sound lim (enterOn eff on s) := by
  unfold Machine.enterOn
  split
  · exact k.groupOn _
  · split
    · exact k
    · exact k.leaveSlot

theorem Sound.effectiveEntered (k : Sound lim s) (hx : ∀ y ∈ x, slotFormed s.settings.group y = true) :
    Sound lim (effectiveEntered x s) := by
  have hgroup : (Machine.scheduleLock x s).settings.group = s.settings.group :=
    (congrArg (fun v => v.2.2.2.1.group) (tablesView_scheduleLock x s) :)
  unfold Machine.effectiveEntered
  split
  · exact (k.scheduleLock x).enterEffective (by rw [hgroup]; exact hx)
  · exact k.scheduleLock x

theorem Sound.setSchedule (k : Sound lim s) {x : Schedule} (hx : ScheduleForm s.settings.group x)
    (hearly : s.start.passTwo = false → x.heldEffective = none ∧ x.heldOn = none) : Sound lim (s.setSchedule x) := by
  obtain ⟨kreceiver, kearly, krest⟩ := k.tables.start
  exact ⟨⟨hx, k.tables.clock, k.tables.memory, k.tables.settings,
    ⟨kreceiver, fun hp => ⟨(kearly hp).1, hearly hp⟩, krest⟩⟩, k.peers, k.group, k.lamp⟩

theorem Sound.evaluate (k : Sound lim s) (hp : s.start.passTwo = true) : Sound lim (evaluate s) := by
  have hform := k.tables.schedule.heldAt s.clock.minute
  set eff := effectiveSlot s.clock.minute s.schedule.slots
  set on := onSlot s.clock.minute s.schedule.slots
  have hview := tablesView_onEntered eff on s
  have hgroup : (onEntered eff on s).settings.group = s.settings.group :=
    (congrArg (fun v => v.2.2.2.1.group) hview :)
  have hstart : (onEntered eff on s).start = s.start := (congrArg (fun v => v.2.2.2.2.1) hview :)
  have hentered : Sound lim (onEntered eff on s) := by
    unfold onEntered
    split
    · exact (k.effectiveEntered hform.effective).enterOn eff on
    · exact k.effectiveEntered hform.effective
  rw [evaluate_eq]
  refine hentered.setSchedule (by rw [hgroup]; exact hform) fun he => ?_
  rw [hstart, hp] at he
  cases he

/-- A clock that is SURE has passed pass two (R182). -/
theorem Sound.passTwo_of_sure (k : Sound lim s) (h : s.clock.sure.isSome = true) : s.start.passTwo = true := by
  refine (Bool.not_eq_false _).mp fun hp => ?_
  rw [k.unsure hp] at h
  cases h

theorem Sound.evaluateIfSure (k : Sound lim s) : Sound lim (evaluateIfSure s) := by
  unfold Machine.evaluateIfSure
  split
  · next h => exact k.evaluate (k.passTwo_of_sure h)
  · exact k

/-- A slot table in form, set for the own group (R161, R162). -/
theorem Sound.setSlots (k : Sound lim s) {xs : List Slot} (h : SlotTable s.settings.group xs) :
    Sound lim (setSlots xs s) := by
  obtain ⟨-, kearly, -⟩ := k.tables.start
  unfold Machine.setSlots
  split
  · exact k
  · refine Sound.evaluateIfSure (k.setSchedule (x := { s.schedule with slots := xs }) ?_ fun hp => (kearly hp).2)
    exact ⟨h, k.tables.schedule.effective, k.tables.schedule.on, k.tables.schedule.closed⟩

theorem Sound.ownSlotPut (k : Sound lim s) (t : Telegram) : Sound lim (ownSlotPut t s).1 := by
  unfold Machine.ownSlotPut refuse
  split
  · next h => exact k.setSlots (k.tables.schedule.table.put (slotInRange_storable h))
  · exact k

theorem Sound.ownSlotDrop (k : Sound lim s) (t : Telegram) : Sound lim (ownSlotDrop t s).1 := by
  unfold Machine.ownSlotDrop refuse
  split
  · split
    · exact k
    · split
      · exact k.setSlots (k.tables.schedule.table.without _)
      · exact k
  · exact k

/-! ### The clock (R154 to R158) -/

theorem Sound.advanceSecond (k : Sound lim s) : Sound lim (advanceSecond s) := by
  obtain ⟨hminute, hseconds, hrest⟩ := k.tables.clock
  unfold Machine.advanceSecond
  split
  · exact Sound.evaluateIfSure (k.setClock
      (c := { s.clock with seconds := 0, minute := (s.clock.minute + 1) % 10080 })
      ⟨Nat.mod_lt _ (by decide), (by decide : 0 < 60), hrest⟩ k.unsure)
  · next hbelow =>
    exact k.setClock (c := { s.clock with seconds := s.clock.seconds + 1 })
      ⟨hminute, by simp only [State.setClock_clock]; omega, hrest⟩ k.unsure

theorem Sound.secondEnds (k : Sound lim s) : Sound lim (secondEnds s) := by
  unfold Machine.secondEnds
  split
  · exact k.setClock (c := { s.clock with inserts := s.clock.inserts - 1 }) k.tables.clock k.unsure
  · exact k.advanceSecond

theorem Sound.minuteEnds (k : Sound lim s) : Sound lim (minuteEnds s) := by
  unfold Machine.minuteEnds
  split
  · exact k.secondEnds
  · exact k

theorem Sound.stepClock (k : Sound lim s) (hp : s.start.passTwo = true) {minute seconds : Nat} (hm : minute < 10080)
    (hs : seconds < 60) : Sound lim (stepClock minute seconds s) := by
  obtain ⟨-, -, -, -, -, -, hsource⟩ := k.tables.clock
  refine Sound.evaluate (k.setClock (c := { s.clock with
    minute := minute, seconds := seconds, slewLeft := 0, slew := none, inserts := 0, sure := some sureLength })
      ⟨hm, hs, (by decide : (-120 : Int) ≤ 0), (by decide : (0 : Int) ≤ 120), ?_, fun _ => rfl, hsource⟩
        fun he => ?_) hp
  · exact ⟨nofun, fun h => absurd rfl h⟩
  · rw [hp] at he
    cases he

/-- The slew timer runs while anything is left to slew (R158). -/
theorem slewTimer_iff (d : Int) : (if d = 0 then none else some 10000 : Timer).isSome = true ↔ d ≠ 0 := by
  split <;> simp_all

theorem Sound.adopt (k : Sound lim s) (hp : s.start.passTwo = true) {minute seconds : Nat} (hm : minute < 10080)
    (hs : seconds < 60) : Sound lim (adopt minute seconds s) := by
  obtain ⟨hminute, hseconds, -, -, -, -, hsource⟩ := k.tables.clock
  unfold Machine.adopt
  simp only
  split
  · exact k.stepClock hp hm hs
  · split
    · exact k.stepClock hp hm hs
    · next hnear =>
      refine k.setClock (c := { s.clock with
        slewLeft := clockDifference minute seconds s.clock
        slew := if clockDifference minute seconds s.clock = 0 then none else some 10000
        inserts := 0, sure := some sureLength })
          ⟨hminute, hseconds, ?_, ?_, slewTimer_iff _, nofun, hsource⟩ fun he => ?_
      · simp only [State.setClock_clock]; omega
      · simp only [State.setClock_clock]; omega
      · rw [hp] at he
        cases he

/-- A TIME is taken from another station, by an enabled receiver (R156, R182). -/
theorem Sound.takeTime (k : Sound lim s) (hr : s.start.receiver = true) {t : Telegram} (hmax : t.origin.toNat ≤ 31) :
    Sound lim (takeTime t s) := by
  obtain ⟨hpass, -⟩ := k.tables.start
  obtain ⟨hminute, hseconds, hlow, hhigh, hslew, hunsure, -⟩ := k.tables.clock
  unfold Machine.takeTime
  split
  · simp only
    split
    · next h =>
      obtain ⟨hm, hs, hzero, hown, -⟩ := h
      refine Sound.adopt (k.setClock (c := { s.clock with source := some t.origin.toNat })
        ⟨hminute, hseconds, hlow, hhigh, hslew, hunsure, fun n hn => ?_⟩ k.unsure) (hpass hr)
          (Nat.lt_succ_of_le hm) (Nat.lt_succ_of_le hs)
      obtain rfl := Option.some.inj hn
      exact ⟨Nat.one_le_iff_ne_zero.mpr hzero, hmax, hown⟩
    · exact k
  · exact k

theorem Sound.sureExpired (k : Sound lim s) : Sound lim (sureExpired s) := by
  obtain ⟨hminute, hseconds, -, -, -, -, hsource⟩ := k.tables.clock
  unfold Machine.sureExpired
  split
  · exact k.setClock (c := { s.clock with sure := none, slewLeft := 0, slew := none })
      ⟨hminute, hseconds, (by decide : (-120 : Int) ≤ 0), (by decide : (0 : Int) ≤ 120),
        ⟨nofun, fun h => absurd rfl h⟩, fun _ => rfl, hsource⟩ fun _ => rfl
  · exact k

/-- A slew step lowers what is left, to nothing while UNSURE never above it (R158). -/
theorem Sound.slewOnce (k : Sound lim s) : Sound lim (slewOnce s) := by
  obtain ⟨hminute, hseconds, hlow, hhigh, hslew, hunsure, hsource⟩ := k.tables.clock
  unfold Machine.slewOnce
  split
  · split
    · next hleft =>
      refine Sound.advanceSecond (k.setClock (c := { s.clock with
        slewLeft := s.clock.slewLeft - 1, slew := if s.clock.slewLeft - 1 = 0 then none else some 10000 })
          ⟨hminute, hseconds, ?_, ?_, slewTimer_iff _, fun hs => ?_, hsource⟩ k.unsure)
      · simp only [State.setClock_clock]; omega
      · simp only [State.setClock_clock]; omega
      · have := hunsure hs; omega
    · split
      · next hleft =>
        refine k.setClock (c := { s.clock with
          slewLeft := s.clock.slewLeft + 1, slew := if s.clock.slewLeft + 1 = 0 then none else some 10000
          inserts := s.clock.inserts + 1 })
            ⟨hminute, hseconds, ?_, ?_, slewTimer_iff _, fun hs => ?_, hsource⟩ k.unsure
        · simp only [State.setClock_clock]; omega
        · simp only [State.setClock_clock]; omega
        · have := hunsure hs; omega
      · next hbehind hahead =>
        have hzero : s.clock.slewLeft = 0 := by omega
        exact k.setClock (c := { s.clock with slew := none })
          ⟨hminute, hseconds, hlow, hhigh, ⟨nofun, fun h => absurd hzero h⟩, fun _ => hzero, hsource⟩ k.unsure
  · exact k

/-! ### The warm reset (R167, R178, R183) -/

theorem Sound.lockAgain (k : Sound lim s) (x : Option Slot) : Sound lim (lockAgain x s) := by
  unfold Machine.lockAgain
  split
  · exact k.addLock _
  · exact k

theorem Sound.onAgain (k : Sound lim s) : Sound lim (onAgain s) := by
  unfold Machine.onAgain
  split
  · exact k.groupOn _
  · exact k

theorem Sound.enterAgain (k : Sound lim s) (hx : ∀ y ∈ x, slotFormed s.settings.group y = true) :
    Sound lim (enterAgain x s) := by
  unfold Machine.enterAgain
  split
  · exact k.enterEffective hx
  · exact k

theorem Sound.resetSchedule (k : Sound lim s) : Sound lim (resetSchedule s) := by
  have hcleared := k.clearSource
  cases hsure : s.clock.sure.isSome with
  | true =>
    unfold Machine.resetSchedule
    simp only [State.setClock_clock, hsure, if_true]
    refine Sound.evaluate (hcleared.setSchedule (x := { s.schedule with heldEffective := none, heldOn := none })
      ⟨k.tables.schedule.table, nofun, nofun, fun _ => rfl⟩ fun _ => ⟨rfl, rfl⟩) (k.passTwo_of_sure hsure)
  | false =>
    have hgroup : (Machine.lockAgain s.schedule.heldEffective
        (s.setClock { s.clock with source := none })).settings = s.settings := by
      unfold Machine.lockAgain
      split
      · exact (congrArg State.settings (outside_addLock _ (s.setClock { s.clock with source := none })) :)
      · rfl
    rw [resetSchedule_unsure hsure]
    refine Sound.onAgain (Sound.enterAgain (hcleared.lockAgain _) ?_)
    rw [hgroup]
    exact k.tables.schedule.effective

/-- Relight and attempts cleared, the lamp keeps its state (R28). -/
theorem Sound.disarm (k : Sound lim s) : Sound lim (s.setLamp { s.lamp with relight := false, attempts := 0 }) :=
  k.setLamp id

theorem Sound.resetLamp (k : Sound lim s) : Sound lim (resetLamp s) := by
  unfold Machine.resetLamp
  refine Sound.disarm ?_
  split
  · exact k.darkenWaiting
  · exact k.extinguish rfl
  · exact k.extinguish rfl
  · exact k.extinguish rfl
  all_goals exact k

/-- With its Peer Table emptied a state keeps whatever limit there is (R73). -/
theorem Sound.resetPeers (k : Sound lim s) : Sound limitBy (resetPeers s) :=
  have hnone : PeersUnder limitBy (s.setPeers []) := ⟨List.nodup_nil, fun _ hp => absurd hp List.not_mem_nil⟩
  ⟨k.tables, hnone, k.group, k.lamp⟩

/-- The Group Coordinator's values of power-on are in form (R101, R120). -/
theorem Sound.resetGroup (k : Sound lim s) : Sound lim (s.setGroup (resetGroup s.group)) :=
  k.setGroup ⟨nofun, nofun, Nat.zero_le _, fun _ => rfl⟩

theorem Sound.setClaims (k : Sound lim s) (xs : List ClaimEntry) : Sound lim (s.setClaims xs) := k

theorem Sound.setGeometry (k : Sound lim s) (g : Geometry) : Sound lim (s.setGeometry g) := k

theorem Sound.resetLocks (k : Sound lim s) : Sound lim (resetLocks s) := k

theorem Sound.linkProgress (k : Sound lim s) : Sound lim (linkProgress s) := k.of_view (soundView_linkProgress s)

theorem Sound.beginFresh (k : Sound lim s) : Sound lim (beginFresh s) := k.of_view (soundView_beginFresh s)

theorem Sound.resetSelector (k : Sound lim s) : Sound lim (resetSelector s) := k.of_view (soundView_resetSelector s)

/-- LINE_POOR falls before the Peer Table is emptied, so between the two the wider limit holds (R70, R73, R178). -/
theorem Sound.warmReset (k : Sound limitBy s) : Sound limitBy (warmReset s) := by
  have hline : Sound (fun _ => 6) (s.setLine (resetLine s.line)) := k.widen
  have hengine := ((hline.setClaims []).resetLamp.resetLocks.linkProgress).setGeometry
  exact (hengine _).resetPeers.resetGroup.beginFresh.resetSelector.resetSchedule

end Sys2Proof.Machine
end

section
/-! ## Start-up keeps the invariant: the personality in its ranges, the slots, the place of zone 6 (11, R167, R181) -/

namespace Sys2Proof.Machine

variable {s u : State} {lim : Bool → Nat} {x : Settings}

/-! ### The ranges of zones 1 to 3 (R181) -/

/-- The values of zone 1 in their ranges. -/
def IdentityRange (x : Settings) : Prop :=
  1 ≤ x.group ∧ x.group ≤ 15 ∧ 1 ≤ x.circuit ∧ x.circuit ≤ 7 ∧ 1 ≤ x.budget ∧ x.budget ≤ 4 ∧
  10 ≤ x.defaultLevel ∧ x.defaultLevel ≤ 200 ∧ isInterval x.interval = true

/-- The values of zone 2 in their ranges. -/
def LampRange (x : Settings) : Prop :=
  500 ≤ x.life ∧ x.life ≤ 20000 ∧ 30 ≤ x.warmUp ∧ x.warmUp ≤ 120 ∧ 60 ≤ x.coolDown ∧ x.coolDown ≤ 300 ∧
  60 ≤ x.restrike ∧ x.restrike ≤ 300 ∧ 60 ≤ x.pMin ∧ x.pMin ≤ 70 ∧ 60 ≤ x.tWarn ∧ x.tWarn ≤ 110 ∧
  x.tWarn + 5 ≤ x.tShut ∧ x.tShut ≤ 130

/-- The times of zone 3 in their ranges. -/
def HoldRange (x : Settings) : Prop := 2 ≤ x.hold ∧ x.hold ≤ 30 ∧ 5 ≤ x.idle ∧ x.idle ≤ 60

theorem settingsSafe_of (hidentity : IdentityRange x) (hlamp : LampRange x) (hhold : HoldRange x)
    (hlist : ListForm x.initialList) : SettingsSafe x := by
  unfold IdentityRange at hidentity
  unfold LampRange at hlamp
  unfold HoldRange at hhold
  unfold ListForm at hlist
  unfold SettingsSafe
  tauto

theorem IdentityRange.identityFrom (h : IdentityRange x) (data : List Byte) : IdentityRange (identityFrom data x) := by
  have hinterval (n : Nat) : isInterval (if isInterval n then n else 2) = true := by
    split
    · assumption
    · rfl
  unfold Machine.identityFrom
  split
  · next g c k l i w =>
    obtain ⟨hg1, hg2⟩ := clamp_bounds (show 1 ≤ 15 by decide) g.toNat
    obtain ⟨hc1, hc2⟩ := clamp_bounds (show 1 ≤ 7 by decide) c.toNat
    obtain ⟨hk1, hk2⟩ := clamp_bounds (show 1 ≤ 4 by decide) k.toNat
    obtain ⟨hl1, hl2⟩ := clamp_bounds (show 10 ≤ 200 by decide) l.toNat
    exact ⟨hg1, hg2, hc1, hc2, hk1, hk2, hl1, hl2, hinterval _⟩
  · exact h

theorem LampRange.lampFrom (h : LampRange x) (data : List Byte) : LampRange (lampFrom data x) := by
  unfold Machine.lampFrom
  split
  · next l1 l0 w c1 c0 r1 r0 p tw ts =>
    obtain ⟨hl1, hl2⟩ := clamp_bounds (show 500 ≤ 20000 by decide) (beNat [l1, l0])
    obtain ⟨hw1, hw2⟩ := clamp_bounds (show 30 ≤ 120 by decide) w.toNat
    obtain ⟨hc1, hc2⟩ := clamp_bounds (show 60 ≤ 300 by decide) (beNat [c1, c0])
    obtain ⟨hr1, hr2⟩ := clamp_bounds (show 60 ≤ 300 by decide) (beNat [r1, r0])
    obtain ⟨hp1, hp2⟩ := clamp_bounds (show 60 ≤ 70 by decide) p.toNat
    obtain ⟨hwarn1, hwarn2⟩ := clamp_bounds (show 60 ≤ 110 by decide) tw.toNat
    obtain ⟨hshut1, hshut2⟩ := clamp_bounds (show clamp 60 110 tw.toNat + 5 ≤ 130 by omega) ts.toNat
    exact ⟨hl1, hl2, hw1, hw2, hc1, hc2, hr1, hr2, hp1, hp2, hwarn1, hwarn2, hshut1, hshut2⟩
  · exact h

theorem HoldRange.sourcesFrom (h : HoldRange x) (data : List Byte) : HoldRange (sourcesFrom data x) := by
  unfold Machine.sourcesFrom
  split
  · next t i entries =>
    obtain ⟨ht1, ht2⟩ := clamp_bounds (show 2 ≤ 30 by decide) t.toNat
    obtain ⟨hi1, hi2⟩ := clamp_bounds (show 5 ≤ 60 by decide) i.toNat
    exact ⟨ht1, ht2, hi1, hi2⟩
  · exact h

/-- A property that each zone's taking over keeps holds of the values whether the zone is good or not. -/
theorem fromZone_keeps {P : Settings → Prop} {data : Option (List Byte)} {take : List Byte → Settings → Settings}
    (hx : P x) (h : ∀ d x, P x → P (take d x)) : P (fromZone data take x) := by
  unfold fromZone
  split
  · exact h _ _ hx
  · exact hx

/-! A zone sets none of the values of another one. -/

theorem LampRange.identityFrom (h : LampRange x) (data : List Byte) : LampRange (identityFrom data x) := by
  unfold Machine.identityFrom; split <;> exact h
theorem HoldRange.identityFrom (h : HoldRange x) (data : List Byte) : HoldRange (identityFrom data x) := by
  unfold Machine.identityFrom; split <;> exact h
theorem IdentityRange.lampFrom (h : IdentityRange x) (data : List Byte) : IdentityRange (lampFrom data x) := by
  unfold Machine.lampFrom; split <;> exact h
theorem HoldRange.lampFrom (h : HoldRange x) (data : List Byte) : HoldRange (lampFrom data x) := by
  unfold Machine.lampFrom; split <;> exact h
theorem IdentityRange.sourcesFrom (h : IdentityRange x) (data : List Byte) : IdentityRange (sourcesFrom data x) := by
  unfold Machine.sourcesFrom; split <;> exact h
theorem LampRange.sourcesFrom (h : LampRange x) (data : List Byte) : LampRange (sourcesFrom data x) := by
  unfold Machine.sourcesFrom; split <;> exact h

theorem settingsRead_safe (silent : List Nat) (s : State) : SettingsSafe (settingsRead silent s) := by
  have hdefaults : IdentityRange Settings.defaults ∧ LampRange Settings.defaults ∧ HoldRange Settings.defaults := by
    unfold IdentityRange LampRange HoldRange
    decide
  obtain ⟨hidentity, hlamp, hhold⟩ := hdefaults
  refine settingsSafe_of ?_ ?_ ?_ (settingsRead_initialList silent s)
  · exact fromZone_keeps (fromZone_keeps (fromZone_keeps hidentity fun d _ h => h.identityFrom d)
      fun d _ h => h.lampFrom d) fun d _ h => h.sourcesFrom d
  · exact fromZone_keeps (fromZone_keeps (fromZone_keeps hlamp fun d _ h => h.identityFrom d)
      fun d _ h => h.lampFrom d) fun d _ h => h.sourcesFrom d
  · exact fromZone_keeps (fromZone_keeps (fromZone_keeps hhold fun d _ h => h.identityFrom d)
      fun d _ h => h.lampFrom d) fun d _ h => h.sourcesFrom d

/-! ### The slots of zone 5 (R167), pass two, power-on, the receiver (R180, R182) -/

theorem SlotTable.slotsFrom {group : Nat} {acc : List Slot} (h : SlotTable group acc) (n : Nat) (data : List Byte) :
    SlotTable group (slotsFrom group n data acc) := by
  induction n generalizing data acc with
  | zero => exact h
  | succ n ih =>
    unfold Machine.slotsFrom
    refine ih ?_ _
    split
    · next x hx => exact h.put (slotInRange_storable hx)
    · exact h

theorem slotTable_slotsRead (group : Nat) (data : Option (List Byte)) : SlotTable group (slotsRead group data) := by
  unfold slotsRead
  split
  · exact slotTable_nil.slotsFrom _ _
  · exact slotTable_nil

/-- Zone 6 has a place within the memory, or none (R185). -/
theorem wearPlaceOf_fits {silent : List Nat} {a : Nat} (h : a ∈ wearPlaceOf silent s) : a + 10 ≤ Config.memorySize := by
  unfold wearPlaceOf at h
  simp only at h
  split at h
  · next hfits =>
    obtain rfl := Option.some.inj h
    simp only [Bool.and_eq_true, decide_eq_true_eq] at hfits
    exact hfits.2
  · cases h

/-- The state of pass two before the selector starts. -/
theorem Sound.zonesTaken (k : Sound lim s) (hp : s.start.passTwo = false) (silent : List Nat) :
    Sound lim ((((s.setStart { s.start with
      passTwo := true, defaulted := zonesRead silent s, wearPlace := wearPlaceOf silent s }).setSettings
        (settingsRead silent s)).setLamp (relengthen (settingsRead silent s) s.lamp)).setSchedule
          { s.schedule with slots := slotsRead (settingsRead silent s).group (zoneData silent s 5) }) := by
  obtain ⟨-, kearly, -, knumber⟩ := k.tables.start
  obtain ⟨-, heffective, hon⟩ := kearly hp
  have hheld (y : Option Slot) (hy : y = none) (group : Nat) : ∀ z ∈ y, slotFormed group z = true := by
    subst hy
    nofun
  refine ⟨⟨⟨slotTable_slotsRead _ _, hheld _ heffective _, hheld _ hon _, fun _ => hon⟩, k.tables.clock,
    k.tables.memory, settingsRead_safe silent s, fun _ => rfl, nofun, fun a ha => wearPlaceOf_fits ha, knumber⟩,
    k.peers, k.group, nofun⟩

theorem Sound.secondPassOnce (k : Sound lim s) (silent : List Nat) : Sound lim (secondPassOnce silent s) := by
  unfold Machine.secondPassOnce
  split
  · exact k
  · next hp =>
    refine Sound.of_view (s := State.setSource _ _) ?_ (soundView_startSelector _)
    exact k.zonesTaken (Bool.not_eq_true _ ▸ hp) silent

theorem Sound.enableReceiver (k : Sound lim s) : Sound lim (enableReceiver s) := by
  unfold Machine.enableReceiver
  split
  · next h =>
    simp only [Bool.and_eq_true] at h
    obtain ⟨⟨hpass, -⟩, -⟩ := h
    obtain ⟨-, -, krest⟩ := k.tables.start
    have hwaits (hp : s.start.passTwo = false) : False := absurd (hpass.symm.trans hp) nofun
    have henabled : Sound lim (s.setStart { s.start with receiver := true }) :=
      ⟨⟨k.tables.schedule, k.tables.clock, k.tables.memory, k.tables.settings, fun _ => hpass,
        fun hp => (hwaits hp).elim, krest⟩, k.peers, k.group, fun hp => (hwaits hp).elim⟩
    refine Sound.of_view ?_ (soundView_beginFresh _)
    exact henabled
  · exact k

/-- A station number is of 1 to 31 (R180). -/
theorem strapsRead_number (p : PowerUp) : 1 ≤ (strapsRead p).number ∧ (strapsRead p).number ≤ 31 := by
  unfold strapsRead
  have := p.station.isLt
  simp only
  split <;> omega

/-- Power-on writes a tool's bytes to the memory and sets everything else to its value (R182, 12.6). -/
theorem Sound.poweredOn (k : Sound lim s) (p : PowerUp)
    (h : ¬(p.toolWrites.any fun c => Config.memorySize ≤ c.1) = true) : Sound lim (poweredOn p s) := by
  have hwrites : ∀ c ∈ p.toolWrites, c.1 < Config.memorySize := by
    intro c hc
    refine Nat.lt_of_not_le fun hle => h ?_
    exact List.any_eq_true.mpr ⟨c, hc, decide_eq_true hle⟩
  have hclock : ClockSafe (Machine.poweredOn p s) :=
    ⟨(by decide : 0 < 10080), (by decide : 0 < 60), (by decide : (-120 : Int) ≤ 0), (by decide : (0 : Int) ≤ 120),
      ⟨nofun, fun h => absurd rfl h⟩, fun _ => rfl, nofun⟩
  have hsettings : SettingsSafe Settings.defaults := by
    unfold SettingsSafe
    decide
  have hstart : StartForm (Machine.poweredOn p s) :=
    ⟨nofun, fun _ => ⟨rfl, rfl, rfl⟩, nofun, strapsRead_number p⟩
  have hpeers : PeersUnder lim ((Machine.poweredOn p s).setPeers []) :=
    ⟨List.nodup_nil, fun _ hp => absurd hp List.not_mem_nil⟩
  have hschedule : ScheduleForm Settings.defaults.group ⟨[], none, none⟩ := ⟨slotTable_nil, nofun, nofun, fun _ => rfl⟩
  have hgroup : GroupForm Group.powerOn := ⟨nofun, nofun, Nat.zero_le _, fun _ => rfl⟩
  exact ⟨⟨hschedule, hclock, Memory.wf_writeCells _ _ hwrites k.tables.memory, hsettings, hstart⟩, hpeers, hgroup,
    fun _ => ⟨rfl, rfl⟩⟩

end Sys2Proof.Machine
end

section
/-! ## The hall line and its requests keep the invariant; every step (10, R170 to R178) -/

namespace Sys2Proof.Machine

variable {s u : State} {lim : Bool → Nat} {t : Telegram}

/-! ### Sending (R170, R171) -/

theorem Sound.reserveForHead (k : Sound lim s) : Sound lim (reserveForHead s) := k.of_view (soundView_reserveForHead s)

theorem Sound.ownerDrop (k : Sound limitBy s) (p : Payload) : Sound limitBy (ownerDrop p s) := by
  unfold Machine.ownerDrop
  split
  · exact k.of_view (soundView_beaconEnded s)
  · exact k.reserveForHead
  · exact k.reserveForHead
  · exact k.reserveForHead
  · exact k.warmReset
  · exact k.reserveForHead

theorem Sound.ownerEcho (k : Sound limitBy s) (p : Payload) : Sound limitBy (ownerEcho p s) := by
  unfold Machine.ownerEcho
  split
  · exact k.of_view (soundView_beaconEnded s)
  · exact (k.of_view (soundView_ownClaimEcho s)).reserveForHead
  · exact k.reserveForHead
  · exact k.reserveForHead
  · exact k.warmReset
  · exact k.reserveForHead

theorem Sound.attemptFailed (k : Sound limitBy s) : Sound limitBy (attemptFailed s) := by
  unfold Machine.attemptFailed
  split
  · exact k
  · simp only
    split
    · refine Sound.reserveForHead ?_; exact k
    · split
      · refine Sound.ownerDrop ?_ _; exact k
      · exact k

theorem Sound.lineLost (k : Sound limitBy s) : Sound limitBy (lineLost s) := by
  unfold Machine.lineLost
  split
  · simp only
    split
    · exact k
    · refine Sound.attemptFailed ?_; exact k
  · exact k

theorem Sound.lineFaulted (k : Sound limitBy s) : Sound limitBy (lineFaulted s) := by
  unfold Machine.lineFaulted
  split
  · simp only
    split
    · exact k
    · refine Sound.attemptFailed ?_; exact k
  · exact k

theorem Sound.sentComplete (k : Sound limitBy s) : Sound limitBy (sentComplete s) := by
  unfold Machine.sentComplete
  split
  · simp only
    split
    · exact k
    · split
      · refine Sound.ownerEcho ?_ _; exact k
      · exact k
  · exact k

/-! ### Receiving (R172, R173): the receiver stays enabled -/

theorem evaluate_start (s : State) : (evaluate s).start = s.start :=
  (congrArg (fun v => v.2.2.2.2.1) (tablesView_onEntered _ _ s) :)

theorem takeTime_start (t : Telegram) (s : State) : (takeTime t s).start = s.start := by
  unfold takeTime adopt stepClock
  simp only
  (repeat' split)
  all_goals first | rfl | exact evaluate_start _

theorem takeBeacon_start (t : Telegram) (s : State) : (takeBeacon t s).start = s.start := by
  unfold takeBeacon foreignBeacon
  simp only
  (repeat' split)
  all_goals first | rfl | exact (congrArg State.start (outside_unwanted (s.setListen _)) :)

theorem deliver_start (t : Telegram) (s : State) : (deliver t s).start = s.start := by
  unfold deliver handTo takeRequest takeClaim takeRelease
  (repeat' split)
  all_goals first | rfl | exact takeBeacon_start t s | exact takeTime_start t s

theorem Sound.deliver (k : Sound limitBy s) (hr : s.start.receiver = true) (t : Telegram) :
    Sound limitBy (deliver t s) := by
  unfold Machine.deliver
  split
  · exact k
  · next hknown =>
    have hmax : t.origin.toNat ≤ 31 := by
      simp only [Bool.or_eq_true, decide_eq_true_eq, not_or] at hknown
      exact Nat.le_of_not_lt hknown.2
    split
    · unfold handTo takeRequest
      (repeat' split)
      · exact k.takeBeacon hmax
      · exact k.of_view (soundView_takeClaim t s)
      · exact k.of_view (soundView_takeRelease t s)
      · exact k.takeTime hr hmax
      all_goals exact k
    · exact k

theorem Sound.receiveAll (signals : List LineSignal) (k : Sound limitBy s) (hr : s.start.receiver = true) :
    Sound limitBy (receiveAll signals s) := by
  induction signals generalizing s with
  | nil => exact k
  | cons x rest ih =>
    have hk : Sound limitBy (hear x s) := k
    unfold Machine.receiveAll receiveOne
    split
    · next t _ =>
      refine ih ((hk.deliver hr t).settle s) ?_
      rw [settle_start, deliver_start]
      exact hr
    · exact ih hk hr

theorem Sound.receive (k : Sound limitBy s) (signals : List LineSignal) : Sound limitBy (receive signals s) := by
  unfold Machine.receive
  split
  · next hr => exact k.receiveAll signals hr
  · exact k

/-! ### Requests (R175, R176) -/

/-- An owner keeps the invariant, so the dispatch of a request to it does (R175, R176). -/
theorem Sound.dispatch (k : Sound limitBy s) {accepts : Telegram → Bool} {owner : Owner}
    (ho : ∀ t s, Sound limitBy s → Sound limitBy (owner t s).1) : Sound limitBy (dispatch accepts owner s) := by
  unfold Machine.dispatch
  split
  · exact k
  · next t rest _ =>
    split
    · have hr : Sound limitBy
          (if t.origin = 0 then (takeHead t rest s, none) else owner t (takeHead t rest s)).1 := by
        split
        · exact k
        · exact ho t _ k
      simp only
      generalize (if t.origin = 0 then (takeHead t rest s, none) else owner t (takeHead t rest s)) = r at hr
      split
      · split
        · exact hr
        · refine Sound.reserveForHead ?_; exact hr
      · exact hr
    · exact k

theorem Sound.ownGroupOn (k : Sound lim s) (t : Telegram) : Sound lim (ownGroupOn t s).1 := by
  unfold Machine.ownGroupOn refuse
  (repeat' split)
  · exact k
  · exact k.groupOn _
  · exact k

theorem Sound.ownGroupOff (k : Sound lim s) (t : Telegram) : Sound lim (ownGroupOff t s).1 := by
  unfold Machine.ownGroupOff refuse
  (repeat' split)
  · exact k
  · exact k.groupOff
  · exact k

/-- A LEVEL is brought into range (R108). -/
theorem Sound.ownLevel (k : Sound lim s) (t : Telegram) : Sound lim (ownLevel t s).1 := by
  unfold Machine.ownLevel refuse
  split
  · next v _ =>
    split
    · refine k.setGroup (g := { s.group with levelOverride := some (clamp 10 200 v.toNat) })
        ⟨fun w hw => ?_, k.group.slotLevel, k.group.growth, k.group.off⟩
      obtain rfl := Option.some.inj hw
      exact clamp_bounds (by decide) _
    · exact k
  · exact k

theorem Sound.ownLock (k : Sound lim s) (t : Telegram) : Sound lim (ownLock t s).1 := by
  unfold Machine.ownLock takeLock refuse
  simp only
  (repeat' split)
  all_goals first | exact k | exact k.addLock _

theorem Sound.ownUnlock (k : Sound lim s) (t : Telegram) : Sound lim (ownUnlock t s).1 := by
  unfold Machine.ownUnlock refuse
  (repeat' split)
  all_goals first | exact k | exact k.removeLock _

theorem Sound.ownClearFault (k : Sound lim s) (t : Telegram) : Sound lim (ownClearFault t s).1 := by
  unfold Machine.ownClearFault refuse
  split
  · exact k
  · exact k.tryClear

theorem Sound.ownLampNew (k : Sound lim s) (t : Telegram) : Sound lim (ownLampNew t s).1 := by
  unfold Machine.ownLampNew newLamp refuse
  (repeat' split)
  · exact k
  · exact k
  · refine Sound.of_view (Sound.removeLock ?_ .wear) (soundView_requestWrite _); exact k
  · exact k

theorem Sound.ownRestart (k : Sound limitBy s) (t : Telegram) : Sound limitBy (ownRestart t s).1 := by
  unfold Machine.ownRestart refuse
  (repeat' split)
  · exact k
  · exact k
  · exact k.warmReset

/-! ### Every step -/

theorem sound_of_finish {op : State → State} {t : State} (hop : Sound limitBy (op s)) (e : finish op s = .next t) :
    Sound limitBy t := by
  obtain rfl := Host.Outcome.next.inj e
  exact hop.settle s

theorem sound_of_view {op : State → State} {t : State} (k : Sound limitBy s) (hop : soundView (op s) = soundView s)
    (e : finish op s = .next t) : Sound limitBy t := sound_of_finish (k.of_view hop) e

theorem sound_of_owner {accepts : Telegram → Bool} {owner : Owner} {t : State} (k : Sound limitBy s)
    (ho : ∀ t s, Sound limitBy s → Sound limitBy (owner t s).1) (e : finish (dispatch accepts owner) s = .next t) :
    Sound limitBy t := sound_of_finish (k.dispatch ho) e

/-- An owner of a QUERY changes nothing (R177). -/
theorem sound_of_query {accepts : Telegram → Bool} {read : Telegram → State → Option Result} {t : State}
    (k : Sound limitBy s) (e : finish (dispatch accepts fun t s => queryForm t s (read t s)) s = .next t) :
    Sound limitBy t := sound_of_owner k (fun t s k => by rw [queryForm_state]; exact k) e

theorem sound_of_key {get : Panel → Key} {put : Panel → Key → Panel} {press : State → State} {samples : List Bool}
    {t : State} (k : Sound limitBy s)
    (e : (Host.Outcome.next (sampleKey get put press samples s) : Host.Outcome State Fault Refusal) = .next t)
    (hp : ∀ s, Sound limitBy s → Sound limitBy (press s)) : Sound limitBy t := by
  obtain rfl := Host.Outcome.next.inj e
  exact Sound.sampleKey hp samples k

theorem exec_sound {i : Instr} {t : State} (k : Sound limitBy s) (h : Settled s) (e : exec i s = .next t) :
    Sound limitBy t := by
  cases i with
  | powerOn p =>
    have e : execPowerOn p s = .next t := e
    unfold execPowerOn at e
    split at e
    · cases e
    · next hfits =>
      obtain rfl := Host.Outcome.next.inj e
      exact (k.poweredOn p hfits).settle _
  | secondPass silent => exact sound_of_finish (k.secondPassOnce silent) e
  | receiverEnabled => exact sound_of_finish k.enableReceiver e
  | loss => exact sound_of_finish k.lineLost e
  | lineFault => exact sound_of_finish k.lineFaulted e
  | ownEcho => exact sound_of_finish k.sentComplete e
  | receiveError | requestArrival | answer | beacon | claim | release | time | telegramOfUnknownKind =>
    obtain rfl := Host.Outcome.next.inj e
    exact k.receive _
  | groupOn => exact sound_of_owner k (fun t _ k => k.ownGroupOn t) e
  | groupOff => exact sound_of_owner k (fun t _ k => k.ownGroupOff t) e
  | level => exact sound_of_owner k (fun t _ k => k.ownLevel t) e
  | showInput => exact sound_of_owner k (fun t s k => k.of_view (soundView_ownShow t s)) e
  | corners => exact sound_of_owner k (fun t s k => k.of_view (soundView_ownCorners t s)) e
  | lock => exact sound_of_owner k (fun t _ k => k.ownLock t) e
  | unlock => exact sound_of_owner k (fun t _ k => k.ownUnlock t) e
  | slotPut => exact sound_of_owner k (fun t _ k => k.ownSlotPut t) e
  | slotDrop => exact sound_of_owner k (fun t _ k => k.ownSlotDrop t) e
  | clearFault => exact sound_of_owner k (fun t _ k => k.ownClearFault t) e
  | lampNew => exact sound_of_owner k (fun t _ k => k.ownLampNew t) e
  | restart => exact sound_of_owner k (fun t _ k => k.ownRestart t) e
  | queryWear | queryLocks | querySlot | queryCorners => exact sound_of_query k e
  | confirmWindowExpiry station => exact sound_of_finish (k.confirmExpired station) e
  | presenceTimerExpiry station => exact sound_of_finish (k.presenceExpired station) e
  | freshEnd => exact sound_of_finish k.freshEnds e
  | duplicateTimerExpiry => exact sound_of_finish k.duplicateEnds e
  | lineQualityMinute => exact sound_of_finish k.qualityMinute e
  | litSense => exact sound_of_finish k.litSenseArrives e
  | dropout => exact sound_of_finish k.litSenseLost e
  | litSenseWaitExpiry => exact sound_of_finish k.litWaitExpired e
  | warmUpExpiry => exact sound_of_finish k.warmUpExpired e
  | rampStep => exact sound_of_finish k.rampOnce e
  | coolDownExpiry => exact sound_of_finish k.coolDownExpired e
  | restrikeGuardExpiry => exact sound_of_finish k.restrikeExpired e
  | fanStall => exact sound_of_finish k.fanStalls e
  | tachometerStalled => exact sound_of_finish k.tachoStalls e
  | supplyLowAsserted => exact sound_of_finish k.supplyFails e
  | temperatureSample reading => exact sound_of_finish (k.takeSample reading) e
  | writeCompletion readBack => exact sound_of_finish (k.readBackTaken readBack) e
  | writeTimeout held => exact sound_of_finish (k.writeTimesOut held) e
  | presenceSample lines => exact sound_of_finish (k.samplePresence lines) e
  | idleTimerExpiry => exact sound_of_finish k.idleExpired e
  | keypadPower => exact sound_of_key k e fun _ k => k.pressPower
  | keypadSource => exact sound_of_key k e fun s k => k.of_view (soundView_pressSource s)
  | keypadVPlus => exact sound_of_key k e fun s k => k.of_view (soundView_pressKeystone 8 s)
  | keypadVMinus => exact sound_of_key k e fun s k => k.of_view (soundView_pressKeystone (-8) s)
  | keypadClear => exact sound_of_key k e fun _ k => k.pressClear
  | keySwitchSettle samples =>
    obtain rfl := Host.Outcome.next.inj e
    exact Sound.sampleSwitch samples k
  | lockMinuteTimerExpiry station => exact sound_of_finish (k.lockMinute station) e
  | clockSecond => exact sound_of_finish k.secondEnds e
  | minuteChange => exact sound_of_finish k.minuteEnds e
  | sureTimerExpiry => exact sound_of_finish k.sureExpired e
  | slewTimerExpiry => exact sound_of_finish k.slewOnce e
  | shortfallTimerExpiry => exact sound_of_finish (k.growthStep h) e
  | retryGapExpiry | dropoutWindowExpiry | fanTestExpiry | tachometerRunning | supplyLowReleased
  | beaconSpacingExpiry =>
    exact sound_of_view k rfl e
  | _ => exact sound_of_view k (by simp) e

theorem step_sound {t : State} (h : Safe s) (e : step s = .next t) : Sound limitBy t := by
  have hsettled : Settled s := by
    obtain ⟨-, -, hsettled, -⟩ := h
    exact hsettled
  unfold step at e
  split at e
  · cases e; exact h.sound
  · next c rest _ => exact exec_sound (s := s.setPending rest) h.sound (setPending_settled hsettled rest) e

/-- P lies within its bounds, as the settling sets it from P_min to the power cap (R115). -/
theorem Sound.groupSafe (k : Sound lim s) (h : Settled s) (hcap : s.lamp.cap = 100 ∨ s.lamp.cap = 70) :
    GroupSafe s.group := by
  have hmin : 60 ≤ s.settings.pMin ∧ s.settings.pMin ≤ 70 := by
    have hsettings := k.tables.settings
    unfold SettingsSafe at hsettings
    omega
  obtain ⟨hlow, hhigh⟩ := clamp_bounds (show s.settings.pMin ≤ s.lamp.cap by omega) s.group.unclamped
  rw [← h.group_p] at hlow hhigh
  exact ⟨k.group.levelOverride, k.group.slotLevel, by omega, by omega, k.group.growth, k.group.off⟩

/-- Settles O60: every operation keeps the tables, the clock, the memory, the settings, the start and the orders in
form, the settling sets P, and the power cap that bounds P is one of the two. -/
theorem tablesClockAndMemoryStayInForm : Obligations.TablesClockAndMemoryStayInForm := by
  intro s t h e
  have k := step_sound h e
  have hcap : t.lamp.cap = 100 ∨ t.lamp.cap = 70 := (step_kept h e).1.power.cap
  obtain ⟨hschedule, hclock, hmemory, hsettings, hreceiver, hearly, hplace, hnumber⟩ := k.tables
  refine ⟨slotsSafe_iff.mpr hschedule, hclock, peersUnder_limitBy.mp k.peers, hmemory, ⟨hreceiver, fun hp => ?_, hplace,
    hnumber⟩, hsettings, k.groupSafe (stepsEndSettled s t h e) hcap⟩
  exact ⟨(k.lamp hp).2, hearly hp⟩

end Sys2Proof.Machine
end

section
/-! ## What an evaluation of the schedule does (09, R107, R127, R163 to R165) -/

namespace Sys2Proof.Machine

variable {s u v : State} {l : Lock} {i : Input} {o : Origin} {eff on : Option Slot} {level : Option Nat}
  {x : Option OnCause} {m : Option Nat} {minute : Nat} {slots : List Slot}

/-! ### The SCHEDULE lock (R165, step 1) -/

/-- A change of the Lock Set gives the group no orders (R143). -/
theorem lampUncovered_orders (b s : State) : groupOrders (lampUncovered b s).group = groupOrders s.group := by
  unfold lampUncovered electIfAvailable
  split
  · split
    · rw [elect_group]; split <;> rfl
    · rfl
  · rfl

theorem addLock_orders (l : Lock) (s : State) : groupOrders (addLock l s).group = groupOrders s.group := by
  unfold addLock
  split
  · rfl
  · simp only
    split
    · simp [clearSelection, groupOrders]
    · exact lampUncovered_orders s _

theorem scheduleLock_orders (x : Option Slot) (s : State) :
    groupOrders (scheduleLock x s).group = groupOrders s.group := by
  unfold scheduleLock
  split
  · exact addLock_orders _ s
  · exact lampUncovered_orders s _

theorem outside_scheduleLock (x : Option Slot) (s : State) : outside (scheduleLock x s) = outside s := by
  unfold scheduleLock
  split
  · exact outside_addLock _ s
  · exact outside_removeLock _ s

/-- A lock added is its holder's lock (R144). -/
theorem addLock_lockOf (k : LocksForm s.locks) (l : Lock) : lockOf (addLock l s).locks l.holder = some l := by
  rw [addLock_locks]
  split
  · next hin => exact k.lockOf (List.contains_iff_mem.mp hin)
  · have hrest := lockOf_withoutHolder l.holder s.locks
    unfold lockOf at hrest ⊢
    rw [List.find?_append, hrest]
    simp

/-- The SCHEDULE lock is the one that the effective slot wants, of the locks one a holder (R140, R165). -/
theorem scheduleLock_lockOf (k : LocksForm s.locks) (x : Option Slot) :
    (lockOf (scheduleLock x s).locks .schedule).map (fun l => l.scopes) = lockWanted x := by
  unfold scheduleLock
  split
  · next sc hsc => rw [addLock_lockOf k ⟨.schedule, sc, none⟩, hsc]; rfl
  · next hnone => rw [removeLock_locks, lockOf_withoutHolder, hnone]; rfl

/-! ### The group's orders (R102, R103, R107) -/

/-- The mode and the slot level are these after `s`; by a mode turned OFF the override and the selection end (R103). -/
structure OrdersTo (x : Option OnCause) (n : Option Nat) (s u : State) : Prop where
  mode : u.group.mode = x
  level : u.group.slotLevel = n
  override : u.group.levelOverride = if s.group.mode.isSome = true ∧ x = none then none else s.group.levelOverride
  selection : s.group.mode.isSome = true → x = none → u.group.selection = .unselected

theorem isSome_not_none {α : Type} {x : Option α} : ¬(x.isSome = true ∧ x = none) := by
  rintro ⟨hsome, rfl⟩
  cases hsome

/-- Orders are compared with a state that has the mode and the override alone. -/
theorem OrdersTo.after (h : OrdersTo x level v u)
    (hv : groupOrders v.group = (s.group.mode, s.group.levelOverride, m)) : OrdersTo x level s u := by
  simp only [groupOrders, Prod.mk.injEq] at hv
  obtain ⟨hmode, hoverride, -⟩ := hv
  obtain ⟨h1, h2, h3, h4⟩ := h
  rw [hmode] at h3 h4
  rw [hoverride] at h3
  exact ⟨h1, h2, h3, h4⟩

theorem ordersTo_same (h : groupOrders u.group = (s.group.mode, s.group.levelOverride, level)) :
    OrdersTo s.group.mode level s u := by
  simp only [groupOrders, Prod.mk.injEq] at h
  obtain ⟨hmode, hoverride, hlevel⟩ := h
  exact ⟨hmode, hlevel, by rw [if_neg isSome_not_none, hoverride],
    fun hsome hnone => absurd ⟨hsome, hnone⟩ isSome_not_none⟩

theorem ordersTo_groupOff (s : State) : OrdersTo none s.group.slotLevel s (groupOff s) := by
  cases hm : s.group.mode with
  | none =>
    rw [groupOff_off hm]
    refine ⟨hm, rfl, (if_neg fun h => ?_).symm, fun h => ?_⟩ <;> simp [hm] at h
  | some c =>
    have hsome : s.group.mode.isSome = true := by rw [hm]; rfl
    rw [groupOff_on hsome]
    refine ⟨?_, ?_, ?_, fun _ _ => ?_⟩
    · rw [onDecision_group]; rfl
    · rw [onDecision_group]; rfl
    · rw [onDecision_group, if_pos ⟨hsome, rfl⟩]; rfl
    · rw [onDecision_group]; rfl

/-- Turned ON by the schedule the mode is ON by SCHEDULE, the levels as they were (R102). -/
theorem ordersTo_groupOn (s : State) : OrdersTo (some .schedule) s.group.slotLevel s (groupOn .schedule s) := by
  have hrest : (groupOn .schedule s).group.slotLevel = s.group.slotLevel ∧
      (groupOn .schedule s).group.levelOverride = s.group.levelOverride := by
    unfold groupOn
    split
    · simp only
      split
      · rw [elect_group]; split <;> exact ⟨rfl, rfl⟩
      · exact ⟨rfl, rfl⟩
    · exact ⟨rfl, rfl⟩
  obtain ⟨hlevel, hoverride⟩ := hrest
  exact ⟨by rw [groupOn_mode, if_pos (.inr rfl)], hlevel, by rw [hoverride, if_neg (by rintro ⟨-, h⟩; cases h)], nofun⟩

/-- Left for none, the slot clears the slot level, and turns OFF a mode ON by schedule (R107). -/
theorem ordersTo_leaveSlot (s : State) :
    OrdersTo (if s.group.mode = some .schedule then none else s.group.mode) none s (leaveSlot s) := by
  set v := s.setGroup { s.group with slotLevel := none } with hv
  have horders : groupOrders v.group = (s.group.mode, s.group.levelOverride, none) := rfl
  change OrdersTo _ _ s (if s.group.mode = some .schedule then groupOff v else v)
  split
  · exact (ordersTo_groupOff v).after horders
  · exact ordersTo_same horders

theorem push_group (i : Input) (o : Origin) (s : State) : (push i o s).group = s.group :=
  (congrArg State.group (besides_push i o s) :)

/-- The slot entered but for its closing: the slot level set and the source pushed (R109, R127). -/
def slotTaken (x : Option Slot) (s : State) : State :=
  match slotSourceOf x with
  | some i => push i .schedule (s.setGroup { s.group with slotLevel := slotLevelOf x })
  | none => s.setGroup { s.group with slotLevel := slotLevelOf x }

theorem enterEffective_eq (x : Option Slot) (s : State) :
    enterEffective x s = if isClosed x then groupOff (slotTaken x s) else slotTaken x s := by
  unfold enterEffective slotTaken
  cases slotSourceOf x <;> rfl

theorem slotTaken_orders (x : Option Slot) (s : State) :
    groupOrders (slotTaken x s).group = (s.group.mode, s.group.levelOverride, slotLevelOf x) := by
  unfold slotTaken
  split
  · rw [push_group]; rfl
  · rfl

theorem ordersTo_enterEffective (x : Option Slot) (s : State) :
    OrdersTo (if isClosed x = true then none else s.group.mode) (slotLevelOf x) s (enterEffective x s) := by
  have horders := slotTaken_orders x s
  have hlevel : (slotTaken x s).group.slotLevel = slotLevelOf x := (congrArg (fun g => g.2.2) horders :)
  rw [enterEffective_eq]
  split
  · have hoff := ordersTo_groupOff (slotTaken x s)
    rw [hlevel] at hoff
    exact hoff.after horders
  · exact ordersTo_same horders

/-- The orders after the first two steps of an evaluation (R165). -/
theorem ordersTo_effectiveEntered (eff : Option Slot) (s : State) :
    OrdersTo (if eff ≠ s.schedule.heldEffective ∧ isClosed eff = true then none else s.group.mode)
      (if eff ≠ s.schedule.heldEffective then slotLevelOf eff else s.group.slotLevel) s (effectiveEntered eff s) := by
  have hlock := scheduleLock_orders eff s
  have hmode : (scheduleLock eff s).group.mode = s.group.mode := congrArg Prod.fst hlock
  unfold effectiveEntered
  by_cases henters : eff ≠ s.schedule.heldEffective
  · have hentered := ordersTo_enterEffective eff (scheduleLock eff s)
    rw [hmode] at hentered
    simp only [henters, ne_eq, not_false_eq_true, true_and]
    exact hentered.after hlock
  · simp only [henters, false_and, if_false]
    exact ordersTo_same hlock

/-- The mode after an evaluation (R107, R165). -/
def evaluatedMode (eff on : Option Slot) (s : State) : Option OnCause :=
  if on ≠ s.schedule.heldOn ∧ on.isSome = true then some .schedule
  else if eff ≠ s.schedule.heldEffective ∧ isClosed eff = true ∨
    (on ≠ s.schedule.heldOn ∧ on = none ∧ isClosed eff = false) ∧ s.group.mode = some .schedule then none
  else s.group.mode

/-- The slot level after an evaluation (R107, R109). -/
def evaluatedLevel (eff on : Option Slot) (s : State) : Option Nat :=
  if on ≠ s.schedule.heldOn ∧ on = none ∧ isClosed eff = false then none
  else if eff ≠ s.schedule.heldEffective then slotLevelOf eff else s.group.slotLevel

/-- The orders after an evaluation: with a CLOSED slot effective there is no ON slot, so of what the effective slot ends
the ON slot sets nothing anew (R107, R163, R165). -/
theorem ordersTo_onEntered (hclosed : isClosed eff = true → on = none) (s : State) :
    OrdersTo (evaluatedMode eff on s) (evaluatedLevel eff on s) s (onEntered eff on s) := by
  unfold evaluatedMode evaluatedLevel
  have heffective := ordersTo_effectiveEntered eff s
  unfold onEntered
  cases hc : isClosed eff with
  | true =>
    obtain rfl := hclosed hc
    have hsame : enterOn eff none (effectiveEntered eff s) = effectiveEntered eff s := by simp [enterOn, hc]
    rw [hsame, ite_self]
    simpa [hc] using heffective
  | false =>
    by_cases hchanged : on ≠ s.schedule.heldOn
    · have horders : groupOrders (effectiveEntered eff s).group = (s.group.mode, s.group.levelOverride,
          if eff ≠ s.schedule.heldEffective then slotLevelOf eff else s.group.slotLevel) := by
        obtain ⟨h1, h2, h3, -⟩ := heffective
        simp only [hc, Bool.false_eq_true, and_false, if_false] at h1 h3
        rw [if_neg isSome_not_none] at h3
        unfold groupOrders
        rw [h1, h2, h3]
      have hmode : (effectiveEntered eff s).group.mode = s.group.mode := congrArg Prod.fst horders
      cases on with
      | some x =>
        have hlevel : (effectiveEntered eff s).group.slotLevel = _ := congrArg (fun g => g.2.2) horders
        have hon := (ordersTo_groupOn (effectiveEntered eff s)).after horders
        rw [hlevel] at hon
        simpa [enterOn, hchanged] using hon
      | none =>
        have hleave := (ordersTo_leaveSlot (effectiveEntered eff s)).after horders
        rw [hmode] at hleave
        simpa [enterOn, hc, hchanged] using hleave
    · simpa [hc, hchanged] using heffective

/-! ### The source list (R127) -/

theorem SameSelector.trans {w : State} (h : SameSelector s v) (k : SameSelector v w) : SameSelector s w := by
  obtain ⟨hsource, hlink, hgeometry⟩ := h
  obtain ⟨hsource', hlink', hgeometry'⟩ := k
  exact ⟨by rw [hsource', hsource], hlink'.trans hlink, hgeometry'.trans hgeometry⟩

/-- A push reads nothing of what the operations of lamp, locks and group touch (R124, R130). -/
theorem PushedOnTop.from_outside (h : PushedOnTop i o v u) (ho : outside v = outside s) : PushedOnTop i o s u := by
  have hv : PushedOnTop i o (outside v) u := h
  rw [ho] at hv
  exact hv

theorem outside_enterOn (eff on : Option Slot) (s : State) : outside (enterOn eff on s) = outside s := by
  unfold enterOn leaveSlot
  simp only
  (repeat' split) <;> simp

/-- What the slot entered but for its closing does to the selector (R127). -/
theorem slotTaken_selector (x : Option Slot) (s : State) :
    (∀ i ∈ slotSourceOf x, PushedOnTop i .schedule s (slotTaken x s)) ∧
    (slotSourceOf x = none → SameSelector s (slotTaken x s)) := by
  unfold slotTaken
  cases slotSourceOf x with
  | none => exact ⟨nofun, fun _ => ⟨rfl, rfl, rfl⟩⟩
  | some i =>
    refine ⟨fun j hj => ?_, nofun⟩
    obtain rfl := Option.some.inj hj
    exact (push_pushed i .schedule (s.setGroup { s.group with slotLevel := slotLevelOf x })).from_outside rfl

/-- An evaluation pushes the source of an effective slot newly entered, and does nothing else to the selector
(R127, R165). -/
theorem onEntered_selector (eff on : Option Slot) (s : State) :
    (∀ i ∈ slotSourceOf eff, eff ≠ s.schedule.heldEffective → PushedOnTop i .schedule s (onEntered eff on s)) ∧
    (¬eff ≠ s.schedule.heldEffective ∨ slotSourceOf eff = none → SameSelector s (onEntered eff on s)) := by
  have hlock := outside_scheduleLock eff s
  have hon : SameSelector (effectiveEntered eff s) (onEntered eff on s) := by
    refine sameSelector_of_outside ?_
    unfold onEntered
    split
    · exact outside_enterOn _ _ _
    · rfl
  obtain ⟨hpushed, hsame⟩ := slotTaken_selector eff (scheduleLock eff s)
  have hclosing : SameSelector (slotTaken eff (scheduleLock eff s)) (enterEffective eff (scheduleLock eff s)) := by
    refine sameSelector_of_outside ?_
    rw [enterEffective_eq]
    split
    · exact outside_groupOff _
    · rfl
  by_cases henters : eff ≠ s.schedule.heldEffective
  · have heff : effectiveEntered eff s = enterEffective eff (scheduleLock eff s) := if_pos henters
    rw [heff] at hon
    refine ⟨fun i hi _ => ((hpushed i hi).from_outside hlock).same (hclosing.trans hon), fun h => ?_⟩
    have hnone : slotSourceOf eff = none := h.resolve_left fun hno => hno henters
    exact (sameSelector_of_outside hlock).trans ((hsame hnone).trans (hclosing.trans hon))
  · have heff : effectiveEntered eff s = scheduleLock eff s := if_neg henters
    rw [heff] at hon
    exact ⟨fun i _ h => absurd h henters, fun _ => (sameSelector_of_outside hlock).trans hon⟩

/-! ### An evaluation as a whole, and after the settling -/

theorem onEntered_lockOf (k : LocksForm s.locks) (eff on : Option Slot) :
    (lockOf (onEntered eff on s).locks .schedule).map (fun l => l.scopes) = lockWanted eff := by
  have hlocks : (onEntered eff on s).locks = (scheduleLock eff s).locks := by
    refine congrArg Prod.fst (?_ : lockView _ = lockView _)
    unfold onEntered effectiveEntered
    (repeat' split) <;> simp
  rw [hlocks]
  exact scheduleLock_lockOf k eff

theorem evaluate_clock (s : State) : (evaluate s).clock = s.clock :=
  (congrArg (fun v => v.2.1) (tablesView_onEntered _ _ s) :)

/-- An evaluation holds the slots of the minute, and lock, orders and source list follow (R107, R127, R164, R165). -/
theorem evaluate_evaluated (k : LocksForm s.locks) : Evaluated s.clock.minute s.schedule.slots s (evaluate s) := by
  rw [evaluate_eq]
  set eff := effectiveSlot s.clock.minute s.schedule.slots with heff
  set on := onSlot s.clock.minute s.schedule.slots with hon
  have horders := ordersTo_onEntered (on := on) (fun hclosed => onSlot_closed hclosed) s
  obtain ⟨hpushed, hsame⟩ := onEntered_selector eff on s
  refine ⟨rfl, onEntered_lockOf k eff on, horders.mode, horders.level, ?_, fun hsome hnone => ?_, hpushed, hsame⟩
  · rw [State.setSchedule_group, horders.override, horders.mode]
  · exact horders.selection hsome (horders.mode.symm.trans hnone)

/-- The settling leaves what an evaluation has set. -/
theorem Evaluated.settle (h : Evaluated minute slots s u) (b : State) : Evaluated minute slots s (settle b u) := by
  have horders := settle_orders b u
  simp only [groupOrders, Prod.mk.injEq] at horders
  obtain ⟨hmode, hoverride, hlevel⟩ := horders
  have hselector := settle_sameSelector b u
  obtain ⟨hschedule, hlock, hm, hl, ho, hselection, hpushed, hsame⟩ := h
  refine ⟨(settle_schedule b u).trans hschedule, ?_, hmode.trans hm, hlevel.trans hl, ?_, fun hsome hnone => ?_,
    fun i hi he => (hpushed i hi he).same hselector, fun hn => ?_⟩
  · rw [settle_lockOf (h := .schedule) nofun]; exact hlock
  · rw [hoverride, hmode]; exact ho
  · exact (settle_keeps b u).selection (hselection hsome (hmode.symm.trans hnone))
  · exact SameSelector.trans (hsame hn) hselector

end Sys2Proof.Machine
end

section
/-! ## Seconds, minutes, TIME and slews (09, R154 to R158, R164) -/

namespace Sys2Proof.Machine

variable {s u v : State} {c : Clock} {op : State → State} {t : Telegram} {k minute seconds : Nat} {m1 m0 sec : Byte}

/-! ### Steps that change the clock alone -/

theorem quiet_setClock (s : State) (c : Clock) : Quiet s (s.setClock c) :=
  ⟨rfl, rfl, rfl, rfl, rfl, rfl, rfl, rfl, rfl, rfl, rfl, rfl, rfl, rfl, rfl, rfl, rfl⟩

/-- Of the clock a beacon tells the sure state alone (R80, 5.6). -/
theorem beaconCauses_setClock (h : c.sure.isSome = s.clock.sure.isSome) :
    beaconCauses s = beaconCauses (s.setClock c) := by
  have hflags : ownFlags (s.setClock c) = { ownFlags s with clockSure := c.sure.isSome } := rfl
  have hcauses : beaconCauses (s.setClock c) = { beaconCauses s with flags := ownFlags (s.setClock c) } := rfl
  rw [hcauses, hflags, h]
  rfl

theorem finish_setClock (h : Settled s) (hop : op s = s.setClock c) (hsure : c.sure.isSome = s.clock.sure.isSome) :
    finish op s = .next (s.setClock c) := by
  rw [← hop]
  refine finish_quiet h ?_ ?_
  · rw [hop]; exact quiet_setClock s c
  · rw [hop]; exact beaconCauses_setClock hsure

/-- A step that sets the clock and evaluates ends with the clock and the evaluation (R164, R165). -/
theorem finish_evaluate (k : LocksSafe s) (hop : op s = evaluate (s.setClock c)) :
    ∃ u, finish op s = .next u ∧ u.clock = c ∧ Evaluated c.minute s.schedule.slots s u := by
  have hevaluated : Evaluated c.minute s.schedule.slots s (evaluate (s.setClock c)) :=
    evaluate_evaluated (s := s.setClock c) k.form
  refine ⟨settle s (op s), rfl, ?_, ?_⟩
  · rw [hop, settle_clock, evaluate_clock]; rfl
  · rw [hop]; exact hevaluated.settle s

theorem evaluateIfSure_sure (h : s.clock.sure.isSome = true) : evaluateIfSure s = evaluate s := if_pos h

theorem evaluateIfSure_unsure (h : s.clock.sure = none) : evaluateIfSure s = s := if_neg (by rw [h]; nofun)

/-! ### A second of the clock (R154) -/

/-- The clock at the next minute change (R154). -/
def nextMinute (c : Clock) : Clock := { c with seconds := 0, minute := (c.minute + 1) % 10080 }

theorem advanceSecond_below (h : s.clock.seconds < 59) :
    advanceSecond s = s.setClock { s.clock with seconds := s.clock.seconds + 1 } := if_neg (Nat.not_le.mpr h)

theorem advanceSecond_minute (h : s.clock.seconds = 59) :
    advanceSecond s = evaluateIfSure (s.setClock (nextMinute s.clock)) := if_pos (Nat.le_of_eq h.symm)

theorem secondEnds_inserted (h : 0 < s.clock.inserts) :
    secondEnds s = s.setClock { s.clock with inserts := s.clock.inserts - 1 } := if_pos h

theorem secondEnds_counted (h : s.clock.inserts = 0) : secondEnds s = advanceSecond s := if_neg (by omega)

/-- Settles O50: a second counted or inserted changes the clock alone, and the minute change evaluates while SURE. -/
theorem secondsAndMinutes : Obligations.SecondsAndMinutes := by
  intro s h _ hlocks _
  refine ⟨fun hinserts => finish_setClock h (secondEnds_inserted hinserts) rfl, fun hinserts hbelow => ⟨?_, ?_⟩,
    fun hinserts hlast => ?_⟩
  · exact finish_setClock h ((secondEnds_counted hinserts).trans (advanceSecond_below hbelow)) rfl
  · exact finish_unchanged h (if_neg (Nat.ne_of_lt hbelow))
  · have hends : minuteEnds s = evaluateIfSure (s.setClock (nextMinute s.clock)) :=
      (if_pos hlast).trans ((secondEnds_counted hinserts).trans (advanceSecond_minute hlast))
    refine ⟨congrArg (fun u => Host.Outcome.next (settle s u)) (if_pos hlast), fun hunsure => ?_, fun hsure => ?_⟩
    · exact finish_setClock h (hends.trans (evaluateIfSure_unsure hunsure)) rfl
    · exact finish_evaluate hlocks (hends.trans (evaluateIfSure_sure hsure))

/-! ### A received TIME (R156, R157) -/

/-- A TIME that arrives is taken by the clock, and the step settled (R173). -/
theorem execTime_received (h : Received kindTime t k s) :
    exec (.time (signalsFrom k t)) s = .next (settle (telegramIn s) (takeTime t (telegramIn s))) := by
  obtain ⟨harrives, hkind, -⟩ := id h
  have howner : handTo t (telegramIn s) = takeTime t (telegramIn s) := by
    unfold handTo
    rw [hkind, if_neg (by decide), if_neg (by decide), if_neg (by decide), if_pos rfl]
  change Host.Outcome.next (receive (signalsFrom k t) s) = _
  rw [receive_arrives harrives, deliver_received h (by decide), howner, settle_from_telegramIn]

/-- A TIME of values in range, of another station, that the clock adopts (R156). -/
def timeAdopted (s : State) (origin : Byte) (minute seconds : Nat) : Prop :=
  minute ≤ 10079 ∧ seconds ≤ 59 ∧ origin.toNat ≠ 0 ∧ origin.toNat ≠ s.straps.number ∧ adopts s origin.toNat = true

theorem takeTime_adopted (hb : t.body = [m1, m0, sec]) (h : timeAdopted s t.origin (beNat [m1, m0]) sec.toNat) :
    takeTime t s =
      adopt (beNat [m1, m0]) sec.toNat (s.setClock { s.clock with source := some t.origin.toNat }) := by
  unfold takeTime
  rw [hb]
  exact if_pos h

theorem takeTime_disregarded
    (h : ∀ m1 m0 sec, t.body = [m1, m0, sec] → ¬timeAdopted s t.origin (beNat [m1, m0]) sec.toNat) :
    takeTime t s = s := by
  unfold takeTime
  split
  · next m1 m0 sec hb => exact if_neg (h m1 m0 sec hb)
  · rfl

/-- A TIME that is not adopted changes the receiver alone. -/
theorem execTime_disregarded (hs : Settled s) (hr : Received kindTime t k s)
    (h : ∀ m1 m0 sec, t.body = [m1, m0, sec] → ¬timeAdopted s t.origin (beNat [m1, m0]) sec.toNat) :
    exec (.time (signalsFrom k t)) s = .next (telegramIn s) := by
  rw [execTime_received hr, takeTime_disregarded (s := telegramIn s) h, settle_disregarded hs]

/-- Of one body the values are those of its bytes, so a TIME of these values is not adopted. -/
theorem execTime_refused (hs : Settled s) (hr : Received kindTime t k s) (hb : t.body = [m1, m0, sec])
    (h : ¬timeAdopted s t.origin (beNat [m1, m0]) sec.toNat) :
    exec (.time (signalsFrom k t)) s = .next (telegramIn s) := by
  refine execTime_disregarded hs hr fun a b x hx => ?_
  obtain ⟨rfl, rfl, rfl, -⟩ : m1 = a ∧ m0 = b ∧ sec = x ∧ True := by simpa using hb.symm.trans hx
  exact h

theorem adopt_steps (h : s.clock.sure = none ∨ clockDifference minute seconds s.clock < -120 ∨
    120 < clockDifference minute seconds s.clock) : adopt minute seconds s = stepClock minute seconds s := by
  unfold adopt
  simp only
  split
  · rfl
  · next hsure =>
    exact if_pos (h.resolve_left fun hnone => hsure (by rw [hnone]; rfl))

theorem adopt_slews (hsure : s.clock.sure.isSome = true) (hlow : -120 ≤ clockDifference minute seconds s.clock)
    (hhigh : clockDifference minute seconds s.clock ≤ 120) : adopt minute seconds s = s.setClock
      { s.clock with
        slewLeft := clockDifference minute seconds s.clock
        slew := if clockDifference minute seconds s.clock = 0 then none else some 10000
        inserts := 0, sure := some sureLength } := by
  unfold adopt
  simp only
  rw [if_neg (by rw [Option.isNone_iff_eq_none]; intro hnone; rw [hnone] at hsure; cases hsure), if_neg (by omega)]

/-- A TIME adopted by a step sets the clock, makes it SURE, and evaluates the schedule (R157, R164). -/
theorem execTime_steps (hlocks : LocksSafe s) (hr : Received kindTime t k s) (hb : t.body = [m1, m0, sec])
    (ha : timeAdopted s t.origin (beNat [m1, m0]) sec.toNat)
    (hd : s.clock.sure = none ∨ clockDifference (beNat [m1, m0]) sec.toNat s.clock < -120 ∨
      120 < clockDifference (beNat [m1, m0]) sec.toNat s.clock) :
    ∃ u, exec (.time (signalsFrom k t)) s = .next u ∧
      u.clock = ⟨beNat [m1, m0], sec.toNat, some 21600000, some t.origin.toNat, 0, none, 0⟩ ∧
      Evaluated (beNat [m1, m0]) s.schedule.slots s u := by
  have htaken : takeTime t (telegramIn s) = evaluate ((telegramIn s).setClock
      ⟨beNat [m1, m0], sec.toNat, some 21600000, some t.origin.toNat, 0, none, 0⟩) := by
    rw [takeTime_adopted (s := telegramIn s) hb ha]
    exact adopt_steps (s := (telegramIn s).setClock { s.clock with source := some t.origin.toNat }) hd
  obtain ⟨u, hu, hclock, hevaluated⟩ := finish_evaluate (s := telegramIn s) (op := takeTime t) hlocks htaken
  exact ⟨u, (execTime_received hr).trans hu, hclock, hevaluated⟩

/-- A TIME adopted by a slew changes the clock alone, which stays SURE (R157, R158). -/
theorem execTime_slews (hs : Settled s) (hr : Received kindTime t k s) (hb : t.body = [m1, m0, sec])
    (ha : timeAdopted s t.origin (beNat [m1, m0]) sec.toNat) (hsure : s.clock.sure.isSome = true)
    (hlow : -120 ≤ clockDifference (beNat [m1, m0]) sec.toNat s.clock)
    (hhigh : clockDifference (beNat [m1, m0]) sec.toNat s.clock ≤ 120) :
    exec (.time (signalsFrom k t)) s = .next ((telegramIn s).setClock
      { s.clock with
        source := some t.origin.toNat, slewLeft := clockDifference (beNat [m1, m0]) sec.toNat s.clock
        slew := if clockDifference (beNat [m1, m0]) sec.toNat s.clock = 0 then none else some 10000
        inserts := 0, sure := some 21600000 }) := by
  refine (execTime_received hr).trans (finish_setClock (op := takeTime t) (telegramIn_settled hs) ?_ hsure.symm)
  rw [takeTime_adopted (s := telegramIn s) hb ha]
  exact adopt_slews (s := (telegramIn s).setClock { s.clock with source := some t.origin.toNat }) hsure hlow hhigh

/-- The difference is taken the shorter way round the week (R157). -/
theorem clockDifference_range (minute seconds : Nat) (c : Clock) :
    -302400 ≤ clockDifference minute seconds c ∧ clockDifference minute seconds c < 302400 ∧
    (clockDifference minute seconds c -
      ((60 * minute + seconds : Nat) - (60 * c.minute + c.seconds : Nat) : Int)) % 604800 = 0 := by
  unfold clockDifference
  dsimp only
  omega

/-! ### The sure and the slew timer (R155, R158) -/

/-- The clock less what a slew step takes of what is left (R158). -/
def slewed (left : Int) (c : Clock) : Clock :=
  { c with slewLeft := left, slew := if left = 0 then none else some 10000 }

theorem slewOnce_ahead (ht : s.clock.slew.isSome = true) (h : s.clock.slewLeft < 0) : slewOnce s =
    s.setClock { slewed (s.clock.slewLeft + 1) s.clock with inserts := s.clock.inserts + 1 } := by
  unfold slewOnce
  rw [if_pos ht, if_neg (by omega), if_pos h]
  rfl

theorem slewOnce_behind (ht : s.clock.slew.isSome = true) (h : 0 < s.clock.slewLeft) :
    slewOnce s = advanceSecond (s.setClock (slewed (s.clock.slewLeft - 1) s.clock)) := by
  unfold slewOnce
  rw [if_pos ht, if_pos h]
  rfl

/-- The slew timer stops at nothing left, which is at the last second of what was left before (R158). -/
theorem slewed_eq (left rest d : Int) (h : rest = 0 ↔ left = d) (c : Clock) :
    slewed rest c = { c with slewLeft := rest, slew := if left = d then none else some 10000 } := by
  unfold slewed
  simp only [h]

/-- Settles O51: a TIME is disregarded, steps the clock or slews it; the two timers by the cases of what is left. -/
theorem timesAreAdoptedAndSlewed : Obligations.TimesAreAdoptedAndSlewed := by
  intro s t k m1 m0 sec hs
  have hahead := slewed_eq s.clock.slewLeft (s.clock.slewLeft + 1) (-1) (by omega) s.clock
  have hbehind := slewed_eq s.clock.slewLeft (s.clock.slewLeft - 1) 1 (by omega) s.clock
  refine ⟨fun hr hform => ?_, fun hr hb hrange => ?_, fun _ hr hb hm hsec hzero hown => ?_, fun hsure => ?_,
    fun hunsure => ?_, fun ht hleft => ?_, fun ht hleft hbelow => ?_, fun ht hleft hlast => ?_, fun ht => ?_⟩
  · refine execTime_disregarded hs hr fun a b x hx => ?_
    rintro ⟨-, -, hzero, hown, -⟩
    rcases hform with hlength | horigin | horigin
    · rw [hx] at hlength; exact hlength rfl
    · rw [horigin] at hzero; exact hzero rfl
    · exact hown horigin
  · refine execTime_refused hs hr hb ?_
    rintro ⟨hminute, hseconds, -⟩
    omega
  · have hnonzero : t.origin.toNat ≠ 0 := fun h => hzero (BitVec.eq_of_toNat_eq h)
    refine ⟨fun hadopts => ?_, fun hadopts => ?_, clockDifference_range _ _ _⟩
    · have ha : timeAdopted s t.origin (beNat [m1, m0]) sec.toNat := ⟨hm, hsec, hnonzero, hown, hadopts⟩
      exact ⟨fun hd hlocks _ => execTime_steps hlocks hr hb ha hd, fun hsure => execTime_slews hs hr hb ha hsure⟩
    · refine execTime_refused hs hr hb ?_
      rintro ⟨-, -, -, -, ha⟩
      rw [hadopts] at ha
      cases ha
  · change finish sureExpired s = _
    unfold finish
    rw [show sureExpired s = s.setClock { s.clock with sure := none, slewLeft := 0, slew := none } from if_pos hsure,
      settle_quiet hs (quiet_setClock s _)]
  · exact finish_unchanged hs (if_neg (by rw [hunsure]; nofun))
  · exact finish_setClock hs ((slewOnce_ahead ht hleft).trans (by rw [hahead])) rfl
  · refine finish_setClock hs ((slewOnce_behind ht hleft).trans ((advanceSecond_below ?_).trans ?_)) rfl
    · exact hbelow
    · rw [hbehind]; rfl
  · have hminute : slewOnce s = evaluateIfSure (s.setClock (nextMinute (slewed (s.clock.slewLeft - 1) s.clock))) :=
      (slewOnce_behind ht hleft).trans (advanceSecond_minute hlast)
    rw [hbehind] at hminute
    refine ⟨fun hunsure => ?_, fun hsure hlocks _ => ?_⟩
    · exact finish_setClock hs (hminute.trans (evaluateIfSure_unsure hunsure)) rfl
    · exact finish_evaluate hlocks (hminute.trans (evaluateIfSure_sure hsure))
  · exact finish_unchanged hs (if_neg (by rw [ht]; nofun))

end Sys2Proof.Machine
end

section
/-! ## SLOT_PUT and SLOT_DROP (09, R161 to R165) -/

namespace Sys2Proof.Machine

variable {s : State} {t : Telegram} {rest : List Telegram} {r : Result} {xs : List Slot} {kind : Byte} {owner : Owner}

/-! ### A slot table set by a request -/

/-- A table that is as it was, or that is set while UNSURE, is all that changes (R161, R164). -/
theorem setSlots_alone (h : s.clock.sure = none ∨ xs = s.schedule.slots) :
    setSlots xs s = s.setSchedule { s.schedule with slots := xs } := by
  unfold setSlots
  split
  · next e => rw [e]; rfl
  · next hne => exact evaluateIfSure_unsure (h.resolve_right hne)

theorem setSlots_evaluated (hsure : s.clock.sure.isSome = true) (h : xs ≠ s.schedule.slots) :
    setSlots xs s = evaluate (s.setSchedule { s.schedule with slots := xs }) :=
  (if_neg h).trans (evaluateIfSure_sure hsure)

theorem replied_setSchedule (d : Bool) (x : Schedule) :
    replied d t r (s.setSchedule x) = (replied d t r s).setSchedule x := by
  unfold replied; cases d <;> rfl

/-- A request by which the slot table alone changes (R161, R162). -/
theorem finish_slots_alone (h : Settled s) (ha : AtHead kind t rest s)
    (ho : owner t (takeHead t rest s) = (setSlots xs (takeHead t rest s), some r))
    (halone : s.clock.sure = none ∨ xs = s.schedule.slots) :
    finish (dispatch (ofKind kind) owner) s =
      .next (beaconJudge s ((answered t rest r s).setSchedule { s.schedule with slots := xs })) := by
  have hquiet : Quiet s ((answered t rest r s).setSchedule { s.schedule with slots := xs }) := answered_quiet t rest r s
  rw [finish_replied ha ho, setSlots_alone (s := takeHead t rest s) halone, replied_setSchedule, ← answered_eq]
  exact congrArg _ (settle_quiet h hquiet)

/-- A request by which the slot table changes while SURE is evaluated at once (R164, R165). -/
theorem finish_slots_evaluated (hlocks : LocksSafe s) (ha : AtHead kind t rest s)
    (ho : owner t (takeHead t rest s) = (setSlots xs (takeHead t rest s), some r)) (hsure : s.clock.sure.isSome = true)
    (hchanged : xs ≠ s.schedule.slots) :
    ∃ u, finish (dispatch (ofKind kind) owner) s = .next u ∧ Evaluated s.clock.minute xs s u ∧ answerQueued t r s u ∧
      u.clock = s.clock := by
  set v := (takeHead t rest s).setSchedule { s.schedule with slots := xs } with hv
  rw [setSlots_evaluated (s := takeHead t rest s) hsure hchanged] at ho
  have hevaluated : Evaluated s.clock.minute xs s (evaluate v) := evaluate_evaluated (s := v) hlocks.form
  have hreplied : Evaluated s.clock.minute xs s (replied (directed s t) t r (evaluate v)) := by
    rw [replied_eq]; exact hevaluated
  refine ⟨_, finish_replied ha ho, hreplied.settle s, answerQueued_settle t r s s _, ?_⟩
  rw [settle_clock, replied_eq]
  exact evaluate_clock v

/-! ### The two requests -/

/-- The table and the code of a SLOT_PUT (R161, steps 3 to 6): a new slot needs a place, one of a stored id
takes that one's. -/
theorem putSlot_eq (group : Nat) (x : Slot) (xs : List Slot) : putSlot group x xs =
    if x.groups.getLsbD group = false then (withoutSlot x.id xs, .noEntry)
    else if (xs.any fun z => z.id == x.id) = true ∨ xs.length < 64 then (insertSlot x (withoutSlot x.id xs), .taken)
    else (xs, .full) := by
  unfold putSlot
  cases x.groups.getLsbD group with
  | false => rfl
  | true =>
    by_cases hstored : (xs.any fun z => z.id == x.id) = true
    · simp [hstored]
    · rw [withoutSlot_absent hstored]
      by_cases hfull : 64 ≤ xs.length
      · simp [hstored, hfull]
      · simp [hstored, hfull, Nat.lt_of_not_le hfull]

/-- A stored slot dropped changes the table (R162). -/
theorem withoutSlot_ne {id : Nat} (h : (xs.any fun z => z.id == id) = true) : withoutSlot id xs ≠ xs := by
  intro e
  have hlength := withoutSlot_length h
  rw [e] at hlength
  exact lt_irrefl _ hlength

theorem ownSlotPut_formed {x : Slot} (h : slotOf t.body = some x) (s : State) :
    ownSlotPut t s =
      (setSlots (putSlot s.settings.group (slotInRange x) s.schedule.slots).1 s,
        some ⟨(putSlot s.settings.group (slotInRange x) s.schedule.slots).2,
          (putSlot s.settings.group (slotInRange x) s.schedule.slots).2 == .taken && slotInRange x != x, []⟩) := by
  unfold ownSlotPut
  rw [h]

theorem ownSlotDrop_named {id : Byte} (hb : t.body = [id]) (hid : id ≠ 0) (s : State) : ownSlotDrop t s =
    if s.schedule.slots.any fun x => x.id == id.toNat then
      (setSlots (withoutSlot id.toNat s.schedule.slots) s, some (.of .taken))
    else (s, some (.of .noEntry)) := by
  unfold ownSlotDrop
  rw [hb]
  exact if_neg hid

/-- Settles O21: both requests set the slot table, alone or with an evaluation of it. -/
theorem slotsAreStored : Obligations.SlotsAreStored := by
  intro s t rest x id h hlocks _
  refine ⟨fun ha hx => ?_, fun ha hb hid => ⟨fun hstored => ?_, fun hmissing => ?_⟩⟩
  · have howner := ownSlotPut_formed hx (takeHead t rest s)
    rw [putSlot_eq] at howner
    exact ⟨finish_slots_alone h ha howner, finish_slots_evaluated hlocks ha howner⟩
  · have howner := (ownSlotDrop_named hb hid (takeHead t rest s)).trans (if_pos hstored)
    exact ⟨fun hunsure => finish_slots_alone h ha howner (.inl hunsure),
      fun hsure => finish_slots_evaluated hlocks ha howner hsure (withoutSlot_ne hstored)⟩
  · have howner := (ownSlotDrop_named hb hid (takeHead t rest s)).trans (if_neg (Bool.eq_false_iff.mp hmissing))
    exact finish_answered h ha (ofKind_atHead ha) howner

end Sys2Proof.Machine
end

section
/-! ## The telegram chosen and the telegram being sent (10, R170, R171) -/

namespace Sys2Proof.Machine

variable {s : State} {before after q : List QueueEntry} {e : QueueEntry} {choose : QueueEntry → Bool}

/-! ### The first of a class (R171) -/

theorem splitAt_none : splitAt choose q = none ↔ ∀ x ∈ q, choose x = false := by
  induction q with
  | nil => exact iff_of_true rfl nofun
  | cons y rest ih =>
    unfold splitAt
    rw [List.forall_mem_cons, ← ih]
    cases hy : choose y with
    | true => exact iff_of_false nofun fun h => nomatch h.1
    | false => cases splitAt choose rest <;> simp

/-- The entry chosen is the first of its class. -/
theorem splitAt_some (h : splitAt choose q = some (before, e, after)) :
    q = before ++ e :: after ∧ choose e = true ∧ ∀ x ∈ before, choose x = false := by
  induction q generalizing before with
  | nil => cases h
  | cons y rest ih =>
    unfold splitAt at h
    cases hy : choose y with
    | true =>
      rw [if_pos hy] at h
      cases h
      exact ⟨rfl, hy, nofun⟩
    | false =>
      rw [if_neg (by rw [hy]; nofun)] at h
      cases hrest : splitAt choose rest with
      | none => rw [hrest] at h; cases h
      | some r =>
        obtain ⟨xs, z, zs⟩ := r
        rw [hrest] at h
        cases h
        obtain ⟨hq, he, hbefore⟩ := ih hrest
        exact ⟨by rw [hq]; rfl, he, List.forall_mem_cons.mpr ⟨hy, hbefore⟩⟩

/-- The telegram chosen is eligible, the first of its class, and of the coordination class if that has one (R171). -/
structure ChosenFirst (s : State) (before : List QueueEntry) (e : QueueEntry) (after : List QueueEntry) : Prop where
  queue : s.line.queue = before ++ e :: after
  eligible : eligible s e = true
  first : ∀ x ∈ before, Machine.eligible s x = true → isCoordination x.payload = false ∧ isCoordination e.payload = true
  coordination : ∀ x ∈ s.line.queue, isCoordination x.payload = true → Machine.eligible s x = true →
    isCoordination e.payload = true

theorem chosen_first (h : chosen s = some (before, e, after)) : ChosenFirst s before e after := by
  unfold chosen at h
  split at h
  · next r hr =>
    cases h
    obtain ⟨hq, he, hbefore⟩ := splitAt_some hr
    obtain ⟨hcoordination, heligible⟩ := Bool.and_eq_true_iff.mp he
    refine ⟨hq, heligible, fun x hx hel => ⟨?_, hcoordination⟩, fun _ _ _ _ => hcoordination⟩
    simpa [hel] using hbefore x hx
  · next hnone =>
    obtain ⟨hq, he, hbefore⟩ := splitAt_some h
    obtain ⟨-, heligible⟩ := Bool.and_eq_true_iff.mp he
    have hno (x : QueueEntry) (hx : x ∈ s.line.queue) (hel : Machine.eligible s x = true) :
        isCoordination x.payload = false := by simpa [hel] using splitAt_none.mp hnone x hx
    refine ⟨hq, heligible, fun x hx hel => ?_, fun x hx hc hel => absurd (hc.symm.trans (hno x hx hel)) nofun⟩
    have hother : isCoordination x.payload = true := by simpa [hel] using hbefore x hx
    have hmem : x ∈ s.line.queue := by rw [hq]; exact List.mem_append_left _ hx
    exact absurd (hother.symm.trans (hno x hmem hel)) nofun

/-! ### The telegram being sent (R170) -/

theorem inSending_some (h : inSending q = some e) : e ∈ q ∧ e.sending = true :=
  ⟨List.mem_of_find?_eq_some h, List.find?_some (p := fun e : QueueEntry => e.sending) h⟩

theorem inSending_none (h : inSending q = none) : (q.any fun e => e.sending) = false := by
  simpa [inSending] using h

theorem mem_notSending : e ∈ notSending q ↔ e ∈ q ∧ e.sending = false := by simp [notSending]

end Sys2Proof.Machine
end

section
/-! ## The form of the request and send queues (10, R170, R171, R174, R175) -/

namespace Sys2Proof.Machine

variable {s u : State} {n number reserved : Nat} {q : List QueueEntry} {requests : List Telegram} {live : Bool}
  {p : Payload}

/-! ### The two queues, and the part of a state that their form reads -/

/-- The request queue, BUSY and the entry reserved for the head (R174, R175); `n` entries are reserved besides, for the
ANSWER to a request being carried out (R176). -/
structure RequestsForm (n number : Nat) (requests : List Telegram) (busy : Bool) (reserved : Nat)
    (headReserved : Bool) : Prop where
  fill : requests.length ≤ 8
  set : 6 ≤ requests.length → busy = true
  clear : requests.length ≤ 2 → busy = false
  kinds : ∀ t ∈ requests, requestKinds.contains t.kind = true ∧ t.origin.toNat ≤ 31
  reserved : reserved = n + if headReserved = true then 1 else 0
  head : headReserved = true → (requests.head?.any fun t => t.dest == destStation number) = true

/-- The send queue (R170, R171): `live` says whether one of its telegrams is being sent. -/
structure SendForm (q : List QueueEntry) (reserved : Nat) (live : Bool) : Prop where
  beacons : (q.filter fun e => isBeacon e.payload).length ≤ 1
  others : othersFilled q + reserved ≤ 7
  one : (q.filter fun e => e.sending).length ≤ 1
  sending : (q.any fun e => e.sending) = live
  attempts : ∀ e ∈ q, e.attempts ≤ 16 ∧ (e.sending = false → e.attempts ≤ 15)

/-- An attempt runs that is not orphaned (R170, R178). -/
def attemptLive (l : HallLine) : Bool := l.attempt.any fun a => !a.orphan

/-- What every operation of a step keeps of the two queues, `n` entries being reserved for a request that is carried
out. -/
def LineForm (n : Nat) (s : State) : Prop :=
  RequestsForm n s.straps.number s.line.requests s.line.busy s.line.reserved s.line.headReserved ∧
    SendForm s.line.queue s.line.reserved (attemptLive s.line)

theorem lineForm_iff : LineForm 0 s ↔ RequestsSafe s ∧ SendQueueSafe s.line := by
  have hlive : ((s.line.queue.any fun e => e.sending) = true ↔ (s.line.attempt.any fun a => !a.orphan) = true) ↔
      (s.line.queue.any fun e => e.sending) = attemptLive s.line := Bool.eq_iff_iff.symm
  constructor
  · rintro ⟨⟨h1, h2, h3, h4, h5, h6⟩, ⟨k1, k2, k3, k4, k5⟩⟩
    exact ⟨⟨h1, h2, h3, h4, by rw [h5, Nat.zero_add], h6⟩, k1, k2, k3, hlive.mpr k4, k5⟩
  · rintro ⟨⟨h1, h2, h3, h4, h5, h6⟩, k1, k2, k3, k4, k5⟩
    exact ⟨⟨h1, h2, h3, h4, by rw [h5, Nat.zero_add], h6⟩, ⟨k1, k2, k3, hlive.mp k4, k5⟩⟩

theorem Safe.lineForm (h : Safe s) : LineForm 0 s := by
  obtain ⟨-, -, -, -, -, -, -, -, -, -, hrequests, hqueue, -⟩ := h
  exact lineForm_iff.mpr ⟨hrequests, hqueue⟩

/-- The own number, and the hall line. -/
def lineView (s : State) : Nat × HallLine := (s.straps.number, s.line)

theorem LineForm.of_view (k : LineForm n s) (h : lineView u = lineView s) : LineForm n u := by
  obtain ⟨hnumber, hline⟩ := Prod.mk.inj h
  unfold LineForm
  rw [hnumber, hline]
  exact k

/-! ### The send queue: a telegram comes in, CLAIMs are withdrawn (R5, R171) -/

theorem SendForm.append (k : SendForm q reserved live)
    (hb : isBeacon p = true → (q.any fun e => isBeacon e.payload) = false)
    (hf : isBeacon p = false → othersFilled q + reserved < 7) : SendForm (q ++ [newEntry p]) reserved live := by
  refine ⟨?_, ?_, ?_, ?_, ?_⟩
  · cases hp : isBeacon p with
    | true =>
      have hnone : (q.filter fun e => isBeacon e.payload) = [] := by
        simpa [List.filter_eq_nil_iff] using hb hp
      simp [hnone, newEntry, hp]
    | false => simpa [newEntry, hp] using k.beacons
  · have hothers := k.others
    cases hp : isBeacon p with
    | true => simpa [othersFilled, newEntry, hp] using hothers
    | false =>
      have hfree := hf hp
      simp only [othersFilled, List.filter_append, List.length_append] at hfree ⊢
      simp only [newEntry, hp, Bool.not_false, List.filter_cons_of_pos, List.filter_nil, List.length_singleton]
      omega
  · simpa [newEntry] using k.one
  · simpa [newEntry] using k.sending
  · simp only [List.forall_mem_append, List.forall_mem_singleton]
    exact ⟨k.attempts, Nat.zero_le _, fun _ => Nat.zero_le _⟩

theorem SendForm.handOver {l : HallLine} (k : SendForm l.queue l.reserved live) (hp : isBeacon p = false) :
    SendForm (handOver p l).queue l.reserved live := by
  rw [handOver_queue]
  split
  · next hfree => exact k.append (fun h => absurd (hp.symm.trans h) nofun) fun _ => of_decide_eq_true hfree
  · exact k

theorem SendForm.beaconDue {l : HallLine} (k : SendForm l.queue l.reserved live) :
    SendForm (beaconDue l).queue l.reserved live := by
  unfold Machine.beaconDue
  split
  · split <;> exact k
  · next hnone => exact k.append (fun _ => Bool.eq_false_iff.mpr hnone) nofun

/-- An entry that stays at the withdrawal of own CLAIMs: a CLAIM that is being sent is marked (R5). -/
def withdrawn (e : QueueEntry) : QueueEntry := if e.payload == .claim then { e with withdrawn := true } else e

theorem withdrawn_sending (e : QueueEntry) : (withdrawn e).sending = e.sending := by unfold withdrawn; split <;> rfl

theorem withdrawn_attempts (e : QueueEntry) : (withdrawn e).attempts = e.attempts := by unfold withdrawn; split <;> rfl

theorem withdrawClaims_queue (l : HallLine) : (withdrawClaims l).queue =
    (l.queue.filter fun e => !(e.payload == .claim && !e.sending)).map withdrawn := rfl

/-- Own CLAIMs that wait are taken out, and one being sent is marked: the rest of the queue stands (R5). -/
theorem SendForm.withdrawClaims {l : HallLine} (k : SendForm l.queue l.reserved live) :
    SendForm (withdrawClaims l).queue l.reserved live := by
  refine ⟨?_, ?_, ?_, ?_, ?_⟩
  · rw [withdrawClaims_beacons]; exact k.beacons
  · exact (Nat.add_le_add_right withdrawClaims_others _).trans k.others
  · have hcomp : (fun e => e.sending) ∘ withdrawn = fun e => e.sending := funext withdrawn_sending
    rw [withdrawClaims_queue, List.filter_map, List.length_map, hcomp]
    exact (List.filter_sublist.filter _).length_le.trans k.one
  · rw [← k.sending, withdrawClaims_queue, List.any_map, List.any_filter]
    congr 1
    funext e
    simp only [Function.comp, withdrawn_sending]
    cases e.sending <;> simp
  · rw [withdrawClaims_queue, List.forall_mem_map]
    intro e he
    rw [withdrawn_attempts, withdrawn_sending]
    exact k.attempts e (List.mem_of_mem_filter he)

/-! ### The same of a state -/

/-- What changes the queue and the mark "due again" alone keeps the form of the requests. -/
theorem LineForm.setQueue (k : LineForm n s) (d : Bool) (hq : SendForm q s.line.reserved (attemptLive s.line)) :
    LineForm n (s.setLine { s.line with queue := q, dueAgain := d }) := ⟨k.1, hq⟩

theorem LineForm.send (k : LineForm n s) (hp : isBeacon p = false) : LineForm n (send p s) := by
  unfold Machine.send
  rw [handOver_eq]
  exact k.setQueue _ (k.2.handOver hp)

theorem LineForm.beaconDue (k : LineForm n s) : LineForm n (s.setLine (beaconDue s.line)) := by
  rw [beaconDue_eq]
  exact k.setQueue _ k.2.beaconDue

theorem LineForm.releaseClaim (k : LineForm n s) : LineForm n (releaseClaim s) := by
  unfold Machine.releaseClaim
  simp only
  rw [handOver_eq]
  exact k.setQueue _ (k.2.withdrawClaims.handOver (l := withdrawClaims s.line) rfl)

end Sys2Proof.Machine
end

section
/-! ## The operations of lamp, group, locks and selector keep the form of the queues (01 to 08, R171) -/

namespace Sys2Proof.Machine

variable {s u : State} {n : Nat}

/-! ### What touches nothing of the line -/

@[simp] theorem lineView_setStart (s : State) (x : StartUp) : lineView (s.setStart x) = lineView s := rfl
@[simp] theorem lineView_setSettings (s : State) (x : Settings) : lineView (s.setSettings x) = lineView s := rfl
@[simp] theorem lineView_setPins (s : State) (x : Pins) : lineView (s.setPins x) = lineView s := rfl
@[simp] theorem lineView_setLamp (s : State) (x : Lamp) : lineView (s.setLamp x) = lineView s := rfl
@[simp] theorem lineView_setWear (s : State) (x : Wear) : lineView (s.setWear x) = lineView s := rfl
@[simp] theorem lineView_setGeometry (s : State) (x : Geometry) : lineView (s.setGeometry x) = lineView s := rfl
@[simp] theorem lineView_setPeers (s : State) (x : List Peer) : lineView (s.setPeers x) = lineView s := rfl
@[simp] theorem lineView_setListen (s : State) (x : Listen) : lineView (s.setListen x) = lineView s := rfl
@[simp] theorem lineView_setClaims (s : State) (x : List ClaimEntry) : lineView (s.setClaims x) = lineView s := rfl
@[simp] theorem lineView_setGroup (s : State) (x : Group) : lineView (s.setGroup x) = lineView s := rfl
@[simp] theorem lineView_setSource (s : State) (x : Source) : lineView (s.setSource x) = lineView s := rfl
@[simp] theorem lineView_setClock (s : State) (x : Clock) : lineView (s.setClock x) = lineView s := rfl
@[simp] theorem lineView_setSchedule (s : State) (x : Schedule) : lineView (s.setSchedule x) = lineView s := rfl
@[simp] theorem lineView_setSerial (s : State) (x : List Host.Cell) : lineView (s.setSerial x) = lineView s := rfl
@[simp] theorem lineView_setScalerLink (s : State) (x : List ScalerMessage) :
    lineView (s.setScalerLink x) = lineView s := rfl
@[simp] theorem lineView_setRelight (b : Bool) (s : State) : lineView (setRelight b s) = lineView s := rfl

/-! Lamp Control (01), Lamp Wear (02). -/

@[simp] theorem lineView_requestWrite (s : State) : lineView (requestWrite s) = lineView s := by
  rw [requestWrite_eq]; rfl
@[simp] theorem lineView_warmUpExpired (s : State) : lineView (warmUpExpired s) = lineView s := by
  unfold warmUpExpired; split <;> simp
@[simp] theorem lineView_rampOnce (s : State) : lineView (rampOnce s) = lineView s := by
  unfold rampOnce; split <;> simp
@[simp] theorem lineView_coolDownExpired (s : State) : lineView (coolDownExpired s) = lineView s := by
  unfold coolDownExpired; simp only; (repeat' split) <;> simp
@[simp] theorem lineView_reportLitSecond (s : State) : lineView (reportLitSecond s) = lineView s := by
  unfold reportLitSecond; simp only; (repeat' split) <;> simp
@[simp] theorem lineView_startWrite (s : State) : lineView (startWrite s) = lineView s := by
  unfold startWrite; split <;> simp
@[simp] theorem lineView_writeEnds (o : WriteOutcome) (s : State) : lineView (writeEnds o s) = lineView s := by
  unfold writeEnds; simp only; split <;> simp
@[simp] theorem lineView_writeFails (w : RecordWrite) (s : State) : lineView (writeFails w s) = lineView s := by
  unfold writeFails; split <;> simp
@[simp] theorem lineView_zoneHolds (bytes : List Byte) (s : State) : lineView (zoneHolds bytes s) = lineView s := by
  unfold zoneHolds; split <;> simp
@[simp] theorem lineView_readBackTaken (bytes : List Byte) (s : State) :
    lineView (readBackTaken bytes s) = lineView s := by
  unfold readBackTaken; simp only; (repeat' split) <;> simp
@[simp] theorem lineView_writeTimesOut (bytes : List Byte) (s : State) :
    lineView (writeTimesOut bytes s) = lineView s := by
  unfold writeTimesOut; split <;> simp

/-! Geometry Engine (03). -/

@[simp] theorem lineView_linkProgress (s : State) : lineView (linkProgress s) = lineView s := by
  unfold linkProgress sendRecords; split <;> rfl
@[simp] theorem lineView_sendSwapRequest (s : State) : lineView (sendSwapRequest s) = lineView s := by
  unfold sendSwapRequest; split <;> rfl
@[simp] theorem lineView_computationEnds (s : State) : lineView (computationEnds s) = lineView s := by
  unfold computationEnds; split <;> rfl
@[simp] theorem lineView_lastRecordSent (s : State) : lineView (lastRecordSent s) = lineView s := by
  unfold lastRecordSent; split <;> rfl
@[simp] theorem lineView_takeAcknowledgement (i k : Nat) (s : State) :
    lineView (takeAcknowledgement i k s) = lineView s := by
  unfold takeAcknowledgement; split <;> simp
@[simp] theorem lineView_attemptFails (s : State) : lineView (attemptFails s) = lineView s := by
  unfold attemptFails; simp only; split <;> simp
@[simp] theorem lineView_takeRefusal (i k : Nat) (s : State) : lineView (takeRefusal i k s) = lineView s := by
  unfold takeRefusal; split <;> simp
@[simp] theorem lineView_loadWaitExpired (s : State) : lineView (loadWaitExpired s) = lineView s := by
  unfold loadWaitExpired; split <;> simp
@[simp] theorem lineView_takeSwapReport (i : Nat) (s : State) : lineView (takeSwapReport i s) = lineView s := by
  unfold takeSwapReport; simp only; (repeat' split) <;> simp
@[simp] theorem lineView_repeatSwapRequest (s : State) : lineView (repeatSwapRequest s) = lineView s := by
  unfold repeatSwapRequest; split <;> simp
@[simp] theorem lineView_swapWaitEnds (s : State) : lineView (swapWaitEnds s) = lineView s := by
  unfold swapWaitEnds; split <;> simp
@[simp] theorem lineView_pressKeystone (k : Int) (s : State) : lineView (pressKeystone k s) = lineView s := by
  unfold pressKeystone; split <;> rfl

/-! Source Selection (07), Power Circuits (05), the clock (09), pass two (11). -/

@[simp] theorem lineView_sendSelect (i : Option Input) (o : Option Origin) (s : State) :
    lineView (sendSelect i o s) = lineView s := by
  unfold sendSelect tellScaler; simp
@[simp] theorem lineView_beginSwitch (i : Option Input) (s : State) : lineView (beginSwitch i s) = lineView s := by
  unfold beginSwitch; simp
@[simp] theorem lineView_judgeWith (i : Option Input) (s : State) : lineView (judgeWith i s) = lineView s := by
  unfold judgeWith; (repeat' split) <;> simp
@[simp] theorem lineView_judgeSource (s : State) : lineView (judgeSource s) = lineView s := by
  unfold judgeSource; split <;> simp
@[simp] theorem lineView_push (i : Input) (o : Origin) (s : State) : lineView (push i o s) = lineView s := by
  unfold push; simp only; (repeat' split) <;> simp
@[simp] theorem lineView_startSelector (s : State) : lineView (startSelector s) = lineView s := by
  unfold startSelector; split <;> simp
@[simp] theorem lineView_takeLockReport (i : Input) (s : State) : lineView (takeLockReport i s) = lineView s := by
  unfold takeLockReport endSwitch; split <;> simp
@[simp] theorem lineView_switchExpired (s : State) : lineView (switchExpired s) = lineView s := by
  unfold switchExpired endSwitch; split <;> simp
@[simp] theorem lineView_holdExpired (s : State) : lineView (holdExpired s) = lineView s := by
  unfold holdExpired; split <;> simp
@[simp] theorem lineView_claimAged (k : Nat) (s : State) : lineView (claimAged k s) = lineView s := by
  unfold claimAged; split <;> simp
@[simp] theorem lineView_ownClaimEcho (s : State) : lineView (ownClaimEcho s) = lineView s := by
  unfold ownClaimEcho; (repeat' split) <;> simp
@[simp] theorem lineView_takeClaim (t : Telegram) (s : State) : lineView (takeClaim t s) = lineView s := by
  unfold takeClaim; split <;> simp
@[simp] theorem lineView_takeRelease (t : Telegram) (s : State) : lineView (takeRelease t s) = lineView s := by
  unfold takeRelease; split <;> simp
@[simp] theorem lineView_sureExpired (s : State) : lineView (sureExpired s) = lineView s := by
  unfold sureExpired; split <;> simp
@[simp] theorem lineView_secondPassOnce (silent : List Nat) (s : State) :
    lineView (secondPassOnce silent s) = lineView s := by
  unfold secondPassOnce secondPass; split <;> simp

theorem lineView_ownLevel (t : Telegram) (s : State) : lineView (ownLevel t s).1 = lineView s := by
  unfold ownLevel refuse; (repeat' split) <;> rfl
theorem lineView_ownShow (t : Telegram) (s : State) : lineView (ownShow t s).1 = lineView s := by
  unfold ownShow refuse; (repeat' split) <;> simp
theorem lineView_ownCorners (t : Telegram) (s : State) : lineView (ownCorners t s).1 = lineView s := by
  unfold ownCorners refuse; (repeat' split) <;> rfl

/-! ### Putting the lamp out, and starting it (R4, R5, R12, R13) -/

theorem LineForm.enterWaiting (k : LineForm n s) : LineForm n (enterWaiting s) := by
  unfold Machine.enterWaiting
  refine LineForm.send ?_ rfl; exact k

theorem LineForm.extinguish (k : LineForm n s) (x : LampState) : LineForm n (extinguish x s) := by
  have report {v : State} (hv : LineForm n v) : LineForm n (reportExtinction v) :=
    LineForm.of_view hv (lineView_requestWrite _)
  unfold Machine.extinguish
  cases s.lamp.state with
  | striking p => exact k.releaseClaim
  | warming | lit => refine report ?_; exact k
  | dark | waiting | cooling | fault => exact k

theorem LineForm.unwanted (k : LineForm n s) : LineForm n (unwanted s) := by
  unfold Machine.unwanted
  cases s.lamp.state with
  | waiting => exact k.releaseClaim
  | striking p => exact k.extinguish _
  | warming | lit => exact k.extinguish _
  | dark | cooling | fault => exact k

theorem LineForm.startTest (k : LineForm n s) : LineForm n (startTest s) := by
  unfold Machine.startTest
  split
  · exact k.enterWaiting
  · exact k

theorem LineForm.nowWanted (k : LineForm n s) : LineForm n (nowWanted s) := by
  unfold Machine.nowWanted
  cases s.lamp.state with
  | dark => exact k.startTest
  | cooling =>
    simp only
    split
    · exact k
    · split
      · exact k.enterWaiting
      · exact k
  | waiting | striking | warming | lit | fault => exact k

theorem LineForm.onDecision (k : LineForm n s) (b : Bool) : LineForm n (onDecision b s) := by
  unfold Machine.onDecision
  (repeat' split)
  · exact k
  · exact k.unwanted
  · exact k.nowWanted
  · exact k

/-! ### The group (R102, R103, R113) -/

theorem LineForm.elect (k : LineForm n s) : LineForm n (elect s) := by
  unfold Machine.elect
  split
  · refine LineForm.onDecision ?_ _; exact k
  · exact k

theorem LineForm.electIfAvailable (k : LineForm n s) (b : State) : LineForm n (electIfAvailable b s) := by
  unfold Machine.electIfAvailable
  split
  · exact k.elect
  · exact k

theorem LineForm.groupOn (k : LineForm n s) (c : OnCause) : LineForm n (groupOn c s) := by
  unfold Machine.groupOn
  split
  · simp only
    split
    · refine LineForm.elect ?_; exact k
    · exact k
  · cases c <;> exact k

theorem LineForm.groupOff (k : LineForm n s) : LineForm n (groupOff s) := by
  unfold Machine.groupOff
  split
  · exact k
  · refine LineForm.onDecision ?_ _; exact k

theorem LineForm.growthStep (k : LineForm n s) : LineForm n (growthStep s) := by
  unfold Machine.growthStep
  simp only
  (repeat' split)
  · refine LineForm.onDecision ?_ _; exact k
  · exact k
  · exact k

theorem LineForm.signalWake (k : LineForm n s) : LineForm n (signalWake s) := by
  unfold Machine.signalWake
  (repeat' split)
  · exact k
  · exact (k.groupOn _).send rfl
  · exact k

theorem LineForm.samplePresence (k : LineForm n s) (lines : Six Bool) : LineForm n (samplePresence lines s) := by
  have judged {v : State} (hv : LineForm n v) : LineForm n (judgeSource v) := hv.of_view (lineView_judgeSource v)
  unfold Machine.samplePresence
  simp only
  (repeat' split)
  all_goals first | exact k | exact judged k | exact LineForm.signalWake k | exact LineForm.signalWake (judged k)

theorem LineForm.idleExpired (k : LineForm n s) : LineForm n (idleExpired s) := by
  have off {v : State} (hv : LineForm n v) : LineForm n (idleOff v) := by
    unfold idleOff
    (repeat' split)
    · exact hv
    · exact hv
    · exact hv.groupOff.send rfl
    · exact hv
  unfold Machine.idleExpired
  split
  · refine off ?_; exact k
  · exact k

/-! ### The Lock Set (R143 to R149) -/

theorem LineForm.lampUncovered (k : LineForm n s) (b : State) : LineForm n (lampUncovered b s) := by
  unfold Machine.lampUncovered
  split
  · exact k.electIfAvailable b
  · exact k

theorem LineForm.addLock (k : LineForm n s) (l : Lock) : LineForm n (addLock l s) := by
  unfold Machine.addLock
  simp only
  (repeat' split)
  · exact k
  · exact LineForm.unwanted (s := s.setLocks _) k
  · refine LineForm.lampUncovered ?_ s; exact k

theorem LineForm.removeLock (k : LineForm n s) (h : Holder) : LineForm n (removeLock h s) := by
  refine LineForm.lampUncovered ?_ s; exact k

theorem LineForm.lockMinute (k : LineForm n s) (x : Nat) : LineForm n (lockMinute x s) := by
  unfold Machine.lockMinute
  (repeat' split)
  · exact k.removeLock _
  · exact k
  · exact k
  · exact k

/-! ### Faults and strikes (R7, R8, R16 to R24) -/

theorem LineForm.latchFault (k : LineForm n s) (f : LampFault) : LineForm n (latchFault f s) := by
  have hk : LineForm n (s.setLamp { s.lamp with faults := addFault f s.lamp.faults }) := k
  unfold Machine.latchFault
  simp only
  split
  · exact k
  · exact hk.releaseClaim
  · exact hk.extinguish _
  · exact hk.extinguish _
  · exact hk.extinguish _
  · exact k
  · exact k

theorem LineForm.failAttempt (k : LineForm n s) : LineForm n (failAttempt s) := by
  unfold Machine.failAttempt
  simp only
  split
  · exact k
  · refine LineForm.latchFault ?_ _; exact k

theorem LineForm.tryClear (k : LineForm n s) : LineForm n (tryClear s).1 := by
  unfold Machine.tryClear
  (repeat' split)
  · exact k
  · rw [clearFaults_eq]
    refine LineForm.electIfAvailable ?_ s; exact k
  · exact k
  · exact k

theorem LineForm.strikeTest (k : LineForm n s) : LineForm n (strikeTest s) := by
  rcases strikeTest_cases s with h | h <;> rw [h] <;> exact k

theorem LineForm.litSenseArrives (k : LineForm n s) : LineForm n (litSenseArrives s) := by
  unfold Machine.litSenseArrives
  simp only
  split
  · refine LineForm.releaseClaim (s := (s.setPins _).setLamp _) ?_; exact k
  all_goals exact k

theorem LineForm.litSenseLost (k : LineForm n s) : LineForm n (litSenseLost s) := by
  unfold Machine.litSenseLost dropsOut
  simp only
  (repeat' split)
  · refine LineForm.latchFault ?_ _; exact k
  · exact LineForm.extinguish (s := s.setPins { s.pins with litSense := false }) k .cooling
  · exact k

theorem LineForm.litWaitExpired (k : LineForm n s) : LineForm n (litWaitExpired s) := by
  unfold Machine.litWaitExpired
  split
  · exact k.failAttempt
  · exact k

theorem LineForm.restrikeExpired (k : LineForm n s) : LineForm n (restrikeExpired s) := by
  unfold Machine.restrikeExpired guardEndsCooling
  simp only
  (repeat' split)
  · refine LineForm.enterWaiting ?_; exact k
  all_goals exact k

theorem LineForm.fanStalls (k : LineForm n s) : LineForm n (fanStalls s) := by
  unfold Machine.fanStalls
  simp only
  (repeat' split)
  · exact k
  · refine LineForm.latchFault ?_ _; exact k
  · exact k

theorem LineForm.tachoStalls (k : LineForm n s) : LineForm n (tachoStalls s) := by
  unfold Machine.tachoStalls
  simp only
  split
  · refine LineForm.failAttempt ?_; exact k
  · exact k

theorem LineForm.supplyFails (k : LineForm n s) : LineForm n (supplyFails s) := by
  unfold Machine.supplyFails
  simp only
  split
  · refine LineForm.latchFault ?_ _; exact k
  · exact k

theorem LineForm.takeSample (k : LineForm n s) (x : Sensor) : LineForm n (takeSample x s) := by
  rw [takeSample_eq]
  split
  · refine LineForm.latchFault ?_ _; exact k
  · exact k

/-! ### Claims, peers and listening (04, 05) -/

theorem LineForm.renewClaim (k : LineForm n s) : LineForm n (renewClaim s) := by
  have again : LineForm n (s.setLamp { s.lamp with renewal := some 4000 }) := k
  unfold Machine.renewClaim
  simp only
  (repeat' split)
  all_goals first | exact k | exact again.send rfl

theorem LineForm.lose (k : LineForm n s) (x : Nat) : LineForm n (lose x s) := by
  rw [lose_eq]
  exact LineForm.removeLock (s := s.setPeers (s.peers.filter fun p => p.station != x)) k (.station x)

theorem LineForm.loseAll (k : LineForm n s) (xs : List Nat) : LineForm n (loseAll xs s) := by
  induction xs generalizing s with
  | nil => exact k
  | cons x rest ih => exact ih (k.lose x)

theorem LineForm.confirmExpired (k : LineForm n s) (x : Nat) : LineForm n (confirmExpired x s) := by
  unfold Machine.confirmExpired
  (repeat' split)
  · exact k.lose x
  · exact k
  · exact k

theorem LineForm.presenceExpired (k : LineForm n s) (x : Nat) : LineForm n (presenceExpired x s) := by
  unfold Machine.presenceExpired
  (repeat' split)
  · exact k.lose x
  · exact k
  · exact k
  · exact k

theorem LineForm.qualityMinute (k : LineForm n s) : LineForm n (qualityMinute s) := by
  unfold Machine.qualityMinute
  simp only
  (repeat' split)
  · refine LineForm.loseAll ?_ _; exact k
  · exact k
  · exact k

theorem LineForm.freshEnds (k : LineForm n s) : LineForm n (freshEnds s) := by
  unfold Machine.freshEnds
  simp only
  split
  · refine (LineForm.startTest ?_).electIfAvailable s; exact k
  · exact k

theorem LineForm.duplicateEnds (k : LineForm n s) : LineForm n (duplicateEnds s) := by
  unfold Machine.duplicateEnds
  simp only
  split
  · refine (LineForm.startTest ?_).electIfAvailable s; exact k
  · exact k

theorem LineForm.takeBeacon (k : LineForm n s) (t : Telegram) : LineForm n (takeBeacon t s) := by
  unfold Machine.takeBeacon foreignBeacon
  simp only
  (repeat' split)
  · exact k
  · exact k
  · exact LineForm.unwanted (s := s.setListen _) k
  · exact k
  · exact k

theorem LineForm.beginFresh (k : LineForm n s) : LineForm n (beginFresh s) :=
  LineForm.beaconDue (s := s.setListen { s.listen with fresh := some (3 * s.settings.interval * 1000) }) k

theorem LineForm.beaconEnded (k : LineForm n s) : LineForm n (beaconEnded s) := by
  unfold Machine.beaconEnded
  simp only
  split
  · exact LineForm.beaconDue (s := (startBeaconTimer s).setLine { s.line with dueAgain := false }) k
  · exact k

theorem LineForm.periodicBeacon (k : LineForm n s) : LineForm n (periodicBeacon s) := by
  unfold Machine.periodicBeacon
  split
  · exact LineForm.beaconDue (s := s.setListen _) k
  · exact k

theorem LineForm.enableReceiver (k : LineForm n s) : LineForm n (enableReceiver s) := by
  unfold Machine.enableReceiver
  simp only
  split
  · refine LineForm.beginFresh ?_; exact k
  · exact k

/-! ### The settling -/

theorem LineForm.lifeJudge (k : LineForm n s) : LineForm n (lifeJudge s) := by
  unfold Machine.lifeJudge
  simp only
  (repeat' split)
  · exact k
  · exact k
  · refine LineForm.addLock ?_ _; exact k
  · exact k

theorem LineForm.judgeGroup (k : LineForm n s) : LineForm n (judgeGroup s) := by
  rw [judgeGroup_spec]
  exact k

theorem LineForm.withdrawTest (k : LineForm n s) (b : State) : LineForm n (withdrawTest b s) := by
  unfold Machine.withdrawTest
  split
  · exact LineForm.onDecision (s := clearSelection s) k _
  · exact k

theorem LineForm.beaconJudge (k : LineForm n s) (b : State) : LineForm n (beaconJudge b s) := by
  unfold Machine.beaconJudge
  split
  · exact k
  · exact k.beaconDue

theorem LineForm.settle (k : LineForm n s) (b : State) : LineForm n (settle b s) := by
  have hlast (v : State) : lineView (idleJudge (fanStallJudge (retarget v))) = lineView v := by rw [retarget_eq]; rfl
  have hjudged := (k.lifeJudge.startTest.strikeTest.lifeJudge.judgeGroup.withdrawTest b).judgeGroup
  rw [settle_eq]
  exact LineForm.beaconJudge (hjudged.of_view (hlast _)) b

end Sys2Proof.Machine
end

section
/-! ## Keys, the schedule and the warm reset keep the form of the queues (08, 09, R142, R150, R164, R183) -/

namespace Sys2Proof.Machine

variable {s u : State} {n : Nat}

/-! ### Clock and Room Schedule (09) -/

theorem LineForm.push (k : LineForm n s) (i : Input) (o : Origin) : LineForm n (push i o s) :=
  k.of_view (lineView_push i o s)

theorem LineForm.scheduleLock (k : LineForm n s) (x : Option Slot) : LineForm n (scheduleLock x s) := by
  unfold Machine.scheduleLock
  split
  · exact k.addLock _
  · exact k.removeLock _

theorem LineForm.enterEffective (k : LineForm n s) (x : Option Slot) : LineForm n (enterEffective x s) := by
  have hlevel : LineForm n (s.setGroup { s.group with slotLevel := slotLevelOf x }) := k
  unfold Machine.enterEffective
  simp only
  (repeat' split)
  · exact (hlevel.push _ _).groupOff
  · exact hlevel.groupOff
  · exact hlevel.push _ _
  · exact k

theorem LineForm.enterOn (k : LineForm n s) (eff on : Option Slot) : LineForm n (enterOn eff on s) := by
  unfold Machine.enterOn leaveSlot
  simp only
  (repeat' split)
  · exact k.groupOn _
  · exact k
  · refine LineForm.groupOff ?_; exact k
  · exact k

theorem LineForm.evaluate (k : LineForm n s) : LineForm n (evaluate s) := by
  have hlock := k.scheduleLock (effectiveSlot s.clock.minute s.schedule.slots)
  unfold Machine.evaluate
  simp only
  (repeat' split)
  · exact (hlock.enterEffective _).enterOn _ _
  · exact hlock.enterOn _ _
  · exact hlock.enterEffective _
  · exact hlock

theorem LineForm.evaluateIfSure (k : LineForm n s) : LineForm n (evaluateIfSure s) := by
  unfold Machine.evaluateIfSure
  split
  · exact k.evaluate
  · exact k

theorem LineForm.setSlots (k : LineForm n s) (xs : List Slot) : LineForm n (setSlots xs s) := by
  unfold Machine.setSlots
  split
  · exact k
  · refine LineForm.evaluateIfSure ?_; exact k

theorem LineForm.advanceSecond (k : LineForm n s) : LineForm n (advanceSecond s) := by
  unfold Machine.advanceSecond
  split
  · refine LineForm.evaluateIfSure ?_; exact k
  · exact k

theorem LineForm.secondEnds (k : LineForm n s) : LineForm n (secondEnds s) := by
  unfold Machine.secondEnds
  split
  · exact k
  · exact k.advanceSecond

theorem LineForm.minuteEnds (k : LineForm n s) : LineForm n (minuteEnds s) := by
  unfold Machine.minuteEnds
  split
  · exact k.secondEnds
  · exact k

theorem LineForm.takeTime (k : LineForm n s) (t : Telegram) : LineForm n (takeTime t s) := by
  unfold Machine.takeTime adopt stepClock
  simp only
  (repeat' split)
  · refine LineForm.evaluate ?_; exact k
  · refine LineForm.evaluate ?_; exact k
  all_goals exact k

theorem LineForm.slewOnce (k : LineForm n s) : LineForm n (slewOnce s) := by
  unfold Machine.slewOnce
  split
  · split
    · refine LineForm.advanceSecond ?_; exact k
    · split <;> exact k
  · exact k

/-! ### Keypad and key switch (08) -/

theorem LineForm.pressPower (k : LineForm n s) : LineForm n (pressPower s) := by
  unfold Machine.pressPower powerInService powerForGroup
  (repeat' split)
  · exact k.extinguish _
  · exact k.extinguish _
  · exact k
  · exact k
  · exact k
  · exact k
  · exact k
  · exact k
  · exact (k.groupOn _).send rfl
  · exact k
  · exact k.groupOff.send rfl
  · exact k

theorem LineForm.pressSource (k : LineForm n s) : LineForm n (pressSource s) := by
  unfold Machine.pressSource
  split
  · exact (k.push _ _).send rfl
  · exact k

theorem LineForm.pressClear (k : LineForm n s) : LineForm n (pressClear s) := by
  unfold Machine.pressClear
  split
  · exact k.tryClear
  · exact k

theorem LineForm.sampleKey {get : Panel → Key} {put : Panel → Key → Panel} {press : State → State}
    (hp : ∀ s, LineForm n s → LineForm n (press s)) (samples : List Bool) (k : LineForm n s) :
    LineForm n (sampleKey get put press samples s) := by
  induction samples generalizing s with
  | nil => exact k
  | cons x rest ih =>
    have hk : LineForm n (s.setPanel (put s.panel (keySample (get s.panel) x).1)) := k
    unfold Machine.sampleKey whenSettled
    refine ih ?_
    (repeat' split)
    · exact (hp _ hk).settle _
    · exact hk
    · exact hk

theorem LineForm.leavePosition (k : LineForm n s) (old : Option KeyPosition) (b : State) :
    LineForm n (leavePosition old b s) := by
  have hdecision : LineForm n (applyDecision (Machine.electIfAvailable b s)) := by
    unfold applyDecision
    split
    · exact (k.electIfAvailable b).nowWanted
    · exact (k.electIfAvailable b).unwanted
  unfold Machine.leavePosition
  split
  · exact k.removeLock _
  · exact hdecision
  · exact k
  · exact k

theorem LineForm.enterPosition (k : LineForm n s) (p : KeyPosition) : LineForm n (enterPosition p s) := by
  have hservice : LineForm n (lampIntoService s) := by
    unfold lampIntoService
    cases s.lamp.state with
    | waiting => exact k.releaseClaim
    | striking p => exact k.extinguish _
    | dark | warming | lit | cooling | fault => exact k
  cases p with
  | locked => exact k.addLock _
  | service => exact hservice
  | normal => exact k

theorem LineForm.settlePosition (k : LineForm n s) (p : KeyPosition) : LineForm n (settlePosition p s) := by
  unfold Machine.settlePosition
  simp only
  split
  · exact k
  · refine ((LineForm.leavePosition ?_ _ s).enterPosition p).settle s; exact k

theorem LineForm.sampleSwitch (samples : List KeyReading) (k : LineForm n s) : LineForm n (sampleSwitch samples s) := by
  induction samples generalizing s with
  | nil => exact k
  | cons r rest ih =>
    have hk : LineForm n (s.setPanel { s.panel with switch := (switchSample s.panel.switch r).1 }) := k
    unfold Machine.sampleSwitch
    refine ih ?_
    split
    · exact hk.settlePosition _
    · exact hk

/-! ### The warm reset (R178, R183) -/

/-- Nothing waits and nothing is being sent but an orphan (R178). -/
theorem lineForm_resetLine (s : State) : LineForm 0 (s.setLine (resetLine s.line)) := by
  have horphan : attemptLive (resetLine s.line) = false := by
    unfold attemptLive resetLine
    cases s.line.attempt <;> rfl
  refine ⟨⟨Nat.zero_le _, nofun, fun _ => rfl, nofun, rfl, nofun⟩,
    ⟨Nat.zero_le _, Nat.zero_le _, Nat.zero_le _, ?_, nofun⟩⟩
  rw [State.setLine_line, horphan]
  rfl

theorem LineForm.resetLamp (k : LineForm n s) : LineForm n (resetLamp s) := by
  unfold Machine.resetLamp
  cases s.lamp.state with
  | waiting => exact k.releaseClaim
  | striking p => exact k.extinguish _
  | warming | lit => exact k.extinguish _
  | dark | cooling | fault => exact k

theorem LineForm.lockAgain (k : LineForm n s) (x : Option Slot) : LineForm n (lockAgain x s) := by
  unfold Machine.lockAgain
  split
  · exact k.addLock _
  · exact k

theorem LineForm.enterAgain (k : LineForm n s) (x : Option Slot) : LineForm n (enterAgain x s) := by
  unfold Machine.enterAgain
  split
  · exact k.enterEffective x
  · exact k

theorem LineForm.onAgain (k : LineForm n s) : LineForm n (onAgain s) := by
  unfold Machine.onAgain
  split
  · exact k.groupOn _
  · exact k

theorem LineForm.resetSchedule (k : LineForm n s) : LineForm n (resetSchedule s) := by
  cases hsure : s.clock.sure.isSome with
  | true =>
    unfold Machine.resetSchedule
    simp only [State.setClock_clock, hsure, if_true]
    refine LineForm.evaluate ?_; exact k
  | false =>
    rw [resetSchedule_unsure hsure]
    refine LineForm.onAgain (LineForm.enterAgain (LineForm.lockAgain ?_ _) _); exact k

theorem LineForm.setClaims (k : LineForm n s) (xs : List ClaimEntry) : LineForm n (s.setClaims xs) := k

theorem LineForm.setGeometry (k : LineForm n s) (g : Geometry) : LineForm n (s.setGeometry g) := k

theorem LineForm.resetLocks (k : LineForm n s) : LineForm n (resetLocks s) := k

theorem LineForm.linkProgress (k : LineForm n s) : LineForm n (linkProgress s) := k.of_view (lineView_linkProgress s)

theorem LineForm.resetPeers (k : LineForm n s) : LineForm n (resetPeers s) := k

theorem LineForm.setGroup (k : LineForm n s) (g : Group) : LineForm n (s.setGroup g) := k

theorem LineForm.resetSelector (k : LineForm n s) : LineForm n (resetSelector s) :=
  LineForm.of_view (s := s.setSource { Source.powerOn with list := s.settings.initialList }) k
    (lineView_startSelector _)

theorem lineForm_warmReset (s : State) : LineForm 0 (warmReset s) := by
  have hengine := (((lineForm_resetLine s).setClaims []).resetLamp.resetLocks.linkProgress).setGeometry
  exact ((hengine _).resetPeers.setGroup _).beginFresh.resetSelector.resetSchedule

end Sys2Proof.Machine
end

section
/-! ## Sending, receiving and dispatching keep the form of the queues; every step (10, R170 to R178) -/

namespace Sys2Proof.Machine

variable {s u : State} {n r m : Nat} {q before after : List QueueEntry} {live : Bool} {e : QueueEntry} {t : Telegram}

/-! ### The send queue over an attempt (R170) -/

theorem SendForm.fewer (k : SendForm q r live) (h : m ≤ r) : SendForm q m live :=
  ⟨k.beacons, (Nat.add_le_add_left h _).trans k.others, k.one, k.sending, k.attempts⟩

/-- The telegram being sent leaves the queue. -/
theorem SendForm.notSending (k : SendForm q r live) : SendForm (notSending q) r false where
  beacons := (List.filter_sublist.filter _).length_le.trans k.beacons
  others := (Nat.add_le_add_right (List.filter_sublist.filter _).length_le r).trans k.others
  one := by simp [Machine.notSending, List.filter_filter]
  sending := by simp [Machine.notSending]
  attempts e he := k.attempts e (mem_notSending.mp he).1

/-- A telegram that is not being sent. -/
def unsent (e : QueueEntry) : QueueEntry := { e with sending := false }

/-- The telegram being sent stays in its place: it has not made its 16th attempt. -/
theorem SendForm.unsent (k : SendForm q r live) (h : ∀ e ∈ q, e.sending = true → e.attempts < 16) :
    SendForm (q.map unsent) r false where
  beacons := by rw [List.filter_map, List.length_map]; exact k.beacons
  others := by unfold othersFilled; rw [List.filter_map, List.length_map]; exact k.others
  one := by
    rw [List.filter_map, List.length_map]
    exact (List.length_eq_zero_iff.mpr (List.filter_eq_nil_iff.mpr fun _ _ => Bool.false_ne_true)).le.trans
      (Nat.zero_le 1)
  sending := by
    rw [List.any_map]
    exact List.any_eq_false.mpr fun _ _ => Bool.false_ne_true
  attempts := by
    rw [List.forall_mem_map]
    intro e he
    obtain ⟨-, hfree⟩ := k.attempts e he
    have hless : e.attempts < 16 := by
      cases hs : e.sending with
      | true => exact h e he hs
      | false => exact Nat.lt_succ_of_le (hfree hs)
    exact ⟨hless.le, fun _ => Nat.le_of_lt_succ hless⟩

/-- What is counted of a queue by its telegrams alone. -/
theorem filter_payload (f : Payload → Bool) (q : List QueueEntry) :
    (q.filter fun e => f e.payload).length = ((q.map fun e => e.payload).filter f).length := by
  rw [List.filter_map, List.length_map]
  rfl

/-- An entry that waits begins to be sent. -/
theorem SendForm.begin (k : SendForm (before ++ e :: after) r false) :
    SendForm (before ++ { e with attempts := e.attempts + 1, sending := true } :: after) r true := by
  obtain ⟨hbeacons, hothers, -, hnone, hattempts⟩ := k
  have hsame (f : Payload → Bool) :
      ((before ++ { e with attempts := e.attempts + 1, sending := true } :: after).filter fun e => f e.payload).length =
        ((before ++ e :: after).filter fun e => f e.payload).length := by
    simp only [filter_payload, List.map_append, List.map_cons]
  simp only [List.any_append, List.any_cons, Bool.or_eq_false_iff, List.forall_mem_append, List.forall_mem_cons]
    at hnone hattempts
  obtain ⟨hbefore, he, hafter⟩ := hnone
  obtain ⟨hold, ⟨-, hmade⟩, hnew⟩ := hattempts
  have hless := hmade he
  refine ⟨?_, ?_, ?_, ?_, ?_⟩
  · rw [hsame isBeacon]; exact hbeacons
  · unfold othersFilled; rw [hsame fun p => !isBeacon p]; exact hothers
  · have hempty {xs : List QueueEntry} (hx : (xs.any fun e => e.sending) = false) :
        (xs.filter fun e => e.sending) = [] := by simpa [List.filter_eq_nil_iff] using hx
    rw [List.filter_append, List.filter_cons_of_pos rfl, hempty hbefore, hempty hafter]
    rfl
  · simp
  · simp only [List.forall_mem_append, List.forall_mem_cons]
    exact ⟨hold, ⟨by omega, nofun⟩, hnew⟩

theorem attemptLive_none {l : HallLine} (h : l.attempt = none) : attemptLive l = false := by
  unfold attemptLive; rw [h]; rfl

theorem LineForm.beginSending (k : LineForm n s) (idle : Nat) : LineForm n (beginSending idle s) := by
  unfold Machine.beginSending
  split
  · next h =>
    have hidle : s.line.attempt = none := by simp only [Bool.and_eq_true, Option.isNone_iff_eq_none] at h; exact h.1.2
    have hheard : LineForm n (hear .lineIdle s) := k
    simp only
    split
    · next before e after hchosen =>
      split
      · have hsend := hheard.2
        rw [(chosen_first hchosen).queue, show attemptLive (hear .lineIdle s).line = false from attemptLive_none hidle]
          at hsend
        exact ⟨hheard.1, hsend.begin⟩
      · exact k
    · exact k
  · exact k

/-! ### The entry reserved for the head (R175) -/

theorem LineForm.reserveForHead (k : LineForm n s) : LineForm n (reserveForHead s) := by
  unfold Machine.reserveForHead
  split
  · exact k
  · next t rest hrequests =>
    split
    · next h =>
      simp only [Bool.and_eq_true, Bool.not_eq_true'] at h
      obtain ⟨⟨⟨hdirected, hnone⟩, -⟩, hfree⟩ := h
      obtain ⟨hr, hs⟩ := k
      have hreserved := hr.reserved
      rw [hnone] at hreserved
      refine ⟨⟨hr.fill, hr.set, hr.clear, hr.kinds, ?_, fun _ => ?_⟩, ⟨hs.beacons, ?_, hs.one, hs.sending, hs.attempts⟩⟩
      · simpa using hreserved
      · simp only [State.setLine_line, hrequests, List.head?_cons]
        exact hdirected
      · have hless : othersFilled s.line.queue + s.line.reserved < 7 := of_decide_eq_true hfree
        exact hless
    · exact k

theorem LineForm.ownerDrop (k : LineForm 0 s) (p : Payload) : LineForm 0 (ownerDrop p s) := by
  unfold Machine.ownerDrop
  split
  · exact k.beaconEnded
  · exact k.reserveForHead
  · exact k.reserveForHead
  · exact k.reserveForHead
  · exact lineForm_warmReset s
  · exact k.reserveForHead

theorem LineForm.ownerEcho (k : LineForm 0 s) (p : Payload) : LineForm 0 (ownerEcho p s) := by
  unfold Machine.ownerEcho
  split
  · exact k.beaconEnded
  · exact (k.of_view (lineView_ownClaimEcho s)).reserveForHead
  · exact k.reserveForHead
  · exact k.reserveForHead
  · exact lineForm_warmReset s
  · exact k.reserveForHead

/-! ### The end of an attempt (R170, R178) -/

/-- An attempt that was not orphaned has just ended: its telegram still stands in the queue as being sent. -/
def Ended (s : State) : Prop :=
  RequestsForm 0 s.straps.number s.line.requests s.line.busy s.line.reserved s.line.headReserved ∧
    SendForm s.line.queue s.line.reserved true ∧ s.line.attempt = none

theorem Ended.leaves (k : Ended s) :
    LineForm 0 (s.setLine { s.line with queue := Machine.notSending s.line.queue }) := by
  obtain ⟨hrequests, hsend, hnone⟩ := k
  refine ⟨hrequests, ?_⟩
  rw [attemptLive_none (l := (s.setLine { s.line with queue := Machine.notSending s.line.queue }).line) hnone]
  exact hsend.notSending

/-- One telegram stands as being sent. -/
theorem Ended.inSending (k : Ended s) : ∃ e, inSending s.line.queue = some e ∧
    ∀ x ∈ s.line.queue, x.sending = true → x = e := by
  obtain ⟨-, hsend, -⟩ := k
  cases h : Machine.inSending s.line.queue with
  | none => exact absurd ((inSending_none h).symm.trans hsend.sending) nofun
  | some e =>
    obtain ⟨he, hsending⟩ := inSending_some h
    have hmem {x : QueueEntry} (hx : x ∈ s.line.queue) (hs : x.sending = true) :
        x ∈ s.line.queue.filter fun e => e.sending := List.mem_filter.mpr ⟨hx, hs⟩
    refine ⟨e, rfl, fun x hx hs => ?_⟩
    obtain ⟨y, hy⟩ := List.length_eq_one_iff.mp
      (le_antisymm hsend.one (List.length_pos_of_mem (hmem he hsending)))
    have hxy := hmem hx hs
    have hey := hmem he hsending
    rw [hy, List.mem_singleton] at hxy hey
    rw [hxy, hey]

theorem Ended.attemptFailed (k : Ended s) : LineForm 0 (attemptFailed s) := by
  obtain ⟨e, he, honly⟩ := k.inSending
  unfold Machine.attemptFailed
  rw [he]
  simp only
  split
  · exact k.leaves.reserveForHead
  · split
    · exact k.leaves.ownerDrop _
    · next hless =>
      obtain ⟨hrequests, hsend, hnone⟩ := k
      refine ⟨hrequests, ?_⟩
      have hkept := hsend.unsent fun x hx hs => by rw [honly x hx hs]; omega
      unfold attemptLive
      rw [State.setLine_line, hnone]
      exact hkept

theorem closeAttempt_ended {a : Attempt} (k : LineForm 0 s) (ha : s.line.attempt = some a) (ho : a.orphan = false)
    (out : List LineOutput) (reading : LineReading) : Ended (closeAttempt out reading s) := by
  obtain ⟨hrequests, hsend⟩ := k
  have hlive : attemptLive s.line = true := by unfold attemptLive; rw [ha]; simp [ho]
  rw [hlive] at hsend
  exact ⟨hrequests, hsend, rfl⟩

theorem closeAttempt_orphan {a : Attempt} (k : LineForm 0 s) (ha : s.line.attempt = some a) (ho : a.orphan = true)
    (out : List LineOutput) (reading : LineReading) : LineForm 0 (closeAttempt out reading s) := by
  obtain ⟨hrequests, hsend⟩ := k
  have hlive : attemptLive s.line = false := by unfold attemptLive; rw [ha]; simp [ho]
  rw [hlive] at hsend
  exact ⟨hrequests, hsend⟩

theorem LineForm.lineLost (k : LineForm 0 s) : LineForm 0 (lineLost s) := by
  unfold Machine.lineLost
  split
  · next a ha =>
    simp only
    split
    · next ho => exact closeAttempt_orphan k ha ho _ _
    · next ho => exact (closeAttempt_ended k ha (Bool.eq_false_iff.mpr ho) _ _).attemptFailed
  · exact k

theorem LineForm.lineFaulted (k : LineForm 0 s) : LineForm 0 (lineFaulted s) := by
  unfold Machine.lineFaulted
  split
  · next a ha =>
    simp only
    split
    · next ho => exact closeAttempt_orphan k ha ho [.lost a.frame, .lineBreak] .idle
    · next ho =>
      have hended := closeAttempt_ended k ha (Bool.eq_false_iff.mpr ho) [.lost a.frame, .lineBreak] .idle
      exact Ended.attemptFailed hended
  · exact k

theorem LineForm.sentComplete (k : LineForm 0 s) : LineForm 0 (sentComplete s) := by
  unfold Machine.sentComplete
  split
  · next a ha =>
    simp only
    split
    · next ho => exact closeAttempt_orphan k ha ho _ _
    · next ho =>
      have hended := closeAttempt_ended k ha (Bool.eq_false_iff.mpr ho) [.sent a.frame] .idle
      obtain ⟨e, he, -⟩ := hended.inSending
      rw [he]
      exact hended.leaves.ownerEcho _
  · exact k

/-! ### Received telegrams (R172 to R174) -/

theorem LineForm.takeRequest (k : LineForm n s) (hkind : requestKinds.contains t.kind = true)
    (horigin : t.origin.toNat ≤ 31) : LineForm n (takeRequest t s) := by
  unfold Machine.takeRequest
  split
  · next hroom =>
    obtain ⟨hr, hs⟩ := k
    refine ⟨⟨?_, ?_, ?_, ?_, hr.reserved, fun h => ?_⟩, hs⟩
    · simpa using hroom
    · intro h
      simp only [State.setLine_line, List.length_append, List.length_singleton] at h
      exact if_pos h
    · intro h
      simp only [State.setLine_line, List.length_append, List.length_singleton] at h
      simp only [State.setLine_line, busyAfter, if_pos h]
      exact if_neg (by omega)
    · simp only [State.setLine_line, List.forall_mem_append, List.forall_mem_singleton]
      exact ⟨hr.kinds, hkind, horigin⟩
    · have hhead := hr.head h
      cases hq : s.line.requests with
      | nil => rw [hq] at hhead; cases hhead
      | cons x xs =>
        rw [hq] at hhead
        simp only [State.setLine_line, List.cons_append, List.head?_cons]
        exact hhead
  · exact k

/-- A known kind that is none of the coordination telegrams and no ANSWER is a request's (4.2). -/
theorem requestKind_of_rest (hk : allKinds.contains t.kind = true) (h1 : t.kind ≠ kindBeacon) (h2 : t.kind ≠ kindClaim)
    (h3 : t.kind ≠ kindRelease) (h4 : t.kind ≠ kindTime) (h5 : t.kind ≠ kindAnswer) :
    requestKinds.contains t.kind = true := by
  unfold allKinds at hk
  simp only [List.contains_eq_mem, decide_eq_true_eq, List.mem_append] at hk ⊢
  rcases hk with hk | hk
  · simp [h1, h2, h3, h4, h5] at hk
  · exact hk

theorem LineForm.deliver (k : LineForm n s) (t : Telegram) : LineForm n (deliver t s) := by
  unfold Machine.deliver
  split
  · exact k
  · next hknown =>
    simp only [Bool.or_eq_true, Bool.not_eq_true', decide_eq_true_eq, not_or, Bool.not_eq_false] at hknown
    obtain ⟨hkind, horigin⟩ := hknown
    split
    · unfold handTo
      (repeat' split)
      · exact k.takeBeacon t
      · exact k.of_view (lineView_takeClaim t s)
      · exact k.of_view (lineView_takeRelease t s)
      · exact k.takeTime t
      · exact k
      · next h1 h2 h3 h4 h5 => exact k.takeRequest (requestKind_of_rest hkind h1 h2 h3 h4 h5) (Nat.le_of_not_lt horigin)
    · exact k

theorem LineForm.receiveAll (signals : List LineSignal) (k : LineForm n s) : LineForm n (receiveAll signals s) := by
  induction signals generalizing s with
  | nil => exact k
  | cons x rest ih =>
    have hk : LineForm n (hear x s) := k
    unfold Machine.receiveAll receiveOne
    refine ih ?_
    split
    · exact (hk.deliver _).settle s
    · exact hk

theorem LineForm.receive (k : LineForm n s) (signals : List LineSignal) : LineForm n (receive signals s) := by
  unfold Machine.receive
  split
  · exact k.receiveAll signals
  · exact k

/-! ### The dispatcher (R174 to R176) -/

/-- The entries reserved for the ANSWER to a request once it has been taken from the head (R175). -/
def answersDue (s : State) (t : Telegram) : Nat := if directed s t then 1 else 0

theorem LineForm.takeHead {rest : List Telegram} (k : LineForm 0 s) (hq : s.line.requests = t :: rest)
    (hm : mayTake s t = true) : LineForm (answersDue s t) (takeHead t rest s) := by
  obtain ⟨hr, hs⟩ := k
  have hfill := hr.fill
  have hkinds := hr.kinds
  have hhead := hr.head
  have hreserved := hr.reserved
  have hothers := hs.others
  rw [hq] at hfill hkinds hhead
  have hdirected : s.line.headReserved = true → directed s t = true := hhead
  have hcases : s.line.reserved = (if directed s t && !s.line.headReserved then 0 else answersDue s t) := by
    unfold answersDue
    rw [hreserved]
    cases hh : s.line.headReserved with
    | true => simp [hdirected hh]
    | false => cases directed s t <;> rfl
  have hfree (hd : directed s t = true) (hh : s.line.headReserved = false) :
      othersFilled s.line.queue + s.line.reserved < 7 := by
    simp only [mayTake, hd, hh, Bool.not_true, Bool.false_or, Bool.and_eq_true] at hm
    exact of_decide_eq_true hm.2
  have hone : (Machine.takeHead t rest s).line.reserved = answersDue s t := by
    simp only [Machine.takeHead, State.setLine_line]
    rw [hcases]
    cases hd : directed s t <;> cases hh : s.line.headReserved <;> simp [answersDue, hd]
  refine ⟨⟨Nat.le_of_succ_le hfill, fun h => if_pos h, fun h => ?_, ?_, ?_, nofun⟩,
    ⟨hs.beacons, ?_, hs.one, hs.sending, hs.attempts⟩⟩
  · have hlow : rest.length ≤ 2 := h
    exact (if_neg (show ¬6 ≤ rest.length by omega)).trans (if_pos hlow)
  · exact fun x hx => hkinds x (List.mem_cons_of_mem _ hx)
  · rw [hone]
    rfl
  · change othersFilled s.line.queue + (if directed s t && !s.line.headReserved then _ else _) ≤ 7
    split
    · next hnew =>
      simp only [Bool.and_eq_true, Bool.not_eq_true'] at hnew
      exact hfree hnew.1 hnew.2
    · exact hothers

/-- The ANSWER takes the entry reserved for it (R176). -/
theorem LineForm.giveAnswer (k : LineForm 1 s) (t : Telegram) (x : Result) : LineForm 0 (giveAnswer t x s) := by
  obtain ⟨hr, hs⟩ := k
  have hreserved := hr.reserved
  have hothers := hs.others
  refine ⟨⟨hr.fill, hr.set, hr.clear, hr.kinds, ?_, hr.head⟩, ?_⟩
  · change s.line.reserved - 1 = 0 + if s.line.headReserved = true then 1 else 0
    omega
  · exact (hs.fewer (Nat.sub_le _ 1)).append nofun fun _ => by omega

theorem LineForm.freeReservation (k : LineForm 1 s) : LineForm 0 (freeReservation s) := by
  obtain ⟨hr, hs⟩ := k
  have hreserved := hr.reserved
  refine LineForm.reserveForHead ⟨⟨hr.fill, hr.set, hr.clear, hr.kinds, ?_, hr.head⟩, hs.fewer (Nat.sub_le _ 1)⟩
  change s.line.reserved - 1 = 0 + if s.line.headReserved = true then 1 else 0
  omega

/-- An owner keeps the form, so the dispatch of a request to it does. -/
theorem LineForm.dispatch (k : LineForm 0 s) {accepts : Telegram → Bool} {owner : Owner}
    (ho : ∀ t s, LineForm (answersDue s t) s → LineForm (answersDue s t) (owner t s).1) :
    LineForm 0 (dispatch accepts owner s) := by
  unfold Machine.dispatch
  split
  · exact k
  · next t rest hrequests =>
    split
    · next hm =>
      have htaken := k.takeHead hrequests (Bool.and_eq_true_iff.mp hm).1
      have hr : LineForm (answersDue s t)
          (if t.origin = 0 then (Machine.takeHead t rest s, none) else owner t (Machine.takeHead t rest s)).1 := by
        split
        · exact htaken
        · exact ho t (Machine.takeHead t rest s) htaken
      have hd : directed (Machine.takeHead t rest s) t = directed s t := rfl
      simp only [hd]
      generalize (if t.origin = 0 then (Machine.takeHead t rest s, none) else owner t (Machine.takeHead t rest s)) = r
        at hr
      unfold answersDue at hr
      split
      · next hdirected =>
        rw [if_pos hdirected] at hr
        split
        · exact hr.giveAnswer t _
        · exact hr.freeReservation
      · next hdirected =>
        rw [if_neg hdirected] at hr
        exact hr
    · exact k

/-! ### The owners of the requests (R176) -/

theorem LineForm.ownGroupOn (k : LineForm n s) (t : Telegram) : LineForm n (ownGroupOn t s).1 := by
  unfold Machine.ownGroupOn refuse
  (repeat' split)
  · exact k
  · exact k.groupOn _
  · exact k

theorem LineForm.ownGroupOff (k : LineForm n s) (t : Telegram) : LineForm n (ownGroupOff t s).1 := by
  unfold Machine.ownGroupOff refuse
  (repeat' split)
  · exact k
  · exact k.groupOff
  · exact k

theorem LineForm.takeLock (k : LineForm n s) (x : Nat) (sc : Scopes) (minutes : Nat) (c : Bool) :
    LineForm n (takeLock x sc minutes c s).1 := by
  unfold Machine.takeLock
  split
  · exact k
  · exact k.addLock _

theorem LineForm.ownLock (k : LineForm n s) (t : Telegram) : LineForm n (ownLock t s).1 := by
  unfold Machine.ownLock refuse
  simp only
  (repeat' split)
  · exact k
  · exact k
  · exact k
  · exact k.takeLock _ _ _ _
  · exact k

theorem LineForm.ownUnlock (k : LineForm n s) (t : Telegram) : LineForm n (ownUnlock t s).1 := by
  unfold Machine.ownUnlock refuse
  (repeat' split)
  · exact k
  · exact k
  · exact k
  · exact k.removeLock _
  · exact k
  · exact k

theorem LineForm.ownSlotPut (k : LineForm n s) (t : Telegram) : LineForm n (ownSlotPut t s).1 := by
  unfold Machine.ownSlotPut refuse
  split
  · exact k.setSlots _
  · exact k

theorem LineForm.ownSlotDrop (k : LineForm n s) (t : Telegram) : LineForm n (ownSlotDrop t s).1 := by
  unfold Machine.ownSlotDrop refuse
  (repeat' split)
  · exact k
  · exact k.setSlots _
  · exact k
  · exact k

theorem LineForm.ownClearFault (k : LineForm n s) (t : Telegram) : LineForm n (ownClearFault t s).1 := by
  unfold Machine.ownClearFault refuse
  split
  · exact k
  · exact k.tryClear

theorem LineForm.ownLampNew (k : LineForm n s) (t : Telegram) : LineForm n (ownLampNew t s).1 := by
  unfold Machine.ownLampNew newLamp refuse
  (repeat' split)
  · exact k
  · exact k
  · refine LineForm.of_view (LineForm.removeLock ?_ .wear) (lineView_requestWrite _); exact k
  · exact k

/-- A warm reset is made for an undirected RESTART alone, which has no entry reserved (R178). -/
theorem LineForm.ownRestart (k : LineForm (answersDue s t) s) : LineForm (answersDue s t) (ownRestart t s).1 := by
  unfold Machine.ownRestart refuse
  split
  · exact k
  · split
    · exact k
    · next hd =>
      have hnone : answersDue s t = 0 := if_neg hd
      rw [hnone]
      exact lineForm_warmReset s

/-! ### Every step -/

theorem lineForm_poweredOn (p : PowerUp) (s : State) : LineForm 0 (poweredOn p s) :=
  ⟨⟨Nat.zero_le _, nofun, fun _ => rfl, nofun, rfl, nofun⟩, ⟨Nat.zero_le _, Nat.zero_le _, Nat.zero_le _, rfl, nofun⟩⟩

theorem lineForm_of_finish {op : State → State} {t : State} (hop : LineForm 0 (op s)) (e : finish op s = .next t) :
    LineForm 0 t := by
  obtain rfl := Host.Outcome.next.inj e
  exact hop.settle s

theorem lineForm_of_view {op : State → State} {t : State} (k : LineForm 0 s) (hop : lineView (op s) = lineView s)
    (e : finish op s = .next t) : LineForm 0 t := lineForm_of_finish (k.of_view hop) e

theorem lineForm_of_owner {accepts : Telegram → Bool} {owner : Owner} {t : State} (k : LineForm 0 s)
    (ho : ∀ n t s, LineForm n s → LineForm n (owner t s).1) (e : finish (dispatch accepts owner) s = .next t) :
    LineForm 0 t := lineForm_of_finish (k.dispatch fun t s => ho (answersDue s t) t s) e

theorem lineForm_of_query {accepts : Telegram → Bool} {read : Telegram → State → Option Result} {t : State}
    (k : LineForm 0 s) (e : finish (dispatch accepts fun t s => queryForm t s (read t s)) s = .next t) : LineForm 0 t :=
  lineForm_of_owner k (fun _ t s k => by rw [queryForm_state]; exact k) e

theorem lineForm_of_key {get : Panel → Key} {put : Panel → Key → Panel} {press : State → State} {samples : List Bool}
    {t : State} (k : LineForm 0 s)
    (e : (Host.Outcome.next (sampleKey get put press samples s) : Host.Outcome State Fault Refusal) = .next t)
    (hp : ∀ s, LineForm 0 s → LineForm 0 (press s)) : LineForm 0 t := by
  obtain rfl := Host.Outcome.next.inj e
  exact LineForm.sampleKey hp samples k

theorem exec_lineForm {i : Instr} {t : State} (k : LineForm 0 s) (e : exec i s = .next t) : LineForm 0 t := by
  cases i with
  | powerOn p =>
    have e : execPowerOn p s = .next t := e
    unfold execPowerOn at e
    split at e
    · cases e
    · obtain rfl := Host.Outcome.next.inj e
      exact (lineForm_poweredOn p s).settle _
  | receiverEnabled => exact lineForm_of_finish k.enableReceiver e
  | sendingAttempt idle => exact lineForm_of_finish (k.beginSending idle) e
  | loss => exact lineForm_of_finish k.lineLost e
  | lineFault => exact lineForm_of_finish k.lineFaulted e
  | ownEcho => exact lineForm_of_finish k.sentComplete e
  | receiveError | requestArrival | answer | beacon | claim | release | time | telegramOfUnknownKind =>
    obtain rfl := Host.Outcome.next.inj e
    exact k.receive _
  | groupOn => exact lineForm_of_owner k (fun _ t _ k => k.ownGroupOn t) e
  | groupOff => exact lineForm_of_owner k (fun _ t _ k => k.ownGroupOff t) e
  | level => exact lineForm_of_owner k (fun _ t s k => k.of_view (lineView_ownLevel t s)) e
  | showInput => exact lineForm_of_owner k (fun _ t s k => k.of_view (lineView_ownShow t s)) e
  | corners => exact lineForm_of_owner k (fun _ t s k => k.of_view (lineView_ownCorners t s)) e
  | lock => exact lineForm_of_owner k (fun _ t _ k => k.ownLock t) e
  | unlock => exact lineForm_of_owner k (fun _ t _ k => k.ownUnlock t) e
  | slotPut => exact lineForm_of_owner k (fun _ t _ k => k.ownSlotPut t) e
  | slotDrop => exact lineForm_of_owner k (fun _ t _ k => k.ownSlotDrop t) e
  | clearFault => exact lineForm_of_owner k (fun _ t _ k => k.ownClearFault t) e
  | lampNew => exact lineForm_of_owner k (fun _ t _ k => k.ownLampNew t) e
  | restart => exact lineForm_of_finish (k.dispatch fun _ _ k => k.ownRestart) e
  | queryWear | queryLocks | querySlot | queryCorners => exact lineForm_of_query k e
  | confirmWindowExpiry station => exact lineForm_of_finish (k.confirmExpired station) e
  | presenceTimerExpiry station => exact lineForm_of_finish (k.presenceExpired station) e
  | freshEnd => exact lineForm_of_finish k.freshEnds e
  | duplicateTimerExpiry => exact lineForm_of_finish k.duplicateEnds e
  | beaconTimerExpiry => exact lineForm_of_finish k.periodicBeacon e
  | lineQualityMinute => exact lineForm_of_finish k.qualityMinute e
  | claimRenewal => exact lineForm_of_finish k.renewClaim e
  | litSense => exact lineForm_of_finish k.litSenseArrives e
  | dropout => exact lineForm_of_finish k.litSenseLost e
  | litSenseWaitExpiry => exact lineForm_of_finish k.litWaitExpired e
  | restrikeGuardExpiry => exact lineForm_of_finish k.restrikeExpired e
  | fanStall => exact lineForm_of_finish k.fanStalls e
  | tachometerStalled => exact lineForm_of_finish k.tachoStalls e
  | supplyLowAsserted => exact lineForm_of_finish k.supplyFails e
  | temperatureSample reading => exact lineForm_of_finish (k.takeSample reading) e
  | presenceSample lines => exact lineForm_of_finish (k.samplePresence lines) e
  | idleTimerExpiry => exact lineForm_of_finish k.idleExpired e
  | keypadPower => exact lineForm_of_key k e fun _ k => k.pressPower
  | keypadSource => exact lineForm_of_key k e fun _ k => k.pressSource
  | keypadVPlus => exact lineForm_of_key k e fun s k => k.of_view (lineView_pressKeystone 8 s)
  | keypadVMinus => exact lineForm_of_key k e fun s k => k.of_view (lineView_pressKeystone (-8) s)
  | keypadClear => exact lineForm_of_key k e fun _ k => k.pressClear
  | keySwitchSettle samples =>
    obtain rfl := Host.Outcome.next.inj e
    exact LineForm.sampleSwitch samples k
  | lockMinuteTimerExpiry station => exact lineForm_of_finish (k.lockMinute station) e
  | clockSecond => exact lineForm_of_finish k.secondEnds e
  | minuteChange => exact lineForm_of_finish k.minuteEnds e
  | slewTimerExpiry => exact lineForm_of_finish k.slewOnce e
  | shortfallTimerExpiry => exact lineForm_of_finish k.growthStep e
  | retryGapExpiry | dropoutWindowExpiry | fanTestExpiry | tachometerRunning | supplyLowReleased
  | beaconSpacingExpiry =>
    exact lineForm_of_view k rfl e
  | _ => exact lineForm_of_view k (by simp) e

theorem step_lineForm {t : State} (h : Safe s) (e : step s = .next t) : LineForm 0 t := by
  unfold step at e
  split at e
  · cases e
    exact h.lineForm
  · next c rest _ => exact exec_lineForm (s := s.setPending rest) h.lineForm e

/-- Settles O58: a telegram comes into the send queue through a free entry, the beacon's, or the one reserved for its
ANSWER; an attempt ends with its telegram out, or kept below its 16th; BUSY and the reservation follow the request
queue. -/
theorem queuesKeepTheirBounds : Obligations.QueuesKeepTheirBounds := by
  intro s t h e
  exact lineForm_iff.mp (step_lineForm h e)

end Sys2Proof.Machine
end

section
/-! ## What the receiver does with each signal, and what it makes of a telegram (10, R172 to R174, R80) -/

namespace Sys2Proof.Machine

variable {s : State} {l : HallLine} {op : State → State} {t : Telegram} {k : Nat} {x : LineSignal} {r : LineReading}
  {got : List Byte} {b y z : Byte}

/-! ### The settling after a change of the line (R80) -/

/-- The settling reads nothing of the line, and the beacon tells BUSY and LINE_POOR of it. -/
theorem settle_setLine (h : Settled s) (hb : l.busy = s.line.busy) (hp : l.poor = s.line.poor) :
    settle s (s.setLine l) = s.setLine l :=
  settle_listenLine (x := s.listen) h rfl rfl hb hp

theorem settle_setLine_beacon (h : Settled s) (l : HallLine) :
    settle s (s.setLine l) = beaconJudge s (s.setLine l) :=
  settle_quiet h ⟨rfl, rfl, rfl, rfl, rfl, rfl, rfl, rfl, rfl, rfl, rfl, rfl, rfl, rfl, rfl, rfl, rfl⟩

theorem finish_setLine (h : Settled s) (hop : op s = s.setLine l) (hb : l.busy = s.line.busy)
    (hp : l.poor = s.line.poor) : finish op s = .next (s.setLine l) := by
  unfold finish
  rw [hop, settle_setLine h hb hp]

/-! ### One signal (R172) -/

/-- A signal that completes no telegram leaves its reading and its count. -/
theorem receive_signal {d : Bool} (hr : s.start.receiver = true) (hx : readSignal s.line.reading x = ⟨r, d, none⟩) :
    receive [x] s = s.setLine
      { s.line with
        reading := r, count := if d then s.line.count + 1 else s.line.count, idle := idleAfter x s } := by
  unfold receive
  rw [if_pos hr]
  simp only [receiveAll, receiveOne, hear, hx]

theorem readSignal_early (hg : got ≠ []) :
    readSignal (.receiving got) (.char true b) = ⟨.receiving [b], true, none⟩ := by
  simp [readSignal, readMarked, hg]

/-- The fourth character gives a body length above 24 (R169, R172). -/
theorem readSignal_tooLong (hg : got.length = 3) (hb : 24 < b.toNat) :
    readSignal (.receiving got) (.char false b) = ⟨.skipping, true, none⟩ := by
  obtain ⟨c, o, d, rfl⟩ := List.length_eq_three.mp hg
  simp only [readSignal, readUnmarked, readByte, List.isEmpty_cons, List.cons_append, List.nil_append, if_pos hb]
  rfl

/-- A telegram is its head, its body and two characters of check (R169). -/
theorem frameOf_head (t : Telegram) : (frameOf t).take (t.body.length + 4) =
    t.kind :: t.origin :: t.dest :: byteOf t.body.length :: t.body := by
  have hframe : frameOf t = (t.kind :: t.origin :: t.dest :: byteOf t.body.length :: t.body) ++
      beBytes 2 (crc ([t.kind, t.origin, t.dest, byteOf t.body.length] ++ t.body)).toNat := rfl
  rw [hframe, List.take_left' (by simp)]

/-- The last character of a telegram whose check is not the one of what stands before it (R172). -/
theorem readSignal_wrongCheck (hb : t.body.length ≤ 24)
    (hg : got ++ [z] = (frameOf t).take (t.body.length + 4) ++ [y, z]) (hne : got ++ [z] ≠ frameOf t) :
    readSignal (.receiving got) (.char false z) = ⟨.idle, true, none⟩ := by
  have hlength : (byteOf t.body.length).toNat = t.body.length := by
    simp only [byteOf, BitVec.toNat_ofNat]
    omega
  rw [frameOf_head] at hg
  have hgot : got = t.kind :: t.origin :: t.dest :: byteOf t.body.length :: (t.body ++ [y]) := by
    refine List.append_cancel_right (bs := [z]) (hg.trans ?_)
    simp
  have hfull : got ++ [z] = t.kind :: t.origin :: t.dest :: byteOf t.body.length :: (t.body ++ [y, z]) := hg
  have hread : readByte got z = ⟨.idle, true, none⟩ := by
    unfold readByte
    rw [hfull] at hne ⊢
    cases hrest : t.body ++ [y, z] with
    | nil => simp at hrest
    | cons c cs =>
      have hlen : (c :: cs).length = t.body.length + 2 := by rw [← hrest]; simp
      have htake : (c :: cs).take t.body.length = t.body := by rw [← hrest]; simp
      rw [hrest] at hne
      simp only [hlength, htake]
      rw [if_neg (by omega), if_neg fun h => hne h.symm]
  simp only [readSignal, readUnmarked]
  rw [if_neg (by rw [hgot]; nofun)]
  exact hread

/-! ### A telegram passed over (R178) -/

/-- Characters without a marker are skipped while no telegram is begun. -/
theorem receiveAll_skipped (bs : List Byte) (hr : s.line.reading = .skipping) (hi : s.line.idle = .notYet) :
    receiveAll (bs.map (.char false)) s = s := by
  induction bs with
  | nil => rfl
  | cons b rest ih =>
    have hheard : receiveOne (.char false b) s = s := by
      have hread : readSignal s.line.reading (.char false b) = ⟨.skipping, false, none⟩ := by rw [hr]; rfl
      simp only [receiveOne, hear, hread, idleAfter, ← hr, ← hi]
      rfl
    rw [List.map_cons, receiveAll, hheard]
    exact ih

/-- Of a winner's telegram that a warm reset has discarded the first, marked character is skipped too. -/
theorem receive_passedOver (hr : s.start.receiver = true) (hp : s.line.reading = .passing) (t : Telegram) :
    receive (signalsFrom 0 t) s = s.setLine { s.line with reading := .skipping, idle := .notYet } := by
  have hfirst : receiveOne (.char true t.kind) s =
      s.setLine { s.line with reading := .skipping, idle := .notYet } := by
    have hread : readSignal s.line.reading (.char true t.kind) = ⟨.skipping, false, none⟩ := by rw [hp]; rfl
    simp only [receiveOne, hear, hread]
    rfl
  have hsignals : signalsFrom 0 t = .char true t.kind :: ((frameOf t).drop 1).map (.char false) := rfl
  unfold receive
  rw [if_pos hr, hsignals, receiveAll, hfirst]
  exact receiveAll_skipped _ rfl rfl

/-! ### A telegram that is in (R173, R174) -/

/-- A request is none of the other kinds. -/
theorem handTo_request (hk : requestKinds.contains t.kind = true) : handTo t s = takeRequest t s := by
  have hother (c : Byte) (hc : requestKinds.contains c = false) : t.kind ≠ c := by
    rintro rfl
    exact absurd (hk.symm.trans hc) nofun
  unfold handTo
  rw [if_neg (hother _ rfl), if_neg (hother _ rfl), if_neg (hother _ rfl), if_neg (hother _ rfl), if_neg (hother _ rfl)]

/-- A request that passes is taken into the request queue, or discarded and counted (R174). -/
theorem receive_request (h : Received t.kind t k s) (hk : requestKinds.contains t.kind = true) :
    receive (signalsFrom k t) s = settle s (takeRequest t (telegramIn s)) := by
  have hall : allKinds.contains t.kind = true := by
    unfold allKinds
    simp only [List.contains_eq_mem, decide_eq_true_eq, List.mem_append] at hk ⊢
    exact .inr hk
  rw [receive_arrives h.1, deliver_received h hall, handTo_request hk]

/-- A telegram that is disregarded is in, and the receiver waits for the next (R172, R173). -/
theorem receive_disregarded (hs : Settled s) (h : Arrives t k s) (hd : deliver t (telegramIn s) = telegramIn s) :
    receive (signalsFrom k t) s = telegramIn s := by
  rw [receive_arrives h, hd]
  exact settle_setLine hs rfl rfl

theorem deliver_answer (hk : t.kind = kindAnswer) (ho : t.origin.toNat ≤ 31) : deliver t s = s := by
  unfold deliver
  rw [if_neg (by rw [hk]; simp only [decide_eq_false (Nat.not_lt.mpr ho)]; decide)]
  split
  · unfold handTo
    rw [hk]
    rfl
  · rfl

theorem deliver_filtered (hk : isUnknown t = false) (hp : passesFilter s t = false) : deliver t s = s := by
  unfold isUnknown at hk
  unfold deliver
  rw [if_neg (Bool.eq_false_iff.mp hk), if_neg (Bool.eq_false_iff.mp hp)]

/-- Settles O12: signal by signal what the receiver reads of it, and for a telegram that is in what it is delivered
to. -/
theorem requestsJoinAndOthersAreDisregarded : Obligations.RequestsJoinAndOthersAreDisregarded := by
  intro s t k got b x y hs
  refine ⟨fun h hk => ⟨fun hroom => ?_, fun hfull => ?_⟩, fun h hu => ?_, fun h hk ho => ?_, fun h hu hp => ?_,
    fun hr hg => ?_, fun hr hnone => ?_, fun hr hp => congrArg _ (receive_passedOver hr hp t), fun hr => ?_⟩
  · have htaken : takeRequest t (telegramIn s) = _ := if_pos hroom
    refine (congrArg Host.Outcome.next (receive_request h hk)).trans ?_
    rw [htaken]
    exact congrArg _ (settle_setLine_beacon hs _)
  · have hcounted : takeRequest t (telegramIn s) = countTrouble (telegramIn s) := if_neg (Nat.not_lt.mpr hfull)
    refine (congrArg Host.Outcome.next (receive_request h hk)).trans ?_
    rw [hcounted]
    exact congrArg _ (settle_setLine hs rfl rfl)
  · have hcounted : deliver t (telegramIn s) = countTrouble (telegramIn s) := if_pos hu
    refine (congrArg Host.Outcome.next (receive_arrives h)).trans ?_
    rw [hcounted]
    exact congrArg _ (settle_setLine hs rfl rfl)
  · exact congrArg _ (receive_disregarded hs h (deliver_answer hk ho))
  · exact congrArg _ (receive_disregarded hs h (deliver_filtered (s := telegramIn s) hu hp))
  · have hread {v : LineSignal} {r : LineReading} (hv : readSignal (.receiving got) v = ⟨r, true, none⟩) :
        exec (.receiveError [v]) s = .next
          (s.setLine { s.line with count := s.line.count + 1, idle := idleAfter v s, reading := r }) :=
      congrArg Host.Outcome.next (receive_signal hr (hg ▸ hv))
    exact ⟨hread rfl, hread rfl, hread rfl, fun hne => hread (readSignal_early hne),
      fun hlen hlong => hread (readSignal_tooLong hlen hlong),
      fun hlen hlast hne => hread (readSignal_wrongCheck hlen hlast hne)⟩
  · have hread {v : LineSignal} {r : LineReading} (hv : readSignal s.line.reading v = ⟨r, false, none⟩) :
        exec (.receiveError [v]) s = .next (s.setLine { s.line with reading := r, idle := idleAfter v s }) :=
      congrArg Host.Outcome.next (receive_signal hr hv)
    rcases hnone with hi | hi <;> exact ⟨hread (by rw [hi]; rfl), hread (by rw [hi]; rfl)⟩
  · exact congrArg Host.Outcome.next (if_neg (by rw [hr]; nofun))

end Sys2Proof.Machine
end

section
/-! ## The layout of telegrams and of the own beacon (10, 12.1, 12.2, R65, R169) -/

namespace Sys2Proof.Machine

variable {s : State} {n : Nat}

/-! ### Numbers in bytes (12) -/

theorem byteOf_toNat (h : n < 256) : (byteOf n).toNat = n := by
  rw [byteOf, BitVec.toNat_ofNat, Nat.mod_eq_of_lt h]

theorem byteOf_mod (n : Nat) : byteOf (n % 256) = byteOf n := by
  refine BitVec.eq_of_toNat_eq ?_
  simp only [byteOf, BitVec.toNat_ofNat]
  omega

/-- Two bytes are the quotient and the remainder by 256. -/
theorem beBytes_two (n : Nat) : beBytes 2 n = [byteOf (n / 256), byteOf (n % 256)] := by
  rw [byteOf_mod]
  simp [beBytes, byteOf]

theorem beNat_two (h : n < 65536) : beNat [byteOf (n / 256), byteOf (n % 256)] = n := by
  simp only [beNat, List.foldl_cons, List.foldl_nil]
  rw [byteOf_toNat (by omega), byteOf_toNat (by omega)]
  omega

/-! ### Codes and flags (12.2) -/

theorem lampOf_code (l : LampState) : lampOf (byteOf (lampCode l)).toNat = some l := by
  rcases l with _ | _ | ⟨_ | _⟩ | _ | _ | _ | _ <;> rfl

theorem modeOf_code (m : Option OnCause) : modeOf (byteOf (modeCode m)).toNat = some m := by
  rcases m with _ | ⟨_ | _ | _ | _⟩ <;> rfl

theorem optInputCode_le (i : Option Input) : (byteOf (optInputCode i)).toNat ≤ 6 := by
  rcases i with _ | ⟨_ | _ | _ | _ | _ | _⟩ <;> decide

theorem inputOf_optCode (i : Option Input) : inputOf (byteOf (optInputCode i)).toNat = i := by
  cases i with
  | none => rfl
  | some i => exact inputOf_byteOf i

theorem scopesOf_code (x : Scopes) : scopesOf (byteOf (scopesCode x)) = x := by
  obtain ⟨a, b, c, d, e⟩ := x
  revert a b c d e
  decide

/-- The eight flags of the low byte stand in it bit by bit, and SERVICE in bit 0 of the high byte. -/
theorem flagsOf_code (x : BeaconFlags) :
    flagsOf (byteOf (flagsCode x / 256)) (byteOf (flagsCode x % 256)) = x := by
  obtain ⟨a, b, c, d, e, f, g, h, i⟩ := x
  revert a b c d e f g h i
  decide

/-! ### The wear of the beacon (R32) -/

theorem reportedHours_le (w : Wear) : reportedHours w ≤ 65535 := by unfold reportedHours; split <;> omega

/-- The hours as they are read back: 65,535 stand for wear UNKNOWN (R65). -/
theorem reportedHours_read (w : Wear) : (if reportedHours w = 65535 then none else some (reportedHours w)) =
    if w.valid = true ∧ w.accumulator / 360000 < 65535 then some (w.accumulator / 360000) else none := by
  unfold reportedHours wearHours
  cases w.valid with
  | false => rfl
  | true =>
    simp only [if_true, true_and]
    rcases Nat.lt_or_ge (w.accumulator / 360000) 65535 with hless | hmore
    · rw [Nat.min_eq_left hless.le, if_neg hless.ne, if_pos hless]
    · rw [Nat.min_eq_right hmore, if_pos rfl, if_neg (Nat.not_lt.mpr hmore)]

/-! ### Telegrams (R169, 12.1) -/

theorem frameOf_bytes (t : Telegram) : frameOf t = [t.kind, t.origin, t.dest, byteOf t.body.length] ++ t.body ++
    [byteOf ((crc ([t.kind, t.origin, t.dest, byteOf t.body.length] ++ t.body)).toNat / 256),
      byteOf ((crc ([t.kind, t.origin, t.dest, byteOf t.body.length] ++ t.body)).toNat % 256)] := by
  rw [← beBytes_two]
  rfl

theorem beaconBody_bytes (s : State) : beaconBody s =
    [byteOf 1, byteOf s.settings.group, byteOf s.settings.circuit, byteOf s.settings.interval,
      byteOf (lampCode s.lamp.state), byteOf s.lamp.actual, byteOf s.group.p,
      byteOf (s.geometry.f / 256), byteOf (s.geometry.f % 256),
      byteOf (reportedHours s.wear / 256), byteOf (reportedHours s.wear % 256),
      byteOf (reportedBand s.wear / 256), byteOf (reportedBand s.wear % 256),
      byteOf (optInputCode s.source.shown), byteOf (modeCode s.group.mode), byteOf (scopesCode (lockSummary s.locks)),
      byteOf (flagsCode (ownFlags s) / 256), byteOf (flagsCode (ownFlags s) % 256)] := by
  unfold beaconBody
  simp only [beBytes_two]
  rfl

/-- The own beacon read back gives the own values (R65, 12.2). -/
theorem beaconOf_beaconBody (hs : SettingsSafe s.settings) (hlow : 256 ≤ s.geometry.f) (hhigh : s.geometry.f ≤ 1024)
    (hactual : s.lamp.actual ≤ 100) : beaconOf (beaconBody s) = some
      { kind := .projector, group := s.settings.group, circuit := s.settings.circuit, interval := s.settings.interval
        lamp := s.lamp.state, actual := s.lamp.actual, f := s.geometry.f
        hours := if s.wear.valid = true ∧ s.wear.accumulator / 360000 < 65535 then some (s.wear.accumulator / 360000)
          else none
        band := reportedBand s.wear, shown := s.source.shown, mode := s.group.mode, summary := lockSummary s.locks
        flags := ownFlags s } := by
  obtain ⟨hg1, hg15, hc1, hc7, -, -, -, -, hinterval, -⟩ := hs
  have hi8 : s.settings.interval ≤ 8 := by
    simp only [isInterval, Bool.or_eq_true, beq_iff_eq] at hinterval
    omega
  have hhours := reportedHours_le s.wear
  have hband : reportedBand s.wear ≤ 2621 := by unfold reportedBand; omega
  have hkind : kindOfStation (byteOf 1).toNat = some .projector := rfl
  have hshown := optInputCode_le s.source.shown
  rw [beaconBody_bytes, ← reportedHours_read]
  unfold beaconOf
  simp only [hkind, lampOf_code, modeOf_code, inputOf_optCode, scopesOf_code, flagsOf_code,
    beNat_two (show s.geometry.f < 65536 by omega), beNat_two (show reportedHours s.wear < 65536 by omega),
    beNat_two (show reportedBand s.wear < 65536 by omega), byteOf_toNat (show s.settings.group < 256 by omega),
    byteOf_toNat (show s.settings.circuit < 256 by omega), byteOf_toNat (show s.settings.interval < 256 by omega),
    byteOf_toNat (show s.lamp.actual < 256 by omega)]
  rw [if_pos]
  exact ⟨hg15, hc7, hinterval, hactual, hlow, hhigh, hband, hshown, fun h => by omega⟩

/-- P stands in the seventh byte of the own beacon (12.2). -/
theorem beaconBody_p (hp : s.group.p ≤ 100) : ((beaconBody s).getD 6 0).toNat = s.group.p := by
  rw [beaconBody_bytes]
  exact byteOf_toNat (by omega)

end Sys2Proof.Machine
end

section
/-! ## SENDING_ATTEMPT (10, R170, R171) -/

namespace Sys2Proof.Machine

variable {s : State} {idle : Nat} {before after : List QueueEntry} {e : QueueEntry} {d : Bool}

/-- The deferral as the end of the idle time gives it: the verdict that stands, or that of the telegram chosen now
(log 44). -/
def deferred (s : State) : Bool :=
  match s.line.idle, chosen s with
  | .over d, _ => d
  | .notYet, some (_, x, _) => x.attempts != 0
  | .notYet, none => false

theorem idleOver_eq (s : State) : idleOver s = .over (deferred s) := by
  unfold idleOver deferred
  rcases s.line.idle with _ | d
  · cases chosen s <;> rfl
  · rfl

/-- The line once it is read idle with its idle time over (R170, R172). -/
def idled (s : State) : HallLine :=
  { s.line with
    reading := .idle, count := if inHand s.line.reading = true then s.line.count + 1 else s.line.count
    idle := .over (deferred s) }

/-- For how long the line must have been recessive, with the deferral if it applies (R170). -/
def neededBy (s : State) : Nat := if deferred s = true then idleTime s + deferral s else idleTime s

theorem hear_lineIdle (s : State) : hear .lineIdle s = s.setLine (idled s) := by
  unfold hear idled
  simp only [readSignal, idleAfter, idleOver_eq]
  rfl

theorem beginSending_early (h : idle < idleTime s) : beginSending idle s = s := by
  refine if_neg ?_
  rw [decide_eq_false (Nat.not_le.mpr h), Bool.and_false]
  nofun

/-- On a line that has been idle for long enough, what is chosen is sent once the deferral is over. -/
theorem beginSending_idle (hr : s.start.receiver = true) (ha : s.line.attempt = none) (h : idleTime s ≤ idle) :
    beginSending idle s =
      match chosen s with
      | some (before, e, after) =>
        if neededBy s ≤ idle then
          s.setLine
            { idled s with
              queue := before ++ { e with attempts := e.attempts + 1, sending := true } :: after
              attempt := some ⟨frameOf (telegramOf e.payload s), false⟩, idle := .notYet }
        else s.setLine (idled s)
      | none => s.setLine (idled s) := by
  have hready : (s.start.receiver && s.line.attempt.isNone && decide (idleTime s ≤ idle)) = true := by
    rw [hr, ha, decide_eq_true h]
    rfl
  have hchosen : chosen (s.setLine (idled s)) = chosen s := rfl
  have hneeded : neededIdle (s.setLine (idled s)) = neededBy s := rfl
  have htelegram (p : Payload) : telegramOf p (s.setLine (idled s)) = telegramOf p s := by cases p <;> rfl
  unfold beginSending
  rw [if_pos hready, hear_lineIdle]
  simp only [hchosen, hneeded, htelegram]
  rfl

/-- With nothing to send, or the deferral still running, the line is read idle and nothing more. -/
theorem beginSending_waits (hr : s.start.receiver = true) (ha : s.line.attempt = none) (h : idleTime s ≤ idle)
    (hw : chosen s = none ∨ idle < neededBy s) : beginSending idle s = s.setLine (idled s) := by
  rw [beginSending_idle hr ha h]
  rcases hw with hnone | hshort
  · rw [hnone]
  · split
    · exact if_neg (Nat.not_le.mpr hshort)
    · rfl

theorem idleTime_le_neededBy (s : State) : idleTime s ≤ neededBy s := by
  unfold neededBy
  split
  · exact Nat.le_add_right _ _
  · exact le_rfl

/-- The telegram chosen goes once the line has been recessive for long enough (R170, R171). -/
theorem beginSending_sends (hr : s.start.receiver = true) (ha : s.line.attempt = none) (h : neededBy s ≤ idle)
    (hc : chosen s = some (before, e, after)) :
    beginSending idle s = s.setLine
      { idled s with
        queue := before ++ { e with attempts := e.attempts + 1, sending := true } :: after
        attempt := some ⟨frameOf (telegramOf e.payload s), false⟩, idle := .notYet } := by
  rw [beginSending_idle hr ha ((idleTime_le_neededBy s).trans h), hc]
  exact if_pos h

/-- Settles O9: the idle time gives the verdict on the deferral, what is chosen is the first of its class, and the
layout of each telegram is the one of 12. -/
theorem sendingTakesTheFirstOfItsClass : Obligations.SendingTakesTheFirstOfItsClass := by
  intro s idle before after e p n k body
  have hbit : idleTime s = 12 * match s.straps.rate with
      | .kbit31 => 32
      | .kbit62 => 16
      | .kbit125 => 8 := by unfold idleTime; cases s.straps.rate <;> rfl
  have hdeferral : deferral s = 11 * (match s.straps.rate with
      | .kbit31 => 32
      | .kbit62 => 16
      | .kbit125 => 8) * (1 + s.straps.number % 8) := by unfold deferral; cases s.straps.rate <;> rfl
  have hneeded : neededBy s = if deferred s = true then idleTime s + deferral s else idleTime s := rfl
  rw [hdeferral, hbit] at hneeded
  refine ⟨fun hs hearly => ?_, fun _ hr => ?_, fun hs hr ha hidle hwait => ?_,
    fun hs hr ha hchosen => ⟨fun hover => ?_, ?_⟩, frameOf_bytes _, rfl, rfl, rfl, rfl, rfl, rfl,
    fun hset hlow hhigh hactual hp => ⟨beaconOf_beaconBody hset hlow hhigh hactual, beaconBody_p hp⟩⟩
  · exact finish_unchanged hs (beginSending_early (hearly.trans_eq hbit.symm))
  · exact congrArg Host.Outcome.next ((if_pos hr).trans (hear_lineIdle s))
  · have hwaits := beginSending_waits hr ha (hbit.trans_le hidle)
      (hwait.imp_right fun hshort => hshort.trans_eq hneeded.symm)
    exact finish_setLine hs hwaits rfl rfl
  · exact finish_setLine hs (beginSending_sends hr ha (hneeded.trans_le hover) hchosen) rfl rfl
  · obtain ⟨hqueue, heligible, hfirst, hcoordination⟩ := chosen_first hchosen
    exact ⟨hqueue, heligible, hfirst, hcoordination⟩

end Sys2Proof.Machine
end

section
/-! ## How a sending attempt ends (10, R170, R82, R90) -/

namespace Sys2Proof.Machine

variable {s u : State} {l : HallLine} {a : Attempt} {e : QueueEntry} {xs : List ClaimEntry}

/-! ### An attempt that is closed -/

/-- The line as an attempt leaves it: what was driven is in its trace, and the receiver reads on. -/
def closed (out : List LineOutput) (reading : LineReading) (l : HallLine) : HallLine :=
  { l with attempt := none, driven := l.driven ++ out, reading := reading, idle := .notYet }

/-- The line after a line fault: the attempt is closed and the fault counted (R170). -/
def faulted (a : Attempt) (l : HallLine) : HallLine :=
  { closed [.lost a.frame, .lineBreak] .idle l with count := l.count + 1 }

theorem lineLost_orphan (ha : s.line.attempt = some a) (ho : a.orphan = true) :
    lineLost s = s.setLine (closed [.lost a.frame] (.receiving []) s.line) := by
  unfold lineLost
  rw [ha]
  exact if_pos ho

theorem lineFaulted_orphan (ha : s.line.attempt = some a) (ho : a.orphan = true) :
    lineFaulted s = s.setLine (faulted a s.line) := by
  unfold lineFaulted
  rw [ha]
  exact if_pos ho

theorem sentComplete_orphan (ha : s.line.attempt = some a) (ho : a.orphan = true) :
    sentComplete s = s.setLine (closed [.sent a.frame] .idle s.line) := by
  unfold sentComplete
  rw [ha]
  exact if_pos ho

theorem lineLost_eq (ha : s.line.attempt = some a) (ho : a.orphan = false) :
    lineLost s = attemptFailed (s.setLine (closed [.lost a.frame] (.receiving []) s.line)) := by
  unfold lineLost
  rw [ha]
  exact if_neg (Bool.eq_false_iff.mp ho)

theorem lineFaulted_eq (ha : s.line.attempt = some a) (ho : a.orphan = false) :
    lineFaulted s = attemptFailed (s.setLine (faulted a s.line)) := by
  unfold lineFaulted
  rw [ha]
  exact if_neg (Bool.eq_false_iff.mp ho)

/-- The telegram being sent is out of the queue. -/
def left (l : HallLine) : HallLine := { l with queue := notSending l.queue }

/-- The owner of a telegram sent complete is told (R170). -/
theorem sentComplete_eq (ha : s.line.attempt = some a) (ho : a.orphan = false)
    (he : inSending s.line.queue = some e) :
    sentComplete s = ownerEcho e.payload (s.setLine (left (closed [.sent a.frame] .idle s.line))) := by
  unfold sentComplete
  rw [ha]
  refine (if_neg (Bool.eq_false_iff.mp ho)).trans ?_
  have hsent : inSending (closeAttempt [.sent a.frame] .idle s).line.queue = some e := he
  rw [hsent]
  rfl

/-! ### An attempt that has failed -/

/-- Below its 16th attempt the telegram stays (R170). -/
theorem attemptFailed_stays (he : inSending s.line.queue = some e) (hw : e.withdrawn = false) (hn : e.attempts < 16) :
    attemptFailed s = s.setLine
      { s.line with
        queue := s.line.queue.map fun x => { x with sending := false }
        dueAgain := if isBeacon e.payload then false else s.line.dueAgain } := by
  unfold attemptFailed
  rw [he]
  exact (if_neg (Bool.eq_false_iff.mp hw)).trans (if_neg (Nat.not_le.mpr hn))

/-- After its 16th it is dropped (R170). -/
theorem attemptFailed_drops (he : inSending s.line.queue = some e) (hw : e.withdrawn = false) (hn : 16 ≤ e.attempts) :
    attemptFailed s = ownerDrop e.payload (s.setLine (left s.line)) := by
  unfold attemptFailed
  rw [he]
  exact (if_neg (Bool.eq_false_iff.mp hw)).trans (if_pos hn)

/-- The owner of a CLAIM, a RELEASE, a request or an ANSWER that starts no restart does nothing at its drop. -/
theorem ownerDrop_claim_or_leaves {p : Payload} (h : p = .claim ∨ leavesOnly p = true) :
    ownerDrop p s = reserveForHead s := by
  rcases p with _ | _ | _ | _ | ⟨n, body, _ | _⟩ <;> simp_all [leavesOnly, ownerDrop]

/-- The owner of a RELEASE, a request or an ANSWER that starts no restart does nothing at its echo. -/
theorem ownerEcho_leaves {p : Payload} (h : leavesOnly p = true) : ownerEcho p s = reserveForHead s := by
  rcases p with _ | _ | _ | _ | ⟨n, body, _ | _⟩ <;> simp_all [leavesOnly, ownerEcho]

/-- A telegram that is withdrawn, or dropped with nothing to do for its owner, leaves the queue alone. -/
theorem attemptFailed_leaves (he : inSending s.line.queue = some e)
    (h : e.withdrawn = true ∨ 16 ≤ e.attempts ∧ (e.payload = .claim ∨ leavesOnly e.payload = true)) :
    attemptFailed s = reserveForHead (s.setLine (left s.line)) := by
  cases hw : e.withdrawn with
  | true =>
    unfold attemptFailed
    rw [he]
    exact if_pos hw
  | false =>
    obtain ⟨hn, hpayload⟩ := h.resolve_left (by rw [hw]; nofun)
    rw [attemptFailed_drops he hw hn, ownerDrop_claim_or_leaves hpayload]

/-! ### What an attempt's end leaves settled -/

/-- `l` is the line of `s` once its attempt has ended, the queue as it was. -/
structure AttemptClosed (s : State) (l : HallLine) : Prop where
  queue : l.queue = s.line.queue
  dueAgain : l.dueAgain = s.line.dueAgain
  busy : l.busy = s.line.busy
  poor : l.poor = s.line.poor
  attempt : l.attempt = none

theorem closed_attemptClosed (s : State) (out : List LineOutput) (reading : LineReading) :
    AttemptClosed s (closed out reading s.line) := ⟨rfl, rfl, rfl, rfl, rfl⟩

theorem faulted_attemptClosed (s : State) (a : Attempt) : AttemptClosed s (faulted a s.line) :=
  ⟨rfl, rfl, rfl, rfl, rfl⟩

/-- The entry reserved for a waiting head is all that a telegram which leaves the queue has besides (R175). -/
theorem reserveForHead_setLine (s : State) (l : HallLine) : ∃ reserved headReserved,
    reserveForHead (s.setLine l) = s.setLine { l with reserved := reserved, headReserved := headReserved } := by
  unfold reserveForHead
  (repeat' split) <;> exact ⟨_, _, rfl⟩

/-- A telegram that leaves the queue leaves nothing to settle. -/
theorem settle_left (h : Settled s) (c : AttemptClosed s l) : ∃ reserved headReserved,
    settle s (reserveForHead (s.setLine (left l))) =
      s.setLine { left l with reserved := reserved, headReserved := headReserved } := by
  obtain ⟨reserved, headReserved, hreserve⟩ := reserveForHead_setLine s (left l)
  exact ⟨reserved, headReserved, by rw [hreserve]; exact settle_setLine h c.busy c.poor⟩

/-! ### The own beacon is out (R79, R81, R82) -/

/-- The beacon slot once the own beacon is out (R82, log 16). -/
def slotAfter (l : HallLine) : HallLine := if l.dueAgain = true then beaconDue { l with dueAgain := false } else l

theorem slotAfter_eq (l : HallLine) :
    slotAfter l = { l with queue := (slotAfter l).queue, dueAgain := (slotAfter l).dueAgain } := by
  unfold slotAfter
  split
  · rw [beaconDue_slot]
    split <;> rfl
  · rfl

theorem left_unsent (l : HallLine) : ((left l).queue.any fun e => isBeacon e.payload && e.sending) = false := by
  refine List.any_eq_false.mpr fun x hx => ?_
  rw [(mem_notSending.mp hx).2, Bool.and_false]
  nofun

/-- With none being sent, a beacon that falls due stands in its slot. -/
theorem slotAfter_left_due (h : l.dueAgain = true) : (slotAfter (left l)).dueAgain = false ∧
    ((slotAfter (left l)).queue.any fun e => isBeacon e.payload && !e.sending) = true := by
  have hdue : slotAfter (left l) = beaconDue { left l with dueAgain := false } := if_pos h
  rw [hdue, beaconDue_slot]
  split
  · next hany =>
    refine ⟨left_unsent l, ?_⟩
    obtain ⟨x, hx, hbeacon⟩ := List.any_eq_true.mp hany
    refine List.any_eq_true.mpr ⟨x, hx, ?_⟩
    rw [hbeacon, (mem_notSending.mp hx).2]
    rfl
  · refine ⟨rfl, ?_⟩
    simp [newEntry, isBeacon]

theorem slotAfter_left_none (h : l.dueAgain = false) : slotAfter (left l) = left l :=
  if_neg (Bool.eq_false_iff.mp h)

/-- The listening conditions once the own beacon is out: its timer and its spacing have started. -/
def beaconOutListen (s : State) : Listen :=
  { s.listen with
    beacon := some (s.settings.interval * 1000 - (Config.beaconSpread s.listen.draws).val)
    draws := s.listen.draws + 1, spacing := some 250 }

theorem beaconEnded_setLine (s : State) (l : HallLine) :
    beaconEnded (s.setLine l) = (s.setListen (beaconOutListen s)).setLine (slotAfter l) := by
  by_cases hd : l.dueAgain = true
  · rw [show slotAfter l = beaconDue { l with dueAgain := false } from if_pos hd]
    exact if_pos hd
  · rw [show slotAfter l = l from if_neg hd]
    exact if_neg hd

theorem beaconOutListen_timer (s : State) : ∃ b ∈ (beaconOutListen s).beacon,
    s.settings.interval * 1000 ≤ b + 63 ∧ b ≤ s.settings.interval * 1000 := by
  have hspread := (Config.beaconSpread s.listen.draws).isLt
  exact ⟨_, rfl, by omega, by omega⟩

/-- The own beacon out leaves nothing to settle. -/
theorem settle_beaconEnded (h : Settled s) (c : AttemptClosed s l) :
    let u := settle s (beaconEnded (s.setLine (left l)))
    BeaconOut s u ∧ u.line = { l with queue := u.line.queue, dueAgain := u.line.dueAgain } := by
  have hslot := slotAfter_eq (left l)
  have hsettled : settle s (beaconEnded (s.setLine (left l))) =
      (s.setListen (beaconOutListen s)).setLine (slotAfter (left l)) := by
    rw [beaconEnded_setLine]
    exact settle_listenLine h rfl rfl (by rw [hslot]; exact c.busy) (by rw [hslot]; exact c.poor)
  have hagain : (slotAfter (left l)).dueAgain = false := by
    cases hd : l.dueAgain with
    | true => exact (slotAfter_left_due hd).1
    | false => rw [slotAfter_left_none hd]; exact hd
  intro u
  have hu : u = _ := hsettled
  rw [hu]
  refine ⟨⟨rfl, rfl, rfl, beaconOutListen_timer s, ?_, hagain, fun hd => ?_, fun hd => ?_, rfl, rfl, rfl, rfl⟩, hslot⟩
  · rw [State.setLine_line, hslot]
    exact c.attempt
  · rw [State.setLine_line, slotAfter_left_none (c.dueAgain.trans hd)]
    exact congrArg notSending c.queue
  · exact (slotAfter_left_due (c.dueAgain.trans hd)).2

/-! ### An attempt that has failed, by what becomes of its telegram -/

/-- Below the 16th attempt the step is settled with the telegram in its place. -/
theorem settle_stays (h : Settled s) (c : AttemptClosed s l) (he : inSending s.line.queue = some e)
    (hw : e.withdrawn = false) (hn : e.attempts < 16) :
    settle s (attemptFailed (s.setLine l)) = s.setLine
      { l with
        queue := s.line.queue.map fun x => { x with sending := false }
        dueAgain := if isBeacon e.payload then false else s.line.dueAgain } := by
  rw [attemptFailed_stays (s := s.setLine l) (by rw [State.setLine_line, c.queue, he]) hw hn]
  simp only [State.setLine_line, c.queue, c.dueAgain]
  exact settle_setLine h c.busy c.poor

/-- A telegram withdrawn, or dropped with nothing to do for its owner, is out, and the rest is as it was. -/
theorem settle_leaves (h : Settled s) (c : AttemptClosed s l) (he : inSending s.line.queue = some e)
    (hleaves : e.withdrawn = true ∨ 16 ≤ e.attempts ∧ (e.payload = .claim ∨ leavesOnly e.payload = true)) :
    ∃ reserved headReserved, settle s (attemptFailed (s.setLine l)) =
      s.setLine { left l with reserved := reserved, headReserved := headReserved } := by
  rw [attemptFailed_leaves (s := s.setLine l) (by rw [State.setLine_line, c.queue, he]) hleaves]
  exact settle_left h c

/-- A beacon dropped starts its timer and its spacing (R82). -/
theorem settle_beaconDropped (h : Settled s) (c : AttemptClosed s l) (he : inSending s.line.queue = some e)
    (hw : e.withdrawn = false) (hn : 16 ≤ e.attempts) (hb : e.payload = .beacon) :
    let u := settle s (attemptFailed (s.setLine l))
    BeaconOut s u ∧ u.line = { l with queue := u.line.queue, dueAgain := u.line.dueAgain } := by
  rw [attemptFailed_drops (s := s.setLine l) (by rw [State.setLine_line, c.queue, he]) hw hn, hb]
  exact settle_beaconEnded h c

theorem exec_loss (ha : s.line.attempt = some a) (ho : a.orphan = false) :
    exec .loss s = .next (settle s (attemptFailed (s.setLine (closed [.lost a.frame] (.receiving []) s.line)))) :=
  congrArg (fun u => Host.Outcome.next (settle s u)) (lineLost_eq ha ho)

theorem exec_lineFault (ha : s.line.attempt = some a) (ho : a.orphan = false) :
    exec .lineFault s = .next (settle s (attemptFailed (s.setLine (faulted a s.line)))) :=
  congrArg (fun u => Host.Outcome.next (settle s u)) (lineFaulted_eq ha ho)

/-- Settles O10: loss and line fault close the attempt each in its way, and what becomes of the telegram is the same. -/
theorem failedAttemptsKeepTheTelegram : Obligations.FailedAttemptsKeepTheTelegram := by
  intro s a e hs ha
  have hlost := closed_attemptClosed s [.lost a.frame] (.receiving [])
  have hfault := faulted_attemptClosed s a
  refine ⟨fun ho => ⟨finish_setLine hs (lineLost_orphan ha ho) rfl rfl,
    finish_setLine hs (lineFaulted_orphan ha ho) rfl rfl⟩, fun ho he => ?_⟩
  rw [exec_loss ha ho, exec_lineFault ha ho]
  refine ⟨fun hw hn => ⟨congrArg _ (settle_stays hs hlost he hw hn), congrArg _ (settle_stays hs hfault he hw hn)⟩,
    fun hleaves => ⟨?_, ?_⟩, fun hw hn hb => ⟨?_, ?_⟩⟩
  · obtain ⟨_, _, hsettled⟩ := settle_leaves hs hlost he hleaves
    exact ⟨_, congrArg _ hsettled, rfl, rfl, rfl, rfl, rfl, rfl, rfl, rfl, rfl⟩
  · obtain ⟨_, _, hsettled⟩ := settle_leaves hs hfault he hleaves
    exact ⟨_, congrArg _ hsettled, rfl, rfl, rfl, rfl, rfl, rfl, rfl, rfl⟩
  · obtain ⟨hout, hline⟩ := settle_beaconDropped hs hlost he hw hn hb
    exact ⟨_, rfl, hout, (congrArg HallLine.reading hline :), (congrArg HallLine.count hline :)⟩
  · obtain ⟨hout, hline⟩ := settle_beaconDropped hs hfault he hw hn hb
    exact ⟨_, rfl, hout, (congrArg HallLine.count hline :)⟩

/-! ### An own telegram sent complete (R170, R90) -/

/-- The own CLAIM sent complete puts the own claim at the end of the list while the lamp claims (R90). -/
def claimsAfterEcho (s : State) : List ClaimEntry :=
  if claiming s.lamp.state = true ∧ ownClaimed s = false then s.claims ++ [⟨s.straps.number, none⟩] else s.claims

theorem ownClaimEcho_eq (s : State) : ownClaimEcho s = s.setClaims (claimsAfterEcho s) := by
  unfold ownClaimEcho claimsAfterEcho
  cases hl : s.lamp.state <;> cases hc : ownClaimed s <;> simp [claiming]

theorem beaconCauses_setLine (hb : l.busy = s.line.busy) (hp : l.poor = s.line.poor) :
    beaconCauses (s.setLine l) = beaconCauses s := by
  have hflags : ownFlags (s.setLine l) = ownFlags s := by
    unfold ownFlags
    rw [State.setLine_line, hb, hp]
    rfl
  unfold beaconCauses
  rw [hflags]
  rfl

/-- The settling tells no step apart by the line before it but by BUSY and LINE_POOR. -/
theorem settle_from_setLine (hb : l.busy = s.line.busy) (hp : l.poor = s.line.poor) (u : State) :
    settle s u = settle (s.setLine l) u :=
  settle_before (b := s) (c := s.setLine l) rfl (beaconCauses_setLine hb hp).symm u

theorem Settled.setLine (h : Settled s) (l : HallLine) : Settled (s.setLine l) :=
  h.quiet ⟨rfl, rfl, rfl, rfl, rfl, rfl, rfl, rfl, rfl, rfl, rfl, rfl, rfl, rfl, rfl, rfl, rfl⟩

theorem beaconJudge_line (b s : State) :
    (beaconJudge b s).line = s.line ∨ (beaconJudge b s).line = beaconDue s.line := by
  unfold beaconJudge
  split
  · exact .inl rfl
  · exact .inr rfl

/-- The settling by which a lamp in WAITING strikes makes at most a beacon due on the line. -/
theorem settle_strikes_line (h : Settled s) (r : SameSide s u) (hmay : mayStrike u) :
    (settle s u).line = u.line ∨ (settle s u).line = beaconDue u.line := by
  have hstate : u.lamp.state = .waiting := hmay.1
  have hstart : startTest u = u := startTest_fixed.mpr (by rw [hstate]; nofun)
  obtain ⟨wear, hlife⟩ : ∃ wear, lifeJudge (beginAttempt u) = (beginAttempt u).setWear wear :=
    ⟨_, lifeJudge_litSide rfl⟩
  set v := judgeGroup ((beginAttempt u).setWear wear) with hv
  have hwithdraw : withdrawTest s v = v :=
    withdrawTest_state (by rw [hv, judgeGroup_state]; exact ⟨nofun, nofun, nofun⟩)
  have hline : (idleJudge (fanStallJudge (retarget (judgeGroup v)))).line = u.line := by
    rw [retarget_eq, hv, judgeGroup_idem, judgeGroup_spec]
    rfl
  rw [settle_eq, firstJudgements, r.life h, hstart, strikeTest_mayStrike hmay, hlife, hwithdraw, ← hline]
  exact beaconJudge_line _ _

/-- Where the Claim List changed alone, the settling makes at most a beacon due on the line. -/
theorem settle_setClaims_line (h : Settled s) (xs : List ClaimEntry) :
    (settle s (s.setClaims xs)).line = s.line ∨ (settle s (s.setClaims xs)).line = beaconDue s.line := by
  by_cases hmay : mayStrike (s.setClaims xs)
  · exact settle_strikes_line h (setClaims_sameSide s xs) hmay
  · rw [settle_setClaims_rests h hmay]
    exact .inl rfl

theorem beaconDue_unsent (h : ∀ x ∈ l.queue, x.sending = false) : ∀ x ∈ (beaconDue l).queue, x.sending = false := by
  rw [beaconDue_slot]
  split
  · exact h
  · rw [List.forall_mem_append, List.forall_mem_singleton]
    exact ⟨h, rfl⟩

/-- The settling of a CLAIM sent complete, by the state as the line is when its telegram has left (R90, R92). -/
theorem settle_claimEcho (h : Settled s) (c : AttemptClosed s l) :
    let u := settle s (reserveForHead (ownClaimEcho (s.setLine (left l))))
    u.claims = claimsAfterEcho s ∧ (∀ x ∈ u.line.queue, x.sending = false) ∧ u.line.attempt = none ∧
      u.line.driven = l.driven ∧ u.locks = s.locks ∧ u.group = s.group ∧ u.listen = s.listen ∧ u.peers = s.peers := by
  obtain ⟨reserved, headReserved, hreserve⟩ :=
    reserveForHead_setLine (s.setClaims (claimsAfterEcho s)) (left l)
  have htold : ownClaimEcho (s.setLine (left l)) = (s.setClaims (claimsAfterEcho s)).setLine (left l) :=
    ownClaimEcho_eq _
  set v := s.setLine { left l with reserved := reserved, headReserved := headReserved } with hv
  have hsettled : settle s (reserveForHead (ownClaimEcho (s.setLine (left l)))) =
      settle v (v.setClaims (claimsAfterEcho s)) := by
    rw [htold, hreserve]
    exact settle_from_setLine c.busy c.poor _
  intro u
  have hu : u = settle v (v.setClaims (claimsAfterEcho s)) := hsettled
  have hvs : Settled v := h.setLine _
  obtain ⟨hclaims, houtside, hlocks, hgroup, -⟩ := settle_setClaims hvs (claimsAfterEcho s)
  have hline := settle_setClaims_line hvs (claimsAfterEcho s)
  rw [← hu] at hclaims houtside hlocks hgroup hline
  have hunsent : ∀ x ∈ v.line.queue, x.sending = false := fun x hx => (mem_notSending.mp hx).2
  refine ⟨hclaims, ?_, (congrArg (fun w => w.line.attempt) houtside :).trans c.attempt,
    (congrArg (fun w => w.line.driven) houtside :), hlocks, hgroup, (congrArg State.listen houtside :),
    (congrArg State.peers houtside :)⟩
  rcases hline with hsame | hdue
  · rw [hsame]
    exact hunsent
  · rw [hdue]
    exact beaconDue_unsent hunsent

/-- Settles O11: the attempt is closed, its telegram leaves the queue, and its owner is told. -/
theorem ownEchoTellsTheOwner : Obligations.OwnEchoTellsTheOwner := by
  intro s a e
  refine ⟨fun hs ha ho => finish_setLine hs (sentComplete_orphan ha ho) rfl rfl, fun hs ha ho he => ?_⟩
  have hclosed := closed_attemptClosed s [.sent a.frame] .idle
  have hecho : exec .ownEcho s =
      .next (settle s (ownerEcho e.payload (s.setLine (left (closed [.sent a.frame] .idle s.line))))) :=
    congrArg (fun u => Host.Outcome.next (settle s u)) (sentComplete_eq ha ho he)
  rw [hecho]
  refine ⟨fun hp => ?_, fun hp => ?_, fun hp => ?_⟩
  · rw [hp]
    exact ⟨_, rfl, settle_claimEcho hs hclosed⟩
  · rw [hp]
    obtain ⟨hout, hline⟩ := settle_beaconEnded hs hclosed
    exact ⟨_, rfl, hout, (congrArg HallLine.driven hline :)⟩
  · rw [ownerEcho_leaves hp]
    obtain ⟨_, _, hsettled⟩ := settle_left hs hclosed
    exact ⟨_, congrArg _ hsettled, rfl, rfl, rfl, rfl, rfl, rfl, rfl, rfl, rfl⟩

end Sys2Proof.Machine
end

section
/-! ## The Lamp Controller, the wear and the send queue over a warm reset (01, 02, 10, R28, R29, R178) -/

namespace Sys2Proof.Machine

variable {s u r : State} {p target : Nat} {stall : Timer}

/-! ### The lamp (R28) -/

/-- Over a warm reset the lamp acts as for a decision withdrawn, its attempts forgotten (R13, R28). -/
theorem resetLamp_eq (s : State) :
    resetLamp s = (unwanted s).setLamp { (unwanted s).lamp with relight := false, attempts := 0 } := by
  unfold resetLamp unwanted
  cases s.lamp.state <;> rfl

theorem resetLamp_group (s : State) : (resetLamp s).group = s.group := by
  rw [resetLamp_eq]
  exact unwanted_group s

theorem outside_resetLamp (s : State) : outside (resetLamp s) = outside s := by
  rw [resetLamp_eq, outside_setLamp]
  exact outside_unwanted s

theorem resetLamp_notCommitted (s : State) : committedState (resetLamp s).lamp.state = false := by
  rw [resetLamp_eq]
  exact unwanted_not_committed s

theorem resetLamp_relight (s : State) : (resetLamp s).lamp.relight = false := by rw [resetLamp_eq]; rfl

theorem resetLamp_claims (h : s.claims = []) : (resetLamp s).claims = [] := by
  rw [resetLamp_eq]
  exact List.subset_nil.mp (h ▸ unwanted_claims s)

/-- What a warm reset leaves of the lamp, but for the settling (R28). -/
theorem lampReset_resetLamp (s : State) : LampReset s (resetLamp s) := by
  unfold LampReset
  rw [resetLamp_eq]
  unfold unwanted
  cases hs : s.lamp.state with
  | waiting => exact ⟨rfl, rfl, rfl, rfl, rfl, rfl, fun _ => rfl, fun _ => rfl, nofun, fun _ => rfl, nofun,
      fun _ => ⟨rfl, rfl⟩⟩
  | striking | warming | lit =>
    simp [setRelight, extinguish_lamp, darkened, hs, claiming, litSide, burning, committedState]
  | dark | cooling | fault =>
    exact ⟨rfl, rfl, rfl, rfl, rfl, rfl, fun _ => rfl, nofun, nofun, nofun, fun _ => hs, fun _ => ⟨rfl, rfl⟩⟩

theorem resetLamp_heldP (s : State) : (resetLamp s).lamp.heldP = s.lamp.heldP := by
  obtain ⟨-, -, -, -, -, -, hheld, -⟩ := lampReset_resetLamp s
  exact hheld (congrArg Group.p (resetLamp_group s))

/-- The settling changes of the lamp the held P, the target and the fan stall timer alone. -/
theorem LampReset.judged (h : LampReset s r)
    (hlamp : u.lamp = { r.lamp with heldP := p, target := target, fanStall := stall })
    (hheld : u.group.p = s.group.p → p = s.lamp.heldP) : LampReset s u := by
  obtain ⟨hrelight, hattempts, hfaults, hcap, hwindow, htest, -, hrest⟩ := h
  unfold LampReset
  rw [hlamp]
  exact ⟨hrelight, hattempts, hfaults, hcap, hwindow, htest, hheld, hrest⟩

/-! ### The wear (R29, R36) -/

/-- The wear over a warm reset: a burning lamp's extinction ends its lit time and requests a write (R29, R36). -/
theorem resetLamp_wear (s : State) : (resetLamp s).wear =
    { s.wear with
      litTime := if burning s.lamp.state = true then 0 else s.wear.litTime
      write := (resetLamp s).wear.write
      writeAgain := (resetLamp s).wear.writeAgain
      outcome := (resetLamp s).wear.outcome } := by
  rw [resetLamp_eq]
  unfold unwanted
  cases hs : s.lamp.state with
  | striking | warming | lit => simpa [hs, setRelight] using extinguish_wear .cooling s
  | dark | waiting | cooling | fault => rfl

theorem resetLamp_wear_unburnt (h : burning s.lamp.state = false) : (resetLamp s).wear = s.wear := by
  rw [resetLamp_eq]
  unfold unwanted
  cases hs : s.lamp.state with
  | striking => simp only [setRelight, extinguish, hs, burning]; rfl
  | warming | lit => rw [hs] at h; cases h
  | dark | waiting | cooling | fault => rfl

/-! ### The send queue (R28, R178) -/

/-- Into an emptied send queue a claim is released (R5, R28). -/
theorem releaseClaim_emptied (hq : s.line.queue = []) (hr : s.line.reserved = 0) :
    (releaseClaim s).line = { s.line with queue := [newEntry .release] } := by
  change handOver .release (withdrawClaims s.line) = _
  unfold handOver withdrawClaims hasFree
  simp only [hq, hr]
  rfl

theorem resetLamp_line (hq : s.line.queue = []) (hr : s.line.reserved = 0) : (resetLamp s).line =
    { s.line with queue := if claiming s.lamp.state = true then [newEntry .release] else [] } := by
  have hempty : s.line = { s.line with queue := [] } := by rw [← hq]
  have hreleased := releaseClaim_emptied hq hr
  rw [resetLamp_eq]
  unfold unwanted
  cases hs : s.lamp.state with
  | waiting => exact hreleased
  | striking => simpa [extinguish, setRelight, hs, burning, claiming] using hreleased
  | warming | lit =>
    simpa [extinguish, setRelight, hs, burning, claiming, reportExtinction_line] using hempty
  | dark | cooling | fault => exact hempty

end Sys2Proof.Machine
end

section
/-! ## The engine, the selector and the schedule over a warm reset (03, 07, 09, R62, R139, R167) -/

namespace Sys2Proof.Machine

variable {s : State} {l : Lock} {g : Geometry} {n : Nat} {xs : List SourceEntry} {i : Input} {eff on : Option Slot}
  {link : List ScalerMessage}

/-! ### The Geometry Engine (R55, R62) -/

theorem resetEngine_still (g : Geometry) : sendingTable (resetEngine g) = false := by
  unfold resetEngine
  cases g.state <;> rfl

/-- The engine's warm reset forgets how far a table had gone (R62). -/
theorem resetEngine_gone (h : RecordsGone g n) (draws : Nat) :
    resetEngine { g with linesSent := n, linkDraws := draws } = resetEngine { g with linkDraws := draws } := by
  unfold resetEngine
  cases hg : g.state with
  | idle | computing | loading => rfl
  | swapWait =>
    have hn : n = g.linesSent := by
      unfold RecordsGone at h
      rwa [if_neg (by simp [sendingTable, hg])] at h
    rw [hn]

theorem resetEngine_draws (g : Geometry) : (resetEngine g).linkDraws = g.linkDraws := by
  unfold resetEngine
  cases g.state <;> rfl

/-- Records of a table being sent have gone by the time the engine is reset (R62, log 26). -/
theorem linkProgress_resetEngine (s : State) : ∃ n draws, RecordsGone s.geometry n ∧
    (linkProgress s).setGeometry (resetEngine (linkProgress s).geometry) =
      (s.setScalerLink (s.scalerLink ++ recordsBetween s.geometry s.geometry.linesSent n)).setGeometry
        (resetEngine { s.geometry with linkDraws := draws }) := by
  obtain ⟨n, hgone, hlink⟩ := linkProgress_eq s
  refine ⟨n, (linkProgress s).geometry.linkDraws, hgone, ?_⟩
  rw [← resetEngine_gone hgone]
  generalize (linkProgress s).geometry.linkDraws = draws at hlink
  rw [hlink]
  rfl

/-! ### The Source Selector (R124, R133, R138, R139) -/

/-- The input switched to after a warm reset: the top of the initial list, or else the source of a slot (R138, R167). -/
def restartInput (xs : List SourceEntry) (i : Option Input) : Option Input :=
  match xs with
  | e :: _ => some e.input
  | [] => i

/-- The selector after a warm reset, with the source of a slot in progress pushed on the initial list (R139, R167). -/
def restartSource (xs : List SourceEntry) (i : Option Input) : Source :=
  { Source.powerOn with
    list := match i with
      | some i => pushed i .schedule xs
      | none => xs
    shown := restartInput xs i
    state := if restartInput xs i = none then .noSignal else .switching
    switch := if restartInput xs i = none then none else some 1500 }

/-- A select command while no table is being sent (R131). -/
theorem sendSelect_still (h : sendingTable s.geometry = false) (i : Option Input) (o : Option Origin) :
    sendSelect i o s = s.setScalerLink (s.scalerLink ++ [.select i o]) := by
  unfold sendSelect
  rw [linkProgress_still h]
  rfl

theorem beginSwitch_still {e : SourceEntry} {rest : List SourceEntry} (h : sendingTable s.geometry = false)
    (hl : s.source.list = e :: rest) : beginSwitch (some e.input) s =
      (s.setSource
        { s.source with hold := none, shown := some e.input, switch := some 1500, state := .switching }).setScalerLink
        (s.scalerLink ++ [.select (some e.input) (some e.origin)]) := by
  have hfirst : (s.source.list.find? fun x => some x.input == some e.input) = some e := by simp [hl]
  unfold beginSwitch
  rw [hfirst]
  exact sendSelect_still (s := s.setSource
    { s.source with hold := none, shown := some e.input, switch := some 1500, state := .switching }) h _ _

theorem resetSelector_eq (h : sendingTable s.geometry = false) : resetSelector s =
    (s.setSource (restartSource s.settings.initialList none)).setScalerLink
      (s.scalerLink ++ resetSelects s.settings.initialList none) := by
  unfold resetSelector
  cases s.settings.initialList with
  | nil => exact sendSelect_still (s := s.setSource Source.powerOn) h none none
  | cons e rest => exact beginSwitch_still (s := s.setSource { Source.powerOn with list := e :: rest }) h rfl

/-- The top of the initial list is still listed once a source is pushed on it (R124). -/
theorem pushed_keeps_top (e : SourceEntry) (rest : List SourceEntry) (i : Input) (o : Origin) :
    ((pushed i o (e :: rest)).any fun x => x.input == e.input) = true := by
  unfold pushed
  by_cases hi : e.input = i
  · simp [hi]
  · simp [List.filter_cons_of_pos, hi]

/-- A source pushed at the restart: with an initial list the switch to its top goes on, and from an empty one a switch
to the source begins (R133, R167). -/
theorem push_restarted (h : sendingTable s.geometry = false) (hs : s.source = restartSource xs none)
    (hl : s.scalerLink = link ++ resetSelects xs none) (i : Input) : push i .schedule s =
      (s.setSource (restartSource xs (some i))).setScalerLink (link ++ resetSelects xs (some i)) := by
  obtain ⟨v, hv, hjudge, hswitch⟩ := push_eq i .schedule s
  rw [hs] at hv
  cases xs with
  | nil =>
    have hne : v.source.state ≠ .switching := by rw [hv]; nofun
    have hwanted : wantedInput v = some i := by rw [hv]; rfl
    have hshown : some i ≠ v.source.shown := by rw [hv]; nofun
    rw [hjudge hne, hwanted]
    refine (if_pos hshown).trans ?_
    refine (beginSwitch_still (e := ⟨i, .schedule⟩) (rest := []) (by rw [hv]; exact h) (by rw [hv]; rfl)).trans ?_
    rw [hv]
    simp only [State.setSource_scalerLink, hl, List.append_assoc]
    rfl
  | cons e rest =>
    have hst : v.source.state = .switching := by rw [hv]; rfl
    have hlist : (v.source.list.any fun x => x.input == e.input) = true := by
      rw [hv]
      exact pushed_keeps_top e rest i .schedule
    obtain ⟨-, hgoes⟩ := hswitch hst
    rw [hgoes e.input (by rw [hv]; rfl), if_pos hlist, hv]
    have hlink : link ++ resetSelects (e :: rest) (some i) = s.scalerLink := hl.symm
    rw [hlink]
    rfl

/-! ### The lamp and the locks at rest (R13, R143) -/

/-- The lamp has nothing to do where it becomes unwanted: it is neither committed nor to be lit again (R13). -/
def LampRests (s : State) : Prop := committedState s.lamp.state = false ∧ s.lamp.relight = false

theorem unwanted_rests (h : LampRests s) : unwanted s = s := by
  obtain ⟨hstate, hrelight⟩ := h
  unfold unwanted
  cases hs : s.lamp.state with
  | waiting | striking | warming | lit => rw [hs] at hstate; cases hstate
  | cooling => unfold setRelight; rw [← hrelight]; rfl
  | dark | fault => rfl

/-- A lock added over a lamp at rest changes the Lock Set alone: by a LAMP lock nothing is deselected, and by another
the mode, being OFF, has nothing elected (R143). -/
theorem addLock_rests (h : LampRests s) (hs : s.group.selection = .unselected) (hn : lockOf s.locks l.holder = none)
    (hm : l.scopes.lamp = true ∨ s.group.mode = none) : addLock l s = s.setLocks (s.locks ++ [l]) := by
  cases hl : l.scopes.lamp with
  | true =>
    have hrests : LampRests (s.setLocks (withoutHolder l.holder s.locks ++ [l])) := h
    rw [addLock_lamp hl hn, unwanted_rests hrests, withoutHolder_none hn]
    unfold clearSelection
    rw [State.setLocks_group, ← hs]
    rfl
  | false =>
    have hmode : s.group.mode = none := hm.resolve_left (by rw [hl]; nofun)
    have hmem : ¬s.locks.contains l = true := fun hc =>
      absurd (List.find?_eq_none.mp hn l (List.contains_iff_mem.mp hc)) (by simp)
    unfold addLock
    rw [if_neg hmem, withoutHolder_none hn]
    refine (if_neg (by rw [hl]; nofun)).trans ?_
    unfold lampUncovered electIfAvailable
    rw [State.setLocks_group, hmode]
    split <;> rfl

/-! ### The schedule (R102, R165, R167) -/

/-- What a warm reset has cleared when the schedule hands its slots again; `link` stood on the scaler link before the
select commands. -/
structure Cleared (link : List ScalerMessage) (s : State) : Prop where
  rests : LampRests s
  fresh : s.listen.fresh.isSome = true
  mode : s.group.mode = none
  level : s.group.slotLevel = none
  selection : s.group.selection = .unselected
  unlocked : lockOf s.locks .schedule = none
  still : sendingTable s.geometry = false
  source : s.source = restartSource s.settings.initialList none
  select : s.scalerLink = link ++ resetSelects s.settings.initialList none

/-- The SCHEDULE lock of an effective slot (R165). -/
def slotLocks (eff : Option Slot) : List Lock :=
  match lockWanted eff with
  | some sc => [⟨.schedule, sc, none⟩]
  | none => []

/-- The group with the slots of the schedule handed to it (R102, R109). -/
def slotGroup (eff on : Option Slot) (g : Group) : Group :=
  { g with slotLevel := slotLevelOf eff, mode := if on.isSome = true then some .schedule else none }

/-- The state with the slots handed again: lock, group, source list and select commands (R167). -/
def handedAgain (eff on : Option Slot) (link : List ScalerMessage) (s : State) : State :=
  (((s.setLocks (s.locks ++ slotLocks eff)).setGroup (slotGroup eff on s.group)).setSource
    (restartSource s.settings.initialList (slotSourceOf eff))).setScalerLink
    (link ++ resetSelects s.settings.initialList (slotSourceOf eff))

theorem lockAgain_eq (h : Cleared link s) : lockAgain eff s = s.setLocks (s.locks ++ slotLocks eff) := by
  unfold lockAgain slotLocks
  cases lockWanted eff with
  | none => rw [List.append_nil]; rfl
  | some sc => exact addLock_rests h.rests h.selection h.unlocked (.inr h.mode)

/-- An effective slot entered with the mode OFF: a CLOSED one has nothing to turn OFF (R165). -/
theorem enterAgain_eq (h : Cleared link s) : enterAgain eff (s.setLocks (s.locks ++ slotLocks eff)) =
    handedAgain eff none link s := by
  have hgroup : slotGroup none none s.group = s.group := by
    unfold slotGroup slotLevelOf
    rw [← h.level, if_neg nofun, ← h.mode]
  unfold enterAgain
  cases eff with
  | none =>
    unfold handedAgain
    rw [hgroup, show slotSourceOf none = none from rfl, ← h.source, ← h.select]
    rfl
  | some x =>
    set v := s.setLocks (s.locks ++ slotLocks (some x)) with hv
    have htaken : slotTaken (some x) v = handedAgain (some x) none link s := by
      have hslot : slotGroup (some x) none s.group = { s.group with slotLevel := slotLevelOf (some x) } := by
        unfold slotGroup
        rw [if_neg nofun, ← h.mode]
      unfold slotTaken handedAgain
      rw [hslot]
      cases slotSourceOf (some x) with
      | none => rw [← h.source, ← h.select]; rfl
      | some i =>
        exact push_restarted (s := v.setGroup { v.group with slotLevel := slotLevelOf (some x) }) h.still h.source
          h.select i
    refine (if_pos rfl).trans ?_
    rw [enterEffective_eq, htaken]
    split
    · exact groupOff_off (s := handedAgain (some x) none link s) rfl
    · rfl

/-- While FRESH the own station is not available, and a mode turned ON elects nothing (R111, R113). -/
theorem groupOn_fresh {c : OnCause} (hf : s.listen.fresh.isSome = true) (hm : s.group.mode = none) :
    groupOn c s = turnedOn c s := by
  refine groupOn_unelected hm (.inl ?_)
  have hfresh : isFresh s = true := by unfold isFresh freshFlag; rw [hf]; rfl
  unfold ownAvailable
  simp [hfresh]

/-- The slots handed again (R167). -/
theorem onAgain_eq (h : Cleared link s) (eff : Option Slot) (on : Option Slot) :
    (if on.isSome = true then groupOn .schedule (handedAgain eff none link s) else handedAgain eff none link s) =
      handedAgain eff on link s := by
  cases on with
  | none => rfl
  | some x =>
    refine (if_pos rfl).trans ?_
    exact groupOn_fresh (s := handedAgain eff none link s) h.fresh rfl

theorem removeLock_absent {k : Holder} (h : lockOf s.locks k = none) : removeLock k s = s := by
  unfold removeLock lampUncovered
  rw [withoutHolder_none h]
  refine if_neg ?_
  rw [State.setLocks_locks, Bool.and_not_self]
  nofun

/-- With no slots held, an evaluation hands them as they are handed again (R165, R167). -/
theorem onEntered_cleared (h : Cleared link s) (he : s.schedule.heldEffective = none) (ho : s.schedule.heldOn = none) :
    onEntered eff on s = handedAgain eff on link s := by
  have hlock : scheduleLock eff s = lockAgain eff s := by
    unfold scheduleLock lockAgain
    cases lockWanted eff with
    | none => exact removeLock_absent h.unlocked
    | some sc => rfl
  have heffective : effectiveEntered eff s = handedAgain eff none link s := by
    unfold effectiveEntered
    rw [he, hlock, lockAgain_eq h, ← enterAgain_eq h]
    cases eff <;> rfl
  unfold onEntered
  rw [ho, heffective]
  cases on with
  | none => rfl
  | some x => exact onAgain_eq h eff (some x)

/-- The schedule's warm reset hands the effective slot and the ON slot, found anew while SURE and held while UNSURE, and
holds them (R154, R167). -/
theorem resetSchedule_eq (h : Cleared link s) : resetSchedule s =
    ((handedAgain (resetEffective s) (resetOn s) link s).setClock { s.clock with source := none }).setSchedule
      ⟨s.schedule.slots, resetEffective s, resetOn s⟩ := by
  unfold resetEffective resetOn
  cases hsure : s.clock.sure.isSome with
  | true =>
    set v := (s.setClock { s.clock with source := none }).setSchedule
      { s.schedule with heldEffective := none, heldOn := none } with hv
    have heval : resetSchedule s = evaluate v := if_pos hsure
    rw [heval, evaluate_eq, onEntered_cleared (s := v) { h with } rfl rfl]
    rfl
  | false =>
    have hv : Cleared link (s.setClock { s.clock with source := none }) := { h with }
    rw [resetSchedule_unsure hsure, lockAgain_eq hv, enterAgain_eq hv]
    exact onAgain_eq hv s.schedule.heldEffective s.schedule.heldOn

end Sys2Proof.Machine
end

section
/-! ## The settling after a warm reset (R28, R39, R40, R115 to R117, R183) -/

namespace Sys2Proof.Machine

variable {s b z v : State} {eff : Option Slot} {h : Holder}

/-! ### The locks (R40, R153, R167) -/

/-- The KEYSWITCH lock of the kept position (R153). -/
def keyLocks (s : State) : List Lock :=
  if s.panel.switch.settled = some .locked then [⟨.keySwitch, scopesExam, none⟩] else []

/-- The WEAR lock that the settling derives anew (R40). -/
def wearLocks (s : State) : List Lock := if (lifeReached s || s.wear.lifeHold) = true then [wearLock] else []

theorem lockOf_append_or (xs ys : List Lock) (h : Holder) :
    lockOf (xs ++ ys) h = (lockOf xs h).or (lockOf ys h) := List.find?_append

theorem lockOf_keyLocks_other (hn : h ≠ .keySwitch) (s : State) : lockOf (keyLocks s) h = none := by
  unfold keyLocks
  split
  · simp [lockOf, hn.symm]
  · rfl

theorem lockOf_keyLocks (s : State) :
    (lockOf (keyLocks s) .keySwitch).isSome = true ↔ s.panel.switch.settled = some .locked := by
  unfold keyLocks
  split
  · next hl => exact iff_of_true rfl hl
  · next hl => exact iff_of_false nofun hl

theorem lockOf_slotLocks_other (hn : h ≠ .schedule) (eff : Option Slot) : lockOf (slotLocks eff) h = none := by
  unfold slotLocks
  split
  · simp [lockOf, hn.symm]
  · rfl

theorem lockOf_slotLocks (eff : Option Slot) :
    (lockOf (slotLocks eff) .schedule).map (fun l => l.scopes) = lockWanted eff := by
  unfold slotLocks
  split
  · next sc hsc => exact hsc.symm
  · next hnone => exact hnone.symm

theorem lockOf_wearLocks_other (hn : h ≠ .wear) (s : State) : lockOf (wearLocks s) h = none := by
  unfold wearLocks
  split
  · simp [lockOf, wearLock, hn.symm]
  · rfl

theorem lockOf_wearLocks (s : State) :
    (lockOf (wearLocks s) .wear).isSome = (lifeReached s || s.wear.lifeHold) := by
  unfold wearLocks
  split
  · next hl => exact hl.symm
  · next hl => exact (Bool.eq_false_iff.mpr hl).symm

theorem rebuiltLocks_holder (s z : State) (eff : Option Slot) : ∀ l ∈ keyLocks s ++ slotLocks eff ++ wearLocks z,
    l.holder = .wear ∨ l.holder = .schedule ∨ l.holder = .keySwitch := by
  have hkey : ∀ l ∈ keyLocks s, l.holder = .keySwitch := by unfold keyLocks; split <;> simp
  have hslot : ∀ l ∈ slotLocks eff, l.holder = .schedule := by unfold slotLocks; split <;> simp
  have hwear : ∀ l ∈ wearLocks z, l.holder = .wear := by unfold wearLocks; split <;> simp [wearLock]
  simp only [List.forall_mem_append]
  exact ⟨⟨fun l hl => .inr (.inr (hkey l hl)), fun l hl => .inr (.inl (hslot l hl))⟩, fun l hl => .inl (hwear l hl)⟩

/-! ### The judgements over a lamp at rest -/

/-- What the judgement of the life limit leaves with the lamp at rest and no WEAR lock (R39, R40). -/
def lifeTold (s : State) : State :=
  (s.setWear { s.wear with lifeHold := false }).setLocks (s.locks ++ wearLocks s)

theorem lifeJudge_rests (hr : LampRests s) (hs : s.group.selection = .unselected) (hn : lockOf s.locks .wear = none) :
    lifeJudge s = lifeTold s := by
  have hlit : litSide s.lamp.state = false := litSide_of_not_committed hr.1
  unfold lifeJudge lifeTold wearLocks
  by_cases hc : (lifeReached s || s.wear.lifeHold) = true
  · have hadd : addLock wearLock (s.setWear { s.wear with lifeHold := false }) =
        (s.setWear { s.wear with lifeHold := false }).setLocks (s.locks ++ [wearLock]) :=
      addLock_rests (s := s.setWear { s.wear with lifeHold := false }) hr hs hn (.inl rfl)
    rw [if_pos hc, if_pos hc, hlit]
    refine (if_neg nofun).trans ?_
    exact (if_neg (by rw [State.setWear_locks, hn]; nofun)).trans hadd
  · obtain ⟨-, hhold⟩ := Bool.or_eq_false_iff.mp (Bool.eq_false_iff.mpr hc)
    rw [if_neg hc, if_neg hc, List.append_nil, ← hhold]
    rfl

theorem lifeTold_judged (hr : LampRests s) : LifeJudged (lifeTold s) := by
  have hlit : litSide (lifeTold s).lamp.state = false := litSide_of_not_committed hr.1
  intro hc
  refine ⟨fun hl => absurd (hl.symm.trans hlit) nofun, fun _ => ⟨rfl, ?_⟩⟩
  have hreached : lifeReached s = true := (Bool.or_false _).symm.trans hc
  change (lockOf (s.locks ++ wearLocks s) .wear).isSome = true
  rw [lockOf_append_or, Option.isSome_or, lockOf_wearLocks, hreached]
  simp

/-- With the lamp at rest and FRESH running, nothing starts, strikes or withdraws: the life limit is judged, then the
group and the timers. -/
theorem settle_rests (hr : LampRests s) (hs : s.group.selection = .unselected) (hf : s.listen.fresh.isSome = true)
    (hn : lockOf s.locks .wear = none) (b : State) : settle b s = lastJudged b (lifeTold s) := by
  have hlife := lifeJudge_rests hr hs hn
  have hfresh : isFresh (lifeTold s) = true := by
    unfold isFresh freshFlag
    rw [show (lifeTold s).listen.fresh.isSome = true from hf]
    rfl
  have hstart : startTest (lifeTold s) = lifeTold s :=
    startTest_fixed.mpr fun ⟨_, hc⟩ => by simp [startConditions, hfresh] at hc
  have hstrike : strikeTest (lifeTold s) = lifeTold s := by
    have hrests : committedState (lifeTold s).lamp.state = false := hr.1
    refine strikeTest_idle ⟨fun hw => ?_, fun hg => ?_⟩
    · rw [hw] at hrests; cases hrests
    · rw [hg] at hrests; cases hrests
  have hfirst : firstJudgements s = lifeTold s := by
    unfold firstJudgements
    rw [hlife, hstart, hstrike, lifeJudge_fixed.mpr (lifeTold_judged hr)]
  have hunelected : (judgeGroup (lifeTold s)).group.selection ≠ .elected := by
    rw [judgeGroup_spec]
    change s.group.selection ≠ .elected
    rw [hs]
    nofun
  rw [settle_unwithdrawn (by rw [hfirst]; exact withdrawTest_unelected hunelected), hfirst]

/-! ### What is left of the last judgements -/

theorem lastJudged_rest (b v : State) : (lastJudged b v).locks = v.locks ∧ (lastJudged b v).wear = v.wear := by
  obtain ⟨hlocks, hwear, -⟩ := lastJudgements_rest b (judgeGroup v)
  obtain ⟨hlocks', hwear'⟩ := judgeGroup_rest v
  exact ⟨hlocks.trans hlocks', hwear.trans hwear'⟩

/-- A beacon that stands in its slot, not being sent, takes every change of the step (R81). -/
theorem lastJudged_line (h : beaconDue v.line = v.line) (b : State) : (lastJudged b v).line = v.line := by
  have hline : (idleJudge (fanStallJudge (retarget (judgeGroup v)))).line = v.line := by
    rw [retarget_eq, judgeGroup_spec]
    rfl
  rcases beaconJudge_line b (idleJudge (fanStallJudge (retarget (judgeGroup v)))) with hsame | hdue
  · exact hsame.trans hline
  · rw [hline, h] at hdue
    exact hdue

/-- Without commitment the idle timer does not run (R136). -/
theorem Settled.idle_stopped (h : Settled s) (hc : committedState s.lamp.state = false) : s.source.idle = none := by
  obtain ⟨-, -, -, -, -, -, hidle⟩ := h
  have hcondition : idleCondition s = false := by unfold idleCondition; simp [hc]
  have hnone := (idleJudge_fixed.mp hidle).trans hcondition
  simpa using hnone

/-- The group after its reset and the judgement of a lamp that is not committed (R115 to R117, R120). -/
theorem lastJudged_groupReset {eff on : Option Slot} {g : Group} (hg : v.group = slotGroup eff on (resetGroup g))
    (hc : committedState v.lamp.state = false) (b : State) :
    let u := lastJudged b v
    u.group.mode = (if on.isSome = true then some .schedule else none) ∧ u.group.levelOverride = none ∧
      u.group.slotLevel = slotLevelOf eff ∧ u.group.selection = .unselected ∧ u.group.growth = 0 ∧
      u.group.shortfall = false ∧ u.group.shortTimer = (if groupShort u = true then some 10000 else none) := by
  intro u
  have hgroup : u.group = judgedGroup v := lastJudged_group b v
  have hshort : groupShort u = shortWhenJudged v := lastJudged_groupShort b v
  have hshortfall : shortfallNow v = false := by unfold shortfallNow; rw [hc]; rfl
  rw [hshort, hgroup]
  unfold judgedGroup
  rw [hg, hshortfall]
  refine ⟨rfl, rfl, rfl, rfl, ite_self 0, rfl, rfl⟩

end Sys2Proof.Machine
end

section
/-! ## The warm reset as a whole, and RESTART (10, R178, R183) -/

namespace Sys2Proof.Machine

variable {s u z : State} {l : HallLine} {t : Telegram} {rest : List Telegram}

/-! ### What each block's reset leaves, before the settling -/

/-- The send queue of a warm reset: the RELEASE of a lamp that claimed, and the first beacon of FRESH (R28, R74). -/
def resetQueue (s : State) : List QueueEntry :=
  if claiming s.lamp.state = true then [newEntry .release, newEntry .beacon] else [newEntry .beacon]

/-- The listening conditions when FRESH begins (R74, R79). -/
def freshListen (x : Settings) (draws : Nat) : Listen where
  fresh := some (3 * x.interval * 1000)
  duplicate := none
  beacon := some (x.interval * 1000 - (Config.beaconSpread draws).val)
  spacing := none
  draws := draws + 1

/-- What a warm reset makes of `s`, its line being `l`, before the settling (R183). -/
structure Rebuilt (s : State) (l : HallLine) (z : State) : Prop where
  lamp : LampReset s z
  heldP : z.lamp.heldP = s.lamp.heldP
  rests : LampRests z
  wear : z.wear = { s.wear with
    litTime := if burning s.lamp.state = true then 0 else s.wear.litTime
    write := z.wear.write, writeAgain := z.wear.writeAgain, outcome := z.wear.outcome }
  unburnt : burning s.lamp.state = false → z.wear = s.wear
  locks : z.locks = keyLocks s ++ slotLocks (resetEffective s)
  group : z.group = slotGroup (resetEffective s) (resetOn s) (resetGroup s.group)
  source : z.source = restartSource s.settings.initialList (slotSourceOf (resetEffective s))
  link : ∃ n, RecordsGone s.geometry n ∧ z.scalerLink =
    s.scalerLink ++ recordsBetween s.geometry s.geometry.linesSent n ++
      resetSelects s.settings.initialList (slotSourceOf (resetEffective s))
  geometry : z.geometry = resetEngine { s.geometry with linkDraws := z.geometry.linkDraws }
  line : z.line = { resetLine l with queue := resetQueue s }
  listen : z.listen = freshListen s.settings s.listen.draws
  schedule : z.schedule = ⟨s.schedule.slots, resetEffective s, resetOn s⟩
  clock : z.clock = { s.clock with source := none }
  peers : z.peers = []
  claims : z.claims = []
  kept : z.settings = s.settings ∧ z.straps = s.straps ∧ z.start = s.start ∧ z.serial = s.serial ∧ z.pins = s.pins ∧
    z.panel = s.panel

/-- The part of a warm reset between the engine's and the selector's (R73, R74, R120). -/
def begun (s : State) : State := beginFresh ((resetPeers s).setGroup (resetGroup s.group))

theorem warmReset_blocks (s : State) :
    let r := resetLocks (resetLamp ((s.setLine (resetLine s.line)).setClaims []))
    warmReset s =
      resetSchedule (resetSelector (begun ((linkProgress r).setGeometry (resetEngine (linkProgress r).geometry)))) :=
  rfl

/-- When FRESH begins, its beacon joins the RELEASE in the queue, or stands there alone (R74). -/
theorem beaconDue_released {c : Bool} (hq : l.queue = if c = true then [newEntry .release] else []) : beaconDue l =
    { l with queue := if c = true then [newEntry .release, newEntry .beacon] else [newEntry .beacon] } := by
  rw [beaconDue_slot, hq]
  cases c <;> rfl

theorem begun_eq (s : State) : begun s =
    (((s.setPeers []).setListen (freshListen s.settings s.listen.draws)).setGroup (resetGroup s.group)).setLine
      (beaconDue s.line) := rfl

/-- The state when the schedule hands its slots again: the selector has started anew (R139). -/
def restarted (s : State) : State :=
  { s with
    peers := [], listen := freshListen s.settings s.listen.draws, group := resetGroup s.group, line := beaconDue s.line
    source := restartSource s.settings.initialList none
    scalerLink := s.scalerLink ++ resetSelects s.settings.initialList none }

theorem resetSelector_begun (hg : sendingTable s.geometry = false) : resetSelector (begun s) = restarted s := by
  have hgeometry : (begun s).geometry = s.geometry := by rw [begun_eq]; rfl
  rw [resetSelector_eq (s := begun s) (by rw [hgeometry]; exact hg), begun_eq]
  rfl

/-- The blocks before the schedule clear what it reads. -/
theorem restarted_cleared (hr : LampRests s) (hn : lockOf s.locks .schedule = none)
    (hg : sendingTable s.geometry = false) : Cleared s.scalerLink (restarted s) where
  rests := hr
  fresh := rfl
  mode := rfl
  level := rfl
  selection := rfl
  unlocked := hn
  still := hg
  source := rfl
  select := rfl

/-- What the blocks after the engine's make of a state (R73, R74, R120, R139, R167). -/
def restored (s : State) : State :=
  { s with
    peers := [], listen := freshListen s.settings s.listen.draws, locks := s.locks ++ slotLocks (resetEffective s)
    group := slotGroup (resetEffective s) (resetOn s) (resetGroup s.group), line := beaconDue s.line
    source := restartSource s.settings.initialList (slotSourceOf (resetEffective s))
    scalerLink := s.scalerLink ++ resetSelects s.settings.initialList (slotSourceOf (resetEffective s))
    clock := { s.clock with source := none }, schedule := ⟨s.schedule.slots, resetEffective s, resetOn s⟩ }

theorem resetSchedule_restarted (hr : LampRests s) (hn : lockOf s.locks .schedule = none)
    (hg : sendingTable s.geometry = false) : resetSchedule (restarted s) = restored s := by
  rw [resetSchedule_eq (restarted_cleared hr hn hg)]
  rfl

/-- The blocks up to the engine's: line, claims, lamp, locks and engine (R28, R62, R153, R178); `n` records of a table
had gone (log 26). -/
def engineStopped (s : State) (l : HallLine) (n draws : Nat) : State :=
  { resetLamp ((s.setLine (resetLine l)).setClaims []) with
    locks := keyLocks s, geometry := resetEngine { s.geometry with linkDraws := draws }
    scalerLink := s.scalerLink ++ recordsBetween s.geometry s.geometry.linesSent n }

theorem resetLocks_eq (s : State) : resetLocks s = s.setLocks (keyLocks s) := rfl

/-- The warm reset in one piece (R183). -/
theorem warmReset_eq (s : State) (l : HallLine) : ∃ n draws, RecordsGone s.geometry n ∧
    warmReset (s.setLine l) = restored (engineStopped s l n draws) := by
  set r := resetLamp ((s.setLine (resetLine l)).setClaims []) with hr
  have houtside : outside r = outside ((s.setLine (resetLine l)).setClaims []) := outside_resetLamp _
  have hgeometry : (resetLocks r).geometry = s.geometry := (congrArg State.geometry houtside :)
  have hlink : (resetLocks r).scalerLink = s.scalerLink := (congrArg State.scalerLink houtside :)
  have hlocks : (resetLocks r).locks = keyLocks s := by
    have hpanel : r.panel = s.panel := (congrArg State.panel houtside :)
    rw [resetLocks_eq, State.setLocks_locks]
    unfold keyLocks
    rw [hpanel]
  obtain ⟨n, draws, hgone, hengine⟩ := linkProgress_resetEngine (resetLocks r)
  rw [hgeometry, hlink] at hengine
  rw [hgeometry] at hgone
  refine ⟨n, draws, hgone, ?_⟩
  have hstopped : ((resetLocks r).setScalerLink
      (s.scalerLink ++ recordsBetween s.geometry s.geometry.linesSent n)).setGeometry
        (resetEngine { s.geometry with linkDraws := draws }) = engineStopped s l n draws := by
    unfold engineStopped
    rw [← hlocks, ← hr]
    rfl
  have hrests : LampRests (engineStopped s l n draws) := ⟨resetLamp_notCommitted _, resetLamp_relight _⟩
  have hunlocked : lockOf (keyLocks s) .schedule = none := lockOf_keyLocks_other (by decide) s
  have hstill : sendingTable (engineStopped s l n draws).geometry = false := resetEngine_still _
  rw [← resetSchedule_restarted hrests hunlocked hstill, ← resetSelector_begun hstill, ← hstopped, ← hengine]
  exact warmReset_blocks (s.setLine l)

theorem restored_line (h : s.line = { resetLine l with queue := if claiming u.lamp.state = true then
    [newEntry .release] else [] }) : (restored s).line = { resetLine l with queue := resetQueue u } := by
  change beaconDue s.line = _
  rw [h]
  exact beaconDue_released (l := { resetLine l with queue := _ }) rfl

theorem rebuilt_warmReset (s : State) (l : HallLine) : Rebuilt s l (warmReset (s.setLine l)) := by
  obtain ⟨n, draws, hgone, hreset⟩ := warmReset_eq s l
  rw [hreset]
  set t := (s.setLine (resetLine l)).setClaims [] with ht
  set x := engineStopped s l n draws with hx
  have houtside : outside (resetLamp t) = outside t := outside_resetLamp t
  have hclock : x.clock = s.clock := (congrArg State.clock houtside :)
  have hschedule : x.schedule = s.schedule := (congrArg State.schedule houtside :)
  have hsettings : x.settings = s.settings := (congrArg State.settings houtside :)
  have hlisten : x.listen = s.listen := (congrArg State.listen houtside :)
  have hgroup : x.group = s.group := resetLamp_group t
  have hline := restored_line (s := x) (u := s) (resetLamp_line (s := t) rfl rfl)
  have heffective : resetEffective x = resetEffective s := by
    unfold resetEffective
    rw [hclock, hschedule]
  have hon : resetOn x = resetOn s := by
    unfold resetOn
    rw [hclock, hschedule]
  unfold restored at hline ⊢
  rw [hlisten, hgroup, hclock, hschedule, hsettings, heffective, hon] at hline ⊢
  exact
    { lamp := LampReset.judged (s := s) (r := resetLamp t) (lampReset_resetLamp t) rfl fun _ => resetLamp_heldP t
      heldP := resetLamp_heldP t
      rests := ⟨resetLamp_notCommitted t, resetLamp_relight t⟩
      wear := resetLamp_wear t
      unburnt := resetLamp_wear_unburnt (s := t)
      locks := rfl
      group := rfl
      source := rfl
      link := ⟨n, hgone, rfl⟩
      geometry := congrArg (fun d => resetEngine { s.geometry with linkDraws := d })
        (resetEngine_draws { s.geometry with linkDraws := draws }).symm
      line := hline
      listen := rfl
      schedule := rfl
      clock := rfl
      peers := rfl
      claims := resetLamp_claims rfl
      kept := ⟨rfl, (congrArg State.straps houtside :), (congrArg State.start houtside :),
        (congrArg State.serial houtside :), (congrArg State.pins houtside :), (congrArg State.panel houtside :)⟩ }

/-! ### What stands at the end of the step -/

/-- A beacon stands in the queue of a warm reset, and a change falling due meanwhile joins it (R74, R81). -/
theorem beaconDue_reset (s : State) (l : HallLine) :
    beaconDue { resetLine l with queue := resetQueue s } = { resetLine l with queue := resetQueue s } := by
  rw [beaconDue_slot]
  unfold resetQueue
  split <;> rfl

theorem freshListen_timer (x : Settings) (draws : Nat) :
    ∃ b ∈ (freshListen x draws).beacon, x.interval * 1000 ≤ b + 63 ∧ b ≤ x.interval * 1000 := by
  have hspread := (Config.beaconSpread draws).isLt
  exact ⟨_, rfl, by omega, by omega⟩

theorem Rebuilt.unlocked (h : Rebuilt s l z) : lockOf z.locks .wear = none := by
  rw [h.locks, lockOf_append_or, lockOf_keyLocks_other (by decide), lockOf_slotLocks_other (by decide)]
  rfl

/-- The life limit is reached or held as it was before the reset (R29, R40). -/
theorem Rebuilt.lifeLimit (h : Rebuilt s l z) :
    (lifeReached z || z.wear.lifeHold) = (lifeReached s || s.wear.lifeHold) := by
  obtain ⟨hsettings, -⟩ := h.kept
  unfold lifeReached wearHours
  rw [h.wear, hsettings]

/-- After a warm reset the settling judges the life limit, the group and the timers alone. -/
theorem Rebuilt.settle (h : Rebuilt s l z) (b : State) : settle b z = lastJudged b (lifeTold z) :=
  settle_rests h.rests (by rw [h.group]; rfl) (by rw [h.listen]; rfl) h.unlocked b

theorem Rebuilt.settle_locks (h : Rebuilt s l z) (b : State) :
    (Machine.settle b z).locks = keyLocks s ++ slotLocks (resetEffective s) ++ wearLocks z := by
  obtain ⟨hlocks, -⟩ := lastJudged_rest b (lifeTold z)
  rw [h.settle b, hlocks, ← h.locks]
  rfl

theorem Rebuilt.settle_line (h : Rebuilt s l z) (b : State) :
    (Machine.settle b z).line = { resetLine l with queue := resetQueue s } := by
  have hline : (lifeTold z).line = { resetLine l with queue := resetQueue s } := h.line
  rw [h.settle b, lastJudged_line (by rw [hline]; exact beaconDue_reset s l), hline]

theorem Rebuilt.groupReset (h : Rebuilt s l z) (b : State) : GroupReset s (Machine.settle b z) := by
  rw [h.settle b]
  exact lastJudged_groupReset (v := lifeTold z) h.group h.rests.1 b

theorem Rebuilt.lampReset (h : Rebuilt s l z) (b : State) : LampReset s (Machine.settle b z) := by
  rw [h.settle b]
  refine h.lamp.judged (lastJudged_lamp b (lifeTold z)) fun hp => ?_
  have hpower : commonPower (lifeTold z) = s.group.p := by
    rw [← hp, lastJudged_group]
    rfl
  have hheld : (lifeTold z).group.p = s.group.p := by
    change z.group.p = s.group.p
    rw [h.group]
    rfl
  exact (if_pos (hpower.trans hheld.symm)).trans h.heldP

theorem Rebuilt.wearKept (h : Rebuilt s l z) (b : State) : WearKept s (Machine.settle b z) := by
  obtain ⟨-, hjudged⟩ := lastJudged_rest b (lifeTold z)
  have hwear : (Machine.settle b z).wear = { z.wear with lifeHold := false } :=
    (congrArg State.wear (h.settle b)).trans hjudged
  have hlimit : (lockOf (Machine.settle b z).locks .wear).isSome = (lifeReached s || s.wear.lifeHold) := by
    rw [h.settle_locks b, lockOf_append_or, ← h.locks, h.unlocked, Option.none_or, lockOf_wearLocks, h.lifeLimit]
  unfold WearKept
  rw [hwear, hlimit]
  have hkept := h.wear
  refine ⟨by rw [hkept], by rw [hkept], by rw [hkept], by rw [hkept], fun hb => ?_, rfl⟩
  rw [h.unburnt hb]
  exact ⟨rfl, rfl, rfl⟩

theorem Rebuilt.selectorReset (h : Rebuilt s l z) (b : State) : SelectorReset s (Machine.settle b z) := by
  have houtside : outside (Machine.settle b z) = outside z := outside_settle b z
  have hrests : committedState (Machine.settle b z).lamp.state = false := by
    rw [h.settle b, lastJudged_lamp]
    exact h.rests.1
  have hidle := (settle_settled b z).idle_stopped hrests
  have hsource : (Machine.settle b z).source =
      restartSource s.settings.initialList (slotSourceOf (resetEffective s)) := by
    have hstopped : (Machine.settle b z).source = { (Machine.settle b z).source with idle := none } := by rw [← hidle]
    have hbesides : { (Machine.settle b z).source with idle := none } = { z.source with idle := none } :=
      congrArg State.source houtside
    rw [hstopped, hbesides, h.source]
    rfl
  obtain ⟨n, hgone, hlink⟩ := h.link
  unfold SelectorReset
  rw [hsource, settle_scalerLink, hlink]
  exact ⟨rfl, rfl, rfl, rfl, rfl, rfl, rfl, rfl, n, hgone, rfl⟩

/-- What a warm reset leaves at the end of its step is what the rules say (R183). -/
theorem Rebuilt.resetWarm (h : Rebuilt s l z) (b : State) : ResetWarm s (Machine.settle b z) := by
  have hlocks := h.settle_locks b
  obtain ⟨hsettings, hstraps, hstart, hserial, hpins, hpanel⟩ := h.kept
  have hline := h.settle_line b
  have horphan : (l.attempt.map fun a => { a with orphan := true }).all (fun a => a.orphan) = true := by
    cases l.attempt <;> rfl
  have hschedule : (lockOf (Machine.settle b z).locks .schedule).map (fun l => l.scopes) =
      lockWanted (resetEffective s) := by
    rw [hlocks, lockOf_append_or, lockOf_append_or, lockOf_keyLocks_other (by decide),
      lockOf_wearLocks_other (by decide), Option.none_or, Option.or_none, lockOf_slotLocks]
  have hkey : (lockOf (Machine.settle b z).locks .keySwitch).isSome = true ↔
      s.panel.switch.settled = some .locked := by
    rw [hlocks, lockOf_append_or, lockOf_append_or, lockOf_slotLocks_other (by decide),
      lockOf_wearLocks_other (by decide), Option.or_none, Option.or_none, lockOf_keyLocks]
  have hclaims : (Machine.settle b z).claims = [] := List.subset_nil.mp (h.claims ▸ settle_claims b z)
  refine ⟨h.groupReset b, h.selectorReset b, h.lampReset b, h.wearKept b, hschedule, ?_⟩
  rw [hline, settle_schedule, settle_peers, hclaims, settle_geometry, settle_listen, settle_settings, settle_straps,
    settle_start, settle_serial, settle_pins, settle_panel, settle_clock]
  exact ⟨h.schedule, rfl, rfl, rfl, rfl, rfl, horphan, rfl, rfl, rfl, rfl, h.peers, rfl, h.geometry,
    congrArg Listen.fresh h.listen, congrArg Listen.duplicate h.listen, congrArg Listen.spacing h.listen,
    by rw [h.listen]; exact freshListen_timer _ _, by rw [hlocks]; exact rebuiltLocks_holder s z _, hkey, hsettings,
    hstraps, hstart, hserial, hpins, hpanel, h.clock⟩

/-- A warm reset made in a step that changed the line alone before it (R178, R183). -/
theorem settle_warmReset (s : State) (l : HallLine) :
    let u := settle s (warmReset (s.setLine l))
    ResetWarm s u ∧ u.line.reading = discarded l.reading ∧ u.line.idle = l.idle := by
  have h := rebuilt_warmReset s l
  have hline := h.settle_line s
  exact ⟨h.resetWarm s, by rw [hline]; rfl, by rw [hline]; rfl⟩

/-! ### RESTART (R175, R178) -/

/-- While the ANSWER to a RESTART waits, no request is dispatched (R175). -/
theorem mayTake_restart (h : restartWaits s.line = true) : mayTake s t = false := by
  unfold mayTake
  rw [h]
  rfl

theorem ownRestart_directed (hb : t.body = []) (hd : directed s t = true) :
    ownRestart t s = (s, some (.of .taken)) := (if_neg (fun h => h hb)).trans (if_pos hd)

theorem ownRestart_undirected (hb : t.body = []) (hd : directed s t = false) : ownRestart t s = (warmReset s, none) :=
  (if_neg (fun h => h hb)).trans (if_neg (by rw [hd]; nofun))

/-- An undirected RESTART is the warm reset, its request taken (R178). -/
theorem dispatch_restart (h : AtHead kindRestart t rest s) (hb : t.body = []) (hd : directed s t = false) :
    dispatch (ofKind kindRestart) ownRestart s = warmReset (takeHead t rest s) := by
  have howner : ownRestart t (takeHead t rest s) = (warmReset (takeHead t rest s), none) :=
    ownRestart_undirected (s := takeHead t rest s) hb hd
  rw [dispatch_head h (ofKind_atHead h), howner]
  exact if_neg (by rw [hd]; nofun)

/-- Settles O24: whether undirected, at the echo of its ANSWER or at its drop, the warm reset is made of a state that
differs in the line alone. -/
theorem restartResetsWarm : Obligations.RestartResetsWarm := by
  intro s t rest a e n body hs
  refine ⟨mayTake_restart, fun h hb hd => ?_, fun h hb hd => ?_, fun ha ho he hp => ⟨?_, fun hw hn => ?_⟩⟩
  · exact finish_answered hs h (ofKind_atHead h) (ownRestart_directed (s := takeHead t rest s) hb hd)
  · exact ⟨_, congrArg (fun u => Host.Outcome.next (settle s u)) (dispatch_restart h hb hd),
      settle_warmReset s (takeHead t rest s).line⟩
  · have hecho := sentComplete_eq ha ho he
    rw [hp] at hecho
    obtain ⟨hwarm, -⟩ := settle_warmReset s (left (closed [.sent a.frame] .idle s.line))
    exact ⟨_, congrArg (fun u => Host.Outcome.next (settle s u)) hecho, hwarm⟩
  · have hdrop {l : HallLine} (c : AttemptClosed s l) :
        attemptFailed (s.setLine l) = warmReset (s.setLine (left l)) := by
      rw [attemptFailed_drops (s := s.setLine l) (by rw [State.setLine_line, c.queue, he]) hw hn, hp]
      rfl
    rw [exec_loss ha ho, exec_lineFault ha ho, hdrop (closed_attemptClosed s _ _), hdrop (faulted_attemptClosed s a)]
    obtain ⟨hlost, hreading, -⟩ := settle_warmReset s (left (closed [.lost a.frame] (.receiving []) s.line))
    obtain ⟨hfaulted, -⟩ := settle_warmReset s (left (faulted a s.line))
    exact ⟨⟨_, rfl, hlost, hreading⟩, _, rfl, hfaulted⟩

end Sys2Proof.Machine
end
